-- ==== Sys2Proof/Word.lean ====
section
/-!
DEFINITION. Words and the plainest arithmetic of the TS-10 (00_scope.md, R1 and section 7).
Quantities are integers: what the manual adds, compares and clamps is `Int` or `Nat`; bytes on the
ring and words of record memory are bit vectors.
-/

namespace Sys2Proof

/-- One byte of a ring frame (R212). -/
abbrev Byte := BitVec 8

/-- One word of record memory (R186: a signed 32-bit number). -/
abbrev Word := BitVec 32

/-- The 16-bit check of a ring frame (R199, R212). -/
abbrev Check := BitVec 16

/-- A feeder number 0..9 (00_scope.md 7.3). -/
abbrev Feeder := Fin 10

/-- A measurement point 0..23 (R2). -/
abbrev Point := Fin 24

/-- A neighbour slot 0..3 (R98). -/
abbrev Slot := Fin 4

/-- A test slot 0 or 1 (R79). -/
abbrev TestSlot := Fin 2

/-- clamp(x, a, b) of R1. -/
def clampInt (x a b : Int) : Int := if x < a then a else if x > b then b else x

/-- A count that increases by one and saturates at `top`. -/
def satInc (top n : Nat) : Nat := if n < top then n + 1 else top

/-- The feeders in the order of their numbers. -/
def allFeeders : List Feeder := [0, 1, 2, 3, 4, 5, 6, 7, 8, 9]

/-- The neighbour slots in the order of their numbers. -/
def allSlots : List Slot := [0, 1, 2, 3]

/-- The measurement points in the order of their numbers. -/
def allPoints : List Point :=
  [0, 1, 2, 3, 4, 5, 6, 7, 8, 9, 10, 11, 12, 13, 14, 15, 16, 17, 18, 19, 20, 21, 22, 23]

/-- Every entry of a vector replaced by its image (written over lists, so that the kernel evaluates it). -/
def vmap {α β : Type} {n : Nat} (f : α → β) (v : Vector α n) : Vector β n :=
  ⟨(v.toList.map f).toArray, by simp⟩

@[simp] theorem vmap_getElem {α β : Type} {n : Nat} (f : α → β) (v : Vector α n) (i : Nat)
    (h : i < n) : (vmap f v)[i] = f v[i] := by
  simp [vmap]

end Sys2Proof
end

