-- ==== Sys2Proof/Syntax.lean ====
section
/-!
DEFINITION. The commands of the TS-10: one constructor of `Instr` for each row of spec/opcode_table.json,
with the plain data its operands carry (settings records, ring frames, what the settings memory answers).
-/

namespace Sys2Proof

/-! ### Settings records (the objects of R220; field order as in the rules' tables, R221) -/

/-- The STATION record, R223. -/
structure StationRec where
  ownId : Nat
  panel : Option Nat
  gateway : Option Nat
  lossTime : Nat
  vBusMin : Nat
  vSetMin : Nat
  vSetMax : Nat
  iRectTrip : Nat
  iLeak : Nat
  tLeak : Nat
  deriving DecidableEq, Repr

/-- A point entry of the stream map, R5. -/
structure MapPoint where
  node : Nat
  channel : Nat
  point : Nat
  gain : Nat
  shift : Nat
  offset : Int
  deriving DecidableEq, Repr

/-- A range entry of the stream map, R6. -/
structure MapRange where
  base : Nat
  size : Nat
  channel : Nat
  first : Nat
  gain : Nat
  shift : Nat
  offset : Int
  deriving DecidableEq, Repr

/-- A feeder record: the fields of R25, then those of R50. -/
structure FeederRec where
  iDb : Nat
  iTh : Nat
  tauT : Nat
  thetaAlarm : Nat
  thetaTrip : Nat
  inUse : Bool
  breakerNode : Option Nat
  rTest : Nat
  vLive : Nat
  rMin : Nat
  settle : Nat
  window : Nat
  attempts : Nat
  deadTime : Nat
  reclaim : Nat
  followTimeout : Nat
  tClose : Nat
  tOpen : Nat
  /-- blind action: `true` is OPEN, `false` is HOLD -/
  blindOpen : Bool
  secNo : Nat
  slot : Nat
  testEnd : Bool
  localCoupled : Bool
  deriving DecidableEq, Repr

/-- A bank of protection settings, R26. -/
structure BankRec where
  imaxEnable : Bool
  iMax : Nat
  confirm : Nat
  ddlEnable : Bool
  diStart : Nat
  diReset : Nat
  deltaTrip : Nat
  tMin : Nat
  tMax : Nat
  tReset : Nat
  pbImax : Bool
  pbDdl : Bool
  trImax : Bool
  trDdl : Bool
  deriving DecidableEq, Repr

/-- A neighbour slot's settings, R98. -/
structure NeighbourRec where
  stationId : Nat
  linkNode : Option Nat
  channel : Nat
  tLink : Nat
  tTt : Nat
  deriving DecidableEq, Repr

/-- The REGULATOR record, R138. -/
structure RegulatorRec where
  gateNode : Option Nat
  vSet : Nat
  droop : Nat
  iLim : Nat
  kLim : Nat
  ki : Nat
  trimMax : Nat
  rC : Nat
  kD0 : Nat
  vD0Min : Nat
  alphaMin : Nat
  ramp : Nat
  alphaPb : Nat
  tPb : Nat
  tAc : Nat
  deriving DecidableEq, Repr

/-- The recorder setup, R183. -/
structure RecorderRec where
  points : List Nat
  postCount : Nat
  cap : Nat
  deriving DecidableEq, Repr

/-- A descriptor of the record chain, R184 (`length` 0 means 4096). -/
structure ChainDesc where
  start : Nat
  length : Nat
  last : Bool
  deriving DecidableEq, Repr

/-- Every settings object of the catalogue (R220); the settings image holds one of these (R224). -/
structure Tables where
  station : StationRec
  mapPoint : Vector (Option MapPoint) 32
  mapRange : Vector (Option MapRange) 4
  feeder : Vector FeederRec 10
  bankA : Vector BankRec 10
  bankB : Vector BankRec 10
  neighbour : Vector NeighbourRec 4
  regulator : RegulatorRec
  curve : Vector Nat 65
  recorder : RecorderRec
  /-- no descriptor when no chain is loaded (R197, R221) -/
  chain : List ChainDesc
  deriving DecidableEq, Repr

/-! ### What arrives from outside -/

/-- An arriving frame of a kind that has a row of its own: every field of R212 but the kind code, which the
row gives. The number of bytes received is 6 plus the payload's length. -/
structure RxFrame where
  dest : Byte
  src : Byte
  len : Byte
  payload : List Byte
  check : Check
  deriving DecidableEq, Repr

/-- What the settings memory answers at power-on (R227): nothing within 200 ms, or an image and the check
value read with it. -/
inductive MemoryAnswer where
  | silent
  | image (img : Tables) (check : Nat)
  deriving DecidableEq, Repr

/-- Which event of the protection unit handed an operate report (R40): a delivery (IMAX or DDL) or a period
end (THERMAL). The controller takes the two in either order. -/
inductive ReportSource where
  | delivery
  | periodEnd
  deriving DecidableEq, Repr

/-! ### The commands, in the order of the table -/

/-- One constructor for each row of spec/opcode_table.json. -/
inductive Instr where
  | powerOn (straps : Byte)
  | settingsLoadEnd (answer : MemoryAnswer)
  | tick
  | millisecondAdvance
  | pointLoss (p : Point)
  | controlTick
  | thermalPeriodEnd
  | neighbourFramePeriod
  | ringWindowEnd
  | ringFrameReceived (bytes : List Byte)
  | sampleFrame (fr : RxFrame)
  | timeFrame (fr : RxFrame)
  | breakerStatusFrame (fr : RxFrame)
  | rectStatusFrame (fr : RxFrame)
  | linkInFrame (fr : RxFrame)
  | requestFrame (fr : RxFrame)
  | arbiterTake
  | frameSendEnd
  | operateReport (f : Feeder) (source : ReportSource)
  | testOutcome (f : Feeder)
  | ttFailReport (f : Feeder)
  | breakerFailNotice (f : Feeder)
  | breakerSupervisionExpiry (f : Feeder)
  | tOpenExpiry (f : Feeder)
  | tCloseExpiry (f : Feeder)
  | deadTimeExpiry (f : Feeder)
  | reclaimExpiry (f : Feeder)
  | followTimeout (f : Feeder)
  | contactorTimerExpiry (k : TestSlot)
  | settleTimerExpiry (k : TestSlot)
  | releaseTimerExpiry (k : TestSlot)
  | linkTimerExpiry (n : Slot)
  | tTtExpiry (f : Feeder)
  | gateDriverSupervisionExpiry
  | tAcExpiry
  | acTimerExpiry
  | tPbExpiry
  | storeTimerExpiry
  | storeConfirm (readBack : Nat)
  | drainingEnd
  | stationWrite
  | mapPointWrite
  | mapRangeWrite
  | feederWrite
  | bankWrite
  | neighbourWrite
  | regulatorWrite
  | curveWrite
  | recorderWrite
  | chainWrite
  | mapperStatusRead
  | ringStatusRead
  | readSummary
  | readEvents
  | readRecord
  | feederOpen
  | feederClose
  | feederReset
  | clearContext
  | rectStart
  | rectStop
  | rectReset
  | setSetpoint
  | stationReset
  | emergencyOpen
  | setMode
  | setTime
  | ackEvents
  | ackNotice
  | recArm
  | recDisarm
  | recTrigger
  | store
  | restart
  deriving DecidableEq, Repr

end Sys2Proof
end

