-- ==== Sys2Proof/WellFormed.lean ====
section
/-!
DEFINITION. Which commands can be built at all from what the manual says arrives (R199, R212, R221): a frame's
length field fits its byte by type; the checks here are those the types do not make.
-/

namespace Sys2Proof

/-- Kind codes that have a row of their own in the table (R202: the kinds the part reads). -/
def readKindCodes : List Nat := [1, 2, 3, 5, 7, 9]

/-- A number that a two-byte field of a settings record can hold (R221). -/
def fitsField (n : Nat) : Bool := n < 65536

/-- A node field of one byte (R221). -/
def fitsNode (n : Option Nat) : Bool :=
  match n with
  | none => true
  | some k => k < 256

/-- RING_FRAME_RECEIVED stands for frames whose kind is not read by the part (the table's row, R201). -/
def wfRingBytes (bytes : List Byte) : Bool :=
  bytes.length < 6 || !(readKindCodes.contains (bytes.getD 2 0).toNat)

/-- An image the settings memory can hold in the format of R221: the counts of its lists fit one byte and
its node fields fit one byte. -/
def wfImage (t : Tables) : Bool :=
  t.recorder.points.length < 256 && t.chain.length < 256 &&
    fitsNode t.station.panel && fitsNode t.station.gateway && fitsNode t.regulator.gateNode &&
    t.curve.toList.all fitsField

/-- The well-formed commands. -/
def wellFormed : Instr → Bool
  | .ringFrameReceived bytes => wfRingBytes bytes
  | .settingsLoadEnd (.image img _) => wfImage img
  | _ => true

end Sys2Proof
end

