-- ==== Sys2Proof/Config.lean ====
section
/-!
DEFINITION. What the manual leaves open. Each constant has no body, so a statement about the model holds
whatever it is.
-/

namespace Sys2Proof

/-- The check value over the whole settings image (R224, R225, R227). The manual does not say how it is
computed. DESIGN CHOICE, safe: a free value, log entry 8. -/
opaque Config.imageCheck : Tables → Nat

/-- The bytes that carry one field of a status answer: the object code, the field's place in the answer, and
the field's content as the numbers it consists of. The manual gives the fields and the presence bytes (R221),
not the widths. DESIGN CHOICE, safe: a free value, log entry 9. -/
opaque Config.statusValue : Nat → Nat → List Int → List Byte

/-- The bytes that a RESPONSE carries of an answer longer than its 117 data bytes (R212), of which at most the first 117
are sent. The manual gives the limit, not what is sent of such an answer. DESIGN CHOICE, safe: a free value, log entry
9. -/
opaque Config.longAnswer : List Byte → List Byte

end Sys2Proof
end

