-- ==== Sys2Proof/Machine/Settings.lean ====
section
/-!
DEFINITION. The defaults of every settings object (R5, R6, R25, R26, R50, R98, R138, R145, R183, R184, R223),
taken when the settings store is found bad (R227).
-/

namespace Sys2Proof.Machine
open Sys2Proof

/-- R223. -/
def defaultStation : StationRec :=
  { ownId := 1, panel := none, gateway := none, lossTime := 16, vBusMin := 4000, vSetMin := 6000,
    vSetMax := 9000, iRectTrip := 12000, iLeak := 80, tLeak := 40 }

/-- R25 and R50. -/
def defaultFeeder : FeederRec :=
  { iDb := 50, iTh := 1000, tauT := 6000, thetaAlarm := 9000, thetaTrip := 11000,
    inUse := false, breakerNode := none, rTest := 2500, vLive := 4000, rMin := 150, settle := 40,
    window := 400, attempts := 2, deadTime := 50, reclaim := 600, followTimeout := 300, tClose := 150,
    tOpen := 60, blindOpen := false, secNo := 0, slot := 0, testEnd := false, localCoupled := false }

/-- R26. -/
def defaultBank : BankRec :=
  { imaxEnable := true, iMax := 8000, confirm := 2, ddlEnable := true, diStart := 40, diReset := 10,
    deltaTrip := 2500, tMin := 8, tMax := 160, tReset := 12, pbImax := true, pbDdl := false,
    trImax := true, trDdl := true }

/-- R98. -/
def defaultNeighbour : NeighbourRec :=
  { stationId := 0, linkNode := none, channel := 0, tLink := 50, tTt := 40 }

/-- R138. -/
def defaultRegulator : RegulatorRec :=
  { gateNode := none, vSet := 7800, droop := 20, iLim := 4000, kLim := 5, ki := 64, trimMax := 500,
    rC := 30, kD0 := 27000, vD0Min := 4000, alphaMin := 500, ramp := 50, alphaPb := 12000, tPb := 80,
    tAc := 500 }

/-- R145: F[j] = 100 × arccos(j / 64) in degrees, rounded to the nearest integer. -/
def defaultCurve : Vector Nat 65 :=
  #v[9000, 8910, 8821, 8731, 8642, 8552, 8462, 8372, 8282, 8192, 8101, 8010, 7919,
    7828, 7736, 7645, 7552, 7460, 7367, 7273, 7179, 7084, 6989, 6894, 6798, 6701,
    6603, 6505, 6406, 6306, 6205, 6103, 6000, 5896, 5791, 5685, 5577, 5468, 5358,
    5246, 5132, 5016, 4899, 4779, 4657, 4532, 4405, 4275, 4141, 4004, 3862, 3717,
    3566, 3409, 3246, 3075, 2896, 2705, 2501, 2280, 2036, 1761, 1436, 1014, 0]

/-- R183. -/
def defaultRecorder : RecorderRec := { points := [20, 21], postCount := 1024, cap := 8192 }

/-- The unconfigured station (R227). -/
def defaultTables : Tables :=
  { station := defaultStation
    mapPoint := Vector.replicate 32 none
    mapRange := Vector.replicate 4 none
    feeder := Vector.replicate 10 defaultFeeder
    bankA := Vector.replicate 10 defaultBank
    bankB := Vector.replicate 10 defaultBank
    neighbour := Vector.replicate 4 defaultNeighbour
    regulator := defaultRegulator
    curve := defaultCurve
    recorder := defaultRecorder
    chain := [] }

end Sys2Proof.Machine
end

