-- ==== Sys2Proof/Machine/State.lean ====
section
/-!
DEFINITION. The state of the TS-10 as plain data, its faults and refusals, and `State.reset`.
INVENTORY.md lists every field with the rule that names it and its reset value.
-/

namespace Sys2Proof.Machine
open Sys2Proof

/-! ### Names (00_scope.md section 5; the codes of R212 are in Machine/Flags.lean) -/

/-- Where the part stands between reset pin and service (00_scope.md 7.7, R213, R227; log entry 1). -/
inductive Phase where
  | held      -- the reset pin is held: nothing acts but POWER_ON
  | loading   -- the settings image is being read; only the ring interface and the time base run
  | running
  deriving DecidableEq, Repr

/-- The ten states of a feeder controller, R56. -/
inductive FeederState where
  | unknown | out | testWait | testing | closing | service | opening | deadTime | follow | lockout
  deriving DecidableEq, Repr

/-- The two setting banks, R26. -/
inductive Bank where
  | a | b
  deriving DecidableEq, Repr

/-- Position of a breaker, R52 and R128. -/
inductive Position where
  | opened | closed | travel
  deriving DecidableEq, Repr

/-- The seven states of the rectifier controller, R127. -/
inductive RectState where
  | off | starting | regulating | phaseBack | blocked | stopping | tripped
  deriving DecidableEq, Repr

/-- Every cause name of the part's list, R212. -/
inductive Cause where
  | imax | ddl | thermal | transfer | station | breakerFail | command | blind | recloseExhausted
  | closeFail | followTimeout | uncoord | ttFail | pass | fail | live | inconclusive | yielded
  | timeout | settings | link | removed | standing | feeder | bankA | bankB | overcurrent
  | gateFault | acOpened | acBreakerFail | leakage | emergency | capped | short | aborted
  | panel | control | writeFailed | noMemory | check | content
  deriving DecidableEq, Repr

/-- Every event kind, R168 section 8.2.1. -/
inductive EventKind where
  | feederTrip | feederOpened | feederClosed | lockout | recloseStart | lineTestResult | testFail
  | thermalAlarm | blind | sighted | bankChange | linkUp | linkDown | ttSent | ttReceived | ttFail
  | closeFail | breakerFail | rectState | startFail | acLow | phaseBackTimeout | stationTrip
  | recordReady | settingsChanged | storeDone | storeBad | ringDegraded
  deriving DecidableEq, Repr

/-- Subject of an event or of a recorder trigger, R168, R188. -/
inductive Subject where
  | feeder (f : Feeder)
  | slot (n : Slot)
  | station
  deriving DecidableEq, Repr

/-- LOCAL or REMOTE, R219. -/
inductive ControlMode where
  | localMode | remote
  deriving DecidableEq, Repr

/-! ### Ring interface (10) -/

/-- A good frame: its check has been tested or computed (R199, R206, R212). -/
structure Frame where
  dest : Byte
  src : Byte
  kind : Byte
  payload : List Byte
  check : Check
  deriving DecidableEq, Repr

/-- The places of the ORDER queue, R207. -/
inductive OrderPlace where
  | breaker (node : Nat)
  | gate
  deriving DecidableEq, Repr

structure OrderEntry where
  place : OrderPlace
  frame : Frame
  deriving DecidableEq, Repr

structure LinkEntry where
  slot : Slot
  frame : Frame
  deriving DecidableEq, Repr

structure ReportEntry where
  isNotice : Bool
  frame : Frame
  deriving DecidableEq, Repr

/-- The frame leaving the outbound port; a forwarded one keeps its transit place until it has left (R205). -/
structure Sending where
  forwarded : Bool
  frame : Frame
  deriving DecidableEq, Repr

/-- R204, R205 to R211. -/
structure Rif where
  node : Nat
  strapFault : Bool
  transit : List Frame
  orderQ : List OrderEntry
  linkQ : List LinkEntry
  reportQ : List ReportEntry
  held : Nat
  port : Option Sending
  ringErr : Nat
  windowBad : Nat
  transitDrop : Nat
  malformed : Nat
  reportDiscard : Nat
  orderDiscard : Nat
  deriving DecidableEq, Repr

/-! ### Stream mapper (01) -/

/-- The freshness record of a point (section 1.5). `lossDue` is the model's own: the tick has found the age
at the loss time, and POINT_LOSS has not been taken (log entry 19). -/
structure PointRec where
  sighted : Bool
  ref : Option Nat
  last : Int
  age : Nat
  lossDue : Bool
  deriving DecidableEq, Repr

structure Smp where
  points : Vector PointRec 24
  unmappedKey : Option (Nat × Nat)
  unmapped : Nat
  stale : Nat
  invalid : Nat
  deriving DecidableEq, Repr

/-! ### Feeder protection (02) -/

/-- The content of a RUNNING DDL element, R30. -/
structure DdlRun where
  bank : Bank
  diStart : Nat
  diReset : Nat
  deltaTrip : Nat
  tMin : Nat
  tMax : Nat
  tReset : Nat
  phaseBack : Bool
  transfer : Bool
  base : Int
  t : Nat
  low : Nat
  deriving DecidableEq, Repr

/-- R30: QUIET when `run` is absent. -/
structure Ddl where
  iPrev : Option Int
  run : Option DdlRun
  deriving DecidableEq, Repr

/-- R43. -/
structure TripContext where
  cause : Cause
  time : Nat
  bank : Bank
  current : Int
  delta : Option Int
  t : Option Nat
  theta : Option Nat
  secNo : Option Nat
  further : Nat
  deriving DecidableEq, Repr

structure Fpu where
  imaxRun : Nat
  ddl : Ddl
  sum : Nat
  count : Nat
  theta : Nat
  alarmMark : Bool
  tripMark : Bool
  context : Option TripContext
  deriving DecidableEq, Repr

/-- R39. -/
structure OperateReport where
  cause : Cause
  bank : Bank
  current : Int
  delta : Option Int
  t : Option Nat
  theta : Option Nat
  phaseBack : Bool
  transfer : Bool
  deriving DecidableEq, Repr

/-! ### Line testing (04) -/

/-- R94. -/
inductive OutcomeKind where
  | pass | fail | live | inconclusive
  deriving DecidableEq, Repr

structure TestOutcome where
  kind : OutcomeKind
  rLine : Option Nat
  deriving DecidableEq, Repr

/-- The five phases of a test slot with their content, R79. -/
inductive TestPhase where
  | free
  | contact (f : Feeder) (timer : Nat)
  | settle (f : Feeder) (timer : Nat)
  | window (f : Feeder) (w n : Nat) (sumLine sumBus : Int)
  | release (f : Feeder) (timer : Nat) (pending : Option TestOutcome)
  deriving DecidableEq, Repr

structure Ltu where
  queue : List Feeder
  slot : Vector TestPhase 2
  deriving DecidableEq, Repr

/-! ### Feeder switching (03) -/

/-- R52. -/
structure BreakerStatus where
  position : Position
  ready : Bool
  localOp : Bool
  contactor : Bool
  deriving DecidableEq, Repr

/-- R56. `operateIn`, `outcomeIn` and `ttFailIn` hold what has been handed and not yet taken (R78, log entry 4). -/
structure Fct where
  state : FeederState
  status : Option BreakerStatus
  supervised : Bool
  supTimer : Option Nat
  attempts : Nat
  opClose : Bool
  openingCause : Option Cause
  opOpen : Bool
  ttFail : Bool
  pbRaised : Bool
  lockCause : Option Cause
  timer : Option Nat
  operateIn : List OperateReport
  outcomeIn : List TestOutcome
  ttFailIn : Nat
  deriving DecidableEq, Repr

/-! ### Section coordination (05) -/

/-- R101. -/
structure SectionEntry where
  secNo : Nat
  closed : Bool
  coupled : Bool
  testEnd : Bool
  ttReq : Bool
  ttAck : Bool
  lineLive : Bool
  testActive : Bool
  deriving DecidableEq, Repr

/-- R98, R103. -/
structure NeighbourFrame where
  stationId : Nat
  rectRunning : Bool
  busLive : Bool
  entries : List SectionEntry
  acceptedAt : Nat
  deriving DecidableEq, Repr

structure LinkState where
  up : Bool
  timer : Option Nat
  last : Option NeighbourFrame
  deriving DecidableEq, Repr

/-- R111, with the source of the request in flight that TT_SENT carries (R122, log entry 25):
`fromStation` is the source STATION. -/
structure Handshake where
  ttReq : Bool
  pending : Bool
  timer : Option Nat
  failed : Bool
  ttAck : Bool
  seenReq : Bool
  seenAck : Bool
  fromStation : Bool
  deriving DecidableEq, Repr

/-- R105. -/
structure Section where
  far : Option SectionEntry
  coupled : Bool
  doubleFed : Bool
  bank : Bank
  hs : Handshake
  deriving DecidableEq, Repr

structure Sco where
  link : Vector LinkState 4
  sect : Vector Section 10
  deriving DecidableEq, Repr

/-! ### Rectifier (06) -/

/-- R128. -/
structure RectStatus where
  ac : Position
  ready : Bool
  gateFault : Bool
  deriving DecidableEq, Repr

/-- The working values of the last whole computation, R151. -/
structure Working where
  vRef : Int
  e : Int
  u : Int
  vD0 : Int
  d : Int
  deriving DecidableEq, Repr

/-- R127. -/
structure Rcu where
  state : RectState
  adoption : Bool
  cause : Option Cause
  status : Option RectStatus
  supervised : Bool
  supTimer : Option Nat
  lastAlpha : Int
  trim : Int
  pbSet : Vector Bool 10
  timer : Option Nat
  acLow : Bool
  ocRun : Nat
  working : Option Working
  deriving DecidableEq, Repr

/-! ### Station trips (07) -/

/-- R154. -/
inductive Leakage where
  | normal
  | pickup (run : Nat)
  | operated
  deriving DecidableEq, Repr

structure Stl where
  leakage : Leakage
  lockout : Bool
  failNotices : List Feeder
  deriving DecidableEq, Repr

/-! ### Events and summary (08) -/

/-- R168. -/
structure EventRec where
  seq : Nat
  time : Nat
  kind : EventKind
  subject : Subject
  cause : Option Cause
  value : Option Int
  deriving DecidableEq, Repr

/-- The recorder state as the summary shows it, R173. -/
inductive RecorderName where
  | idle | armed | capturing | draining | held
  deriving DecidableEq, Repr

structure FeederSummary where
  state : FeederState
  contextHeld : Bool
  blind : Bool
  bank : Bank
  deriving DecidableEq, Repr

/-- R173. -/
structure Summary where
  unconfigured : Bool
  lockout : Bool
  mode : ControlMode
  feeders : List FeederSummary
  rect : RectState
  links : List Bool
  eventsPending : Bool
  eventsLost : Bool
  recorder : RecorderName
  storeBusy : Bool
  deriving DecidableEq, Repr

/-- R166, R170, R175: `notice` is the carried copy, present exactly while the notice-outstanding flag is set. -/
structure Evr where
  ms : Nat
  events : List EventRec
  nextSeq : Nat
  lost : Bool
  notice : Option Summary
  deriving DecidableEq, Repr

/-! ### Disturbance recorder (09) -/

/-- R191, R193. -/
inductive EndReason where
  | complete | capped | short | aborted
  deriving DecidableEq, Repr

/-- The record in progress, R182. -/
structure RecordInProgress where
  time : Nat
  cause : Cause
  subject : Subject
  preCount : Nat
  placed : Nat
  remaining : Nat
  words : Nat
  retriggers : Nat
  /-- none is IN_PROGRESS (R192) -/
  reason : Option EndReason
  /-- the frozen pre-trigger buffer (R190) -/
  frozen : List (List Int)
  deriving DecidableEq, Repr

/-- R182: each state with its content. -/
inductive RecorderState where
  | idle
  | armed (buffer : List (List Int))
  | capturing (r : RecordInProgress)
  | draining (r : RecordInProgress)
  | held (length : Nat) (reason : EndReason)
  deriving DecidableEq, Repr

/-- Record memory: (address, word), addresses strictly rising, no word equal to what an unlisted address
reads as (log entry 11). -/
abbrev RecordMemory := List (Nat × Word)

structure Drc where
  state : RecorderState
  missed : Nat
  writeBuf : List (Nat × Word)
  mem : RecordMemory
  deriving DecidableEq, Repr

/-! ### Management agent (11) -/

/-- A request as the management agent holds it, R215. -/
structure Request where
  src : Nat
  tag : Nat
  op : Nat
  obj : Nat
  index : Nat
  data : List Byte
  deriving DecidableEq, Repr

structure Mga where
  requests : List Request
  mode : ControlMode
  unconfigured : Bool
  busy : Bool
  storeTimer : Option Nat
  image : Option (Tables × Nat)
  deriving DecidableEq, Repr

/-! ### The periods counted in ticks -/

/-- Ticks since each period began: R166 (4), R139 (8), R35 (400), R100 (40), R200 (4000). -/
structure Clock where
  ms : Nat
  control : Nat
  thermal : Nat
  link : Nat
  window : Nat
  deriving DecidableEq, Repr

/-! ### The whole state -/

/-- Everything the spec gives the part, and the queue of waiting commands. -/
structure State where
  phase : Phase
  pending : List Instr
  clock : Clock
  tables : Tables
  rif : Rif
  smp : Smp
  fpu : Vector Fpu 10
  fct : Vector Fct 10
  ltu : Ltu
  sco : Sco
  rcu : Rcu
  stl : Stl
  evr : Evr
  drc : Drc
  mga : Mga
  deriving DecidableEq, Repr

/-- The reasons this block stops with a fault: none. Every command of the spec leaves the part running
(INVENTORY.md, Faults), so nobody raises one; safe. -/
inductive Fault where
  deriving DecidableEq, Repr

/-- The reasons a command is refused by the model. -/
inductive Refusal where
  /-- raised by exec's arm of a row that has no meaning yet; no arm does; safe -/
  | notModelled (mnemonic : String)
  deriving DecidableEq, Repr

/-! ### Reset -/

/-- R20. -/
def PointRec.reset : PointRec :=
  { sighted := false, ref := none, last := 0, age := 0, lossDue := false }

/-- R47. -/
def Fpu.reset : Fpu :=
  { imaxRun := 0, ddl := { iPrev := none, run := none }, sum := 0, count := 0, theta := 0,
    alarmMark := false, tripMark := false, context := none }

/-- R77, for a feeder that is not in use. -/
def Fct.reset : Fct :=
  { state := .out, status := none, supervised := false, supTimer := none, attempts := 0,
    opClose := false, openingCause := none, opOpen := false, ttFail := false, pbRaised := false,
    lockCause := none, timer := none, operateIn := [], outcomeIn := [], ttFailIn := 0 }

/-- R125: all flags clear, T_tt stopped. -/
def Handshake.reset : Handshake :=
  { ttReq := false, pending := false, timer := none, failed := false, ttAck := false,
    seenReq := false, seenAck := false, fromStation := false }

/-- R125. -/
def Section.reset : Section :=
  { far := none, coupled := false, doubleFed := false, bank := .b, hs := Handshake.reset }

/-- R96. -/
def Ltu.reset : Ltu := { queue := [], slot := Vector.replicate 2 .free }

/-- R125. -/
def Sco.reset : Sco :=
  { link := Vector.replicate 4 { up := false, timer := none, last := none }
    sect := Vector.replicate 10 Section.reset }

/-- R152, before its supervision timer starts (log entry 1). -/
def Rcu.reset : Rcu :=
  { state := .off, adoption := true, cause := none, status := none, supervised := false,
    supTimer := none, lastAlpha := 9000, trim := 0, pbSet := Vector.replicate 10 false, timer := none,
    acLow := false, ocRun := 0, working := none }

/-- R213, before the straps are read (log entry 1). -/
def Rif.reset : Rif :=
  { node := 0, strapFault := false, transit := [], orderQ := [], linkQ := [], reportQ := [],
    held := 0, port := none, ringErr := 0, windowBad := 0, transitDrop := 0, malformed := 0,
    reportDiscard := 0, orderDiscard := 0 }

/-- The part with its reset pin held (log entry 1). -/
def State.reset : State :=
  { phase := .held
    pending := []
    clock := { ms := 0, control := 0, thermal := 0, link := 0, window := 0 }
    tables := defaultTables
    rif := Rif.reset
    smp := { points := Vector.replicate 24 PointRec.reset, unmappedKey := none, unmapped := 0,
             stale := 0, invalid := 0 }
    fpu := Vector.replicate 10 Fpu.reset
    fct := Vector.replicate 10 Fct.reset
    ltu := Ltu.reset
    sco := Sco.reset
    rcu := Rcu.reset
    stl := { leakage := .normal, lockout := false, failNotices := [] }
    evr := { ms := 0, events := [], nextSeq := 0, lost := false, notice := none }
    drc := { state := .idle, missed := 0, writeBuf := [], mem := [] }
    mga := { requests := [], mode := .localMode, unconfigured := true, busy := false,
             storeTimer := none, image := none } }

end Sys2Proof.Machine
end

