-- ==== Sys2Proof/Machine/Operands.lean ====
section
/-!
DEFINITION. The operand forms: the check of a frame, the layouts of every payload the part reads or sends
(R212), and the format of the settings records (R221).
-/

namespace Sys2Proof.Machine
open Sys2Proof

/-! ### The frame check, R212 -/

/-- One bit into the remainder register (generator x^16 + x^12 + x^5 + 1). DEDUCED, unsafe: log entry 10. -/
def crcBit (c : Check) (b : Bool) : Check :=
  let shifted := c <<< 1
  if c.msb != b then shifted ^^^ 0x1021#16 else shifted

/-- One byte into the register, most significant bit first. -/
def crcByte (c : Check) (x : Byte) : Check :=
  [7, 6, 5, 4, 3, 2, 1, 0].foldl (fun c i => crcBit c (x.getLsbD i)) c

/-- The check over a list of bytes, the register preset to all ones. -/
def crc (bytes : List Byte) : Check := bytes.foldl crcByte 0xFFFF#16

/-- The check over a frame: destination to last payload byte, the length field as given. -/
def frameCheck (dest src kind len : Byte) (payload : List Byte) : Check :=
  crc (dest :: src :: kind :: len :: payload)

/-! ### Bytes and numbers (most significant byte first, two's complement) -/

def be16 (n : Nat) : List Byte := [BitVec.ofNat 8 (n / 256), BitVec.ofNat 8 n]

def be32 (n : Nat) : List Byte :=
  [BitVec.ofNat 8 (n / 16777216), BitVec.ofNat 8 (n / 65536), BitVec.ofNat 8 (n / 256),
    BitVec.ofNat 8 n]

/-- Two's complement in 16 bits. -/
def be16Int (v : Int) : List Byte := be16 (v % 65536).toNat

/-- Two's complement in 32 bits. -/
def be32Int (v : Int) : List Byte := be32 (v % 4294967296).toNat

def byteAt (d : List Byte) (i : Nat) : Nat := (d.getD i 0).toNat

def u16At (d : List Byte) (i : Nat) : Nat := byteAt d i * 256 + byteAt d (i + 1)

def u32At (d : List Byte) (i : Nat) : Nat := u16At d i * 65536 + u16At d (i + 2)

def s16At (d : List Byte) (i : Nat) : Int :=
  if u16At d i < 32768 then u16At d i else (u16At d i : Int) - 65536

def s32At (d : List Byte) (i : Nat) : Int :=
  if u32At d i < 2147483648 then u32At d i else (u32At d i : Int) - 4294967296

def bitAt (d : List Byte) (i bit : Nat) : Bool := (d.getD i 0).getLsbD bit

/-- A byte from its named bits, bit 0 first; the bits not named are 0. -/
def byteOfBits (bits : List Bool) : Byte :=
  BitVec.ofNat 8 (bits.foldr (fun b acc => acc * 2 + b.toNat) 0)

/-! ### Arriving frames -/

/-- The length tests and the check test of R199, for the bytes of a frame taken apart. -/
def frameGood (kind : Byte) (fr : RxFrame) : Bool :=
  decide (fr.len.toNat ≤ 120) && decide (fr.payload.length = fr.len.toNat) &&
    decide (fr.check = frameCheck fr.dest fr.src kind fr.len fr.payload)

/-- A frame as it is forwarded and read. -/
def rxToFrame (kind : Byte) (fr : RxFrame) : Frame :=
  { dest := fr.dest, src := fr.src, kind := kind, payload := fr.payload, check := fr.check }

/-- The bytes of an arriving frame taken apart by R212; none when there are fewer than six. -/
def splitFrame (bytes : List Byte) : Option (Byte × RxFrame) :=
  if bytes.length < 6 then none
  else
    let n := bytes.length - 6
    some (bytes.getD 2 0,
      { dest := bytes.getD 0 0, src := bytes.getD 1 0, len := bytes.getD 3 0,
        payload := (bytes.drop 4).take n,
        check := BitVec.ofNat 16 (u16At bytes (4 + n)) })

/-- The bytes of a frame on the ring, R212. -/
def frameBytes (fr : Frame) : List Byte :=
  fr.dest :: fr.src :: fr.kind :: BitVec.ofNat 8 fr.payload.length :: fr.payload ++
    be16 fr.check.toNat

/-- Quality of a sample, R4. -/
inductive Quality where
  | good | overrange | invalid
  deriving DecidableEq, Repr

/-- Codes above 2 are taken as INVALID (R203). -/
def qualityOf (code : Nat) : Quality :=
  match code with
  | 0 => .good
  | 1 => .overrange
  | _ => .invalid

/-- The first `n` whole 3-byte entries of a sample payload: raw value and quality. -/
def sampleEntries : Nat → List Byte → List (Int × Quality)
  | 0, _ => []
  | n + 1, a :: b :: q :: rest => (s16At [a, b] 0, qualityOf q.toNat) :: sampleEntries n rest
  | _ + 1, _ => []

/-- The channel entries of a SAMPLE payload, up to channel 15 (R4); bytes left over are ignored (R203). -/
def sampleChannels (payload : List Byte) : List (Int × Quality) :=
  sampleEntries 16 (payload.drop 2)

/-- Position codes of R212: 0 OPEN, 1 CLOSED, 2 TRAVEL. -/
def positionOf (code : Nat) : Position :=
  match code with
  | 0 => .opened
  | 1 => .closed
  | _ => .travel

/-- BREAKER_STATUS payload. -/
def breakerStatusOf (p : List Byte) : BreakerStatus :=
  { position := positionOf (byteAt p 0), ready := bitAt p 1 0, localOp := bitAt p 1 1,
    contactor := bitAt p 1 2 }

/-- RECT_STATUS payload. -/
def rectStatusOf (p : List Byte) : RectStatus :=
  { ac := positionOf (byteAt p 0), ready := bitAt p 1 0, gateFault := bitAt p 1 1 }

/-- Section entries of a LINK_IN payload: section number in bits 9..0 of two bytes, then the flag byte. -/
def linkEntries : List Byte → List SectionEntry
  | a :: b :: c :: rest =>
    { secNo := (a.toNat * 256 + b.toNat) % 1024, closed := c.getLsbD 0, coupled := c.getLsbD 1,
      testEnd := c.getLsbD 2, ttReq := c.getLsbD 3, ttAck := c.getLsbD 4, lineLive := c.getLsbD 5,
      testActive := c.getLsbD 6 } :: linkEntries rest
  | _ => []

/-- LINK_IN payload, with the time of its acceptance (R98). -/
def neighbourFrameOf (p : List Byte) (now : Nat) : NeighbourFrame :=
  { stationId := u16At p 1, rectRunning := bitAt p 3 0, busLive := bitAt p 3 1,
    entries := linkEntries (p.drop 5), acceptedAt := now }

/-- REQUEST payload. -/
def requestOf (fr : Frame) : Request :=
  { src := fr.src.toNat, tag := u16At fr.payload 0, op := byteAt fr.payload 2,
    obj := byteAt fr.payload 3, index := byteAt fr.payload 4, data := fr.payload.drop 5 }

/-- The fit tests of R203 by kind code; a kind with no test fits. -/
def payloadFits (kind : Nat) (p : List Byte) : Bool :=
  match kind with
  | 1 => decide (2 ≤ p.length)
  | 2 => decide (p.length = 4)
  | 3 => decide (p.length = 2) && decide (byteAt p 0 ≤ 2)
  | 5 => decide (p.length = 2) && decide (byteAt p 0 ≤ 2)
  | 7 => decide (5 ≤ p.length) && decide (byteAt p 0 ≤ 3) &&
      decide (p.length = 5 + 3 * byteAt p 4)
  | 9 => decide (5 ≤ p.length)
  | _ => true

/-! ### Payloads the part sends -/

/-- The orders to a breaker node, R55. -/
inductive BreakerOrder where
  | opened | close | testOn | testOff
  deriving DecidableEq, Repr

/-- ORDER payload. -/
def orderPayload (o : BreakerOrder) : List Byte :=
  match o with
  | .opened => [1]
  | .close => [2]
  | .testOn => [3]
  | .testOff => [4]

/-- A gate order, R129: one angle for both bridges. -/
structure GateOrder where
  alpha : Int
  block : Bool
  acClosed : Bool
  deriving DecidableEq, Repr

/-- GATE payload. -/
def gatePayload (g : GateOrder) : List Byte :=
  be16Int g.alpha ++ be16Int g.alpha ++ [byteOfBits [g.block, g.acClosed]]

def sectionEntryBytes (e : SectionEntry) : List Byte :=
  be16 (e.secNo % 1024) ++
    [byteOfBits [e.closed, e.coupled, e.testEnd, e.ttReq, e.ttAck, e.lineLive, e.testActive]]

/-- LINK_OUT payload. -/
def linkPayload (channel ownId : Nat) (running busLive : Bool) (entries : List SectionEntry) :
    List Byte :=
  BitVec.ofNat 8 channel :: be16 ownId ++ [byteOfBits [running, busLive],
    BitVec.ofNat 8 entries.length] ++ entries.flatMap sectionEntryBytes

/-! ### Settings records, R221 -/

/-- on/off and yes/no: 0 for the first value listed, 1 for the second. -/
def flagByte (b : Bool) : Byte := if b then 0 else 1

/-- Reads on/off and yes/no; any other byte is outside the field's range. -/
def flagAt (d : List Byte) (i : Nat) : Option Bool :=
  match byteAt d i with
  | 0 => some true
  | 1 => some false
  | _ => none

/-- A node field: 0 for none. -/
def nodeByte (n : Option Nat) : Byte := BitVec.ofNat 8 (n.getD 0)

def nodeAt (d : List Byte) (i : Nat) : Option Nat :=
  if byteAt d i = 0 then none else some (byteAt d i)

def encodeStation (r : StationRec) : List Byte :=
  be16 r.ownId ++ [nodeByte r.panel, nodeByte r.gateway] ++ be16 r.lossTime ++ be16 r.vBusMin ++
    be16 r.vSetMin ++ be16 r.vSetMax ++ be16 r.iRectTrip ++ be16 r.iLeak ++ be16 r.tLeak

def decodeStation (d : List Byte) : StationRec :=
  { ownId := u16At d 0, panel := nodeAt d 2, gateway := nodeAt d 3, lossTime := u16At d 4,
    vBusMin := u16At d 6, vSetMin := u16At d 8, vSetMax := u16At d 10, iRectTrip := u16At d 12,
    iLeak := u16At d 14, tLeak := u16At d 16 }

def encodeMapPoint (r : Option MapPoint) : List Byte :=
  match r with
  | none => [0]
  | some r => [1, BitVec.ofNat 8 r.node] ++ be16 r.channel ++ be16 r.point ++ be16 r.gain ++
      be16 r.shift ++ be16Int r.offset

/-- A first byte of 0 with no more data is the empty entry; a first byte of 1 with the fields is an entry. -/
def decodeMapPoint (d : List Byte) : Option (Option MapPoint) :=
  if byteAt d 0 = 0 ∧ d.length = 1 then some none
  else if byteAt d 0 = 1 ∧ d.length = 12 then
    some (some { node := byteAt d 1, channel := u16At d 2, point := u16At d 4, gain := u16At d 6,
                 shift := u16At d 8, offset := s16At d 10 })
  else none

def encodeMapRange (r : Option MapRange) : List Byte :=
  match r with
  | none => [0]
  | some r => [1, BitVec.ofNat 8 r.base] ++ be16 r.size ++ be16 r.channel ++ be16 r.first ++
      be16 r.gain ++ be16 r.shift ++ be16Int r.offset

def decodeMapRange (d : List Byte) : Option (Option MapRange) :=
  if byteAt d 0 = 0 ∧ d.length = 1 then some none
  else if byteAt d 0 = 1 ∧ d.length = 14 then
    some (some { base := byteAt d 1, size := u16At d 2, channel := u16At d 4, first := u16At d 6,
                 gain := u16At d 8, shift := u16At d 10, offset := s16At d 12 })
  else none

def encodeFeeder (r : FeederRec) : List Byte :=
  be16 r.iDb ++ be16 r.iTh ++ be16 r.tauT ++ be16 r.thetaAlarm ++ be16 r.thetaTrip ++
    [flagByte r.inUse, nodeByte r.breakerNode] ++ be16 r.rTest ++ be16 r.vLive ++ be16 r.rMin ++
    be16 r.settle ++ be16 r.window ++ be16 r.attempts ++ be16 r.deadTime ++ be16 r.reclaim ++
    be16 r.followTimeout ++ be16 r.tClose ++ be16 r.tOpen ++ [flagByte (!r.blindOpen)] ++
    be16 r.secNo ++ be16 r.slot ++ [flagByte r.testEnd, flagByte r.localCoupled]

/-- The blind action lists HOLD first (R50). -/
def decodeFeeder (d : List Byte) : Option FeederRec :=
  match flagAt d 10, flagAt d 34, flagAt d 39, flagAt d 40 with
  | some inUse, some hold, some testEnd, some coupled =>
    some { iDb := u16At d 0, iTh := u16At d 2, tauT := u16At d 4, thetaAlarm := u16At d 6,
           thetaTrip := u16At d 8, inUse := inUse, breakerNode := nodeAt d 11, rTest := u16At d 12,
           vLive := u16At d 14, rMin := u16At d 16, settle := u16At d 18, window := u16At d 20,
           attempts := u16At d 22, deadTime := u16At d 24, reclaim := u16At d 26,
           followTimeout := u16At d 28, tClose := u16At d 30, tOpen := u16At d 32,
           blindOpen := !hold, secNo := u16At d 35, slot := u16At d 37, testEnd := testEnd,
           localCoupled := coupled }
  | _, _, _, _ => none

def encodeBank (r : BankRec) : List Byte :=
  [flagByte r.imaxEnable] ++ be16 r.iMax ++ be16 r.confirm ++ [flagByte r.ddlEnable] ++
    be16 r.diStart ++ be16 r.diReset ++ be16 r.deltaTrip ++ be16 r.tMin ++ be16 r.tMax ++
    be16 r.tReset ++ [flagByte r.pbImax, flagByte r.pbDdl, flagByte r.trImax, flagByte r.trDdl]

def decodeBank (d : List Byte) : Option BankRec :=
  match flagAt d 0, flagAt d 5, flagAt d 18, flagAt d 19, flagAt d 20, flagAt d 21 with
  | some imax, some ddl, some pbi, some pbd, some tri, some trd =>
    some { imaxEnable := imax, iMax := u16At d 1, confirm := u16At d 3, ddlEnable := ddl,
           diStart := u16At d 6, diReset := u16At d 8, deltaTrip := u16At d 10, tMin := u16At d 12,
           tMax := u16At d 14, tReset := u16At d 16, pbImax := pbi, pbDdl := pbd, trImax := tri,
           trDdl := trd }
  | _, _, _, _, _, _ => none

def encodeNeighbour (r : NeighbourRec) : List Byte :=
  be16 r.stationId ++ [nodeByte r.linkNode] ++ be16 r.channel ++ be16 r.tLink ++ be16 r.tTt

def decodeNeighbour (d : List Byte) : NeighbourRec :=
  { stationId := u16At d 0, linkNode := nodeAt d 2, channel := u16At d 3, tLink := u16At d 5,
    tTt := u16At d 7 }

def encodeRegulator (r : RegulatorRec) : List Byte :=
  [nodeByte r.gateNode] ++ be16 r.vSet ++ be16 r.droop ++ be16 r.iLim ++ be16 r.kLim ++ be16 r.ki ++
    be16 r.trimMax ++ be16 r.rC ++ be16 r.kD0 ++ be16 r.vD0Min ++ be16 r.alphaMin ++ be16 r.ramp ++
    be16 r.alphaPb ++ be16 r.tPb ++ be16 r.tAc

def decodeRegulator (d : List Byte) : RegulatorRec :=
  { gateNode := nodeAt d 0, vSet := u16At d 1, droop := u16At d 3, iLim := u16At d 5,
    kLim := u16At d 7, ki := u16At d 9, trimMax := u16At d 11, rC := u16At d 13, kD0 := u16At d 15,
    vD0Min := u16At d 17, alphaMin := u16At d 19, ramp := u16At d 21, alphaPb := u16At d 23,
    tPb := u16At d 25, tAc := u16At d 27 }

/-- Entries of two bytes. -/
def encodeCurve (entries : List Nat) : List Byte := entries.flatMap be16

def decodeCurve : List Byte → List Nat
  | a :: b :: rest => (a.toNat * 256 + b.toNat) :: decodeCurve rest
  | _ => []

def encodeRecorder (r : RecorderRec) : List Byte :=
  BitVec.ofNat 8 r.points.length :: r.points.map (BitVec.ofNat 8) ++ be16 r.postCount ++ be16 r.cap

def decodeRecorder (d : List Byte) : RecorderRec :=
  let n := byteAt d 0
  { points := ((d.drop 1).take n).map BitVec.toNat, postCount := u16At d (1 + n),
    cap := u16At d (3 + n) }

def encodeDesc (c : ChainDesc) : List Byte :=
  be16 c.start ++ be16 (c.length % 4096 + if c.last then 32768 else 0)

def encodeChain (c : List ChainDesc) : List Byte :=
  BitVec.ofNat 8 c.length :: c.flatMap encodeDesc

/-- Descriptors of four bytes: start, then length in bits 11..0 and last in bit 15. -/
def decodeDescs : List Byte → List ChainDesc
  | a :: b :: c :: d :: rest =>
    { start := a.toNat * 256 + b.toNat, length := (c.toNat * 256 + d.toNat) % 4096,
      last := c.getLsbD 7 } :: decodeDescs rest
  | _ => []

def decodeChain (d : List Byte) : List ChainDesc := decodeDescs (d.drop 1)

end Sys2Proof.Machine
end

