-- ==== Sys2Proof/Machine/Flags.lean ====
section
/-!
DEFINITION. Codes, status values and conditions read from the state: response statuses, event and cause codes
(R212), the station summary (R173), roles and access (R217 to R219), and the conditions one block shows another
(R17, R54, R56, R107 to R109).
-/

namespace Sys2Proof.Machine
open Sys2Proof

/-! ### Codes of R212 -/

/-- The response statuses. -/
inductive Status where
  | ok | clamped | access | mode | range | state | conflict | duplicate | align | overlap | blind
  | notFound | busy | unknown
  deriving DecidableEq, Repr

def Status.code : Status → Nat
  | .ok => 0 | .clamped => 1 | .access => 2 | .mode => 3 | .range => 4 | .state => 5
  | .conflict => 6 | .duplicate => 7 | .align => 8 | .overlap => 9 | .blind => 10
  | .notFound => 11 | .busy => 12 | .unknown => 13

def EventKind.code : EventKind → Nat
  | .feederTrip => 1 | .feederOpened => 2 | .feederClosed => 3 | .lockout => 4 | .recloseStart => 5
  | .lineTestResult => 6 | .testFail => 7 | .thermalAlarm => 8 | .blind => 9 | .sighted => 10
  | .bankChange => 11 | .linkUp => 12 | .linkDown => 13 | .ttSent => 14 | .ttReceived => 15
  | .ttFail => 16 | .closeFail => 17 | .breakerFail => 18 | .rectState => 19 | .startFail => 20
  | .acLow => 21 | .phaseBackTimeout => 22 | .stationTrip => 23 | .recordReady => 24
  | .settingsChanged => 25 | .storeDone => 26 | .storeBad => 27 | .ringDegraded => 28

def Cause.code : Cause → Nat
  | .imax => 1 | .ddl => 2 | .thermal => 3 | .transfer => 4 | .station => 5 | .breakerFail => 6
  | .command => 7 | .blind => 8 | .recloseExhausted => 9 | .closeFail => 10 | .followTimeout => 11
  | .uncoord => 12 | .ttFail => 13 | .pass => 14 | .fail => 15 | .live => 16 | .inconclusive => 17
  | .yielded => 18 | .timeout => 19 | .settings => 20 | .link => 21 | .removed => 22
  | .standing => 23 | .feeder => 24 | .bankA => 25 | .bankB => 26 | .overcurrent => 27
  | .gateFault => 28 | .acOpened => 29 | .acBreakerFail => 30 | .leakage => 31 | .emergency => 32
  | .capped => 33 | .short => 34 | .aborted => 35
  | .panel => 40 | .control => 41 | .writeFailed => 42 | .noMemory => 43 | .check => 44
  | .content => 45

def Subject.code : Subject → Nat
  | .feeder f => f.val
  | .slot n => 16 + n.val
  | .station => 32

def FeederState.code : FeederState → Nat
  | .unknown => 0 | .out => 1 | .testWait => 2 | .testing => 3 | .closing => 4 | .service => 5
  | .opening => 6 | .deadTime => 7 | .follow => 8 | .lockout => 9

/-- R127. -/
def RectState.code : RectState → Nat
  | .off => 0 | .starting => 1 | .regulating => 2 | .phaseBack => 3 | .blocked => 4
  | .stopping => 5 | .tripped => 6

def RecorderName.code : RecorderName → Nat
  | .idle => 0 | .armed => 1 | .capturing => 2 | .draining => 3 | .held => 4

/-- End reason codes of header word 7; 0 is IN_PROGRESS. -/
def EndReason.code : EndReason → Nat
  | .complete => 1 | .capped => 2 | .short => 3 | .aborted => 4

/-- The end reason of header word 7 and of the status read: 0 IN_PROGRESS until the capture has ended. -/
def reasonCode (reason : Option EndReason) : Nat := (reason.map EndReason.code).getD 0

/-- The cause of RECORD_READY: absent for COMPLETE (R194). -/
def EndReason.cause : EndReason → Option Cause
  | .complete => none
  | .capped => some .capped
  | .short => some .short
  | .aborted => some .aborted

/-- The cause of LINE_TEST_RESULT (R94). -/
def OutcomeKind.cause : OutcomeKind → Cause
  | .pass => .pass
  | .fail => .fail
  | .live => .live
  | .inconclusive => .inconclusive

/-- The cause of BANK_CHANGE (R122). -/
def Bank.cause : Bank → Cause
  | .a => .bankA
  | .b => .bankB

/-! ### Points -/

/-- Station points by name, R2. -/
def busPoint : Point := 20
def rectPoint : Point := 21
def acPoint : Point := 22
def leakPoint : Point := 23

/-- FEEDER_CURRENT(f). -/
def currentPoint (f : Feeder) : Point := ⟨f.val, by omega⟩

/-- LINE_VOLTAGE(f). -/
def linePoint (f : Feeder) : Point := ⟨f.val + 10, by omega⟩

/-- What a point measures, R2. -/
inductive PointRole where
  | feederCurrent (f : Feeder)
  | lineVoltage (f : Feeder)
  | bus | rectCurrent | acVoltage | leakage
  deriving DecidableEq, Repr

def pointRole (p : Point) : PointRole :=
  if h : p.val < 10 then .feederCurrent ⟨p.val, h⟩
  else if h : p.val < 20 then .lineVoltage ⟨p.val - 10, by omega⟩
  else if p.val = 20 then .bus
  else if p.val = 21 then .rectCurrent
  else if p.val = 22 then .acVoltage
  else .leakage

/-- The group of a point number, R2 (feeder currents, line voltages, station voltages, station currents). -/
def pointGroup (p : Nat) : Nat :=
  if p < 10 then 0 else if p < 20 then 1 else if p = 20 ∨ p = 22 then 2 else 3

/-- The saturation limit of a point's value, R2. -/
def pointLimit (p : Nat) : Int :=
  if pointGroup p = 0 ∨ pointGroup p = 3 then 60000 else 40000

/-! ### Conditions shown between blocks -/

/-- A point is LOST. -/
def State.lost (s : State) (p : Point) : Bool := !s.smp.points[p].sighted

/-- The last value of a point (R13). -/
def State.last (s : State) (p : Point) : Int := s.smp.points[p].last

/-- FEEDER_CURRENT(f) is LOST: the feeder is blind. -/
def State.blind (s : State) (f : Feeder) : Bool := s.lost (currentPoint f)

/-- A point is in use, R17. -/
def State.pointInUse (s : State) (p : Point) : Bool :=
  match pointRole p with
  | .feederCurrent f => s.tables.feeder[f].inUse
  | .lineVoltage f => s.tables.feeder[f].inUse
  | _ => true

/-- The subject of a point's BLIND and SIGHTED events, R17. -/
def pointSubject (p : Point) : Subject :=
  match pointRole p with
  | .feederCurrent f => .feeder f
  | .lineVoltage f => .feeder f
  | _ => .station

/-- The settings of the bank in use of feeder f (R27). -/
def State.bankInUse (s : State) (f : Feeder) : BankRec :=
  match s.sco.sect[f].bank with
  | .a => s.tables.bankA[f]
  | .b => s.tables.bankB[f]

/-- The last breaker position is `p` (unknown equals none of them). -/
def Fct.positionIs (c : Fct) (p : Position) : Bool :=
  match c.status with
  | some st => st.position == p
  | none => false

/-- The last position is CLOSED or TRAVEL (R60, R71, R74). -/
def Fct.notOpen (c : Fct) : Bool := c.positionIs .closed || c.positionIs .travel

/-- The breaker is supervised and its last status shows ready yes and local operation no (R54, R70). -/
def Fct.breakerReady (c : Fct) : Bool :=
  c.supervised &&
    match c.status with
    | some st => st.ready && !st.localOp
    | none => false

/-- R54. -/
def State.closable (s : State) (f : Feeder) : Bool := s.fct[f].breakerReady && !s.blind f

/-- A far-end value of R107: no while the report is absent. -/
def Section.farValue (c : Section) (read : SectionEntry → Bool) : Bool :=
  match c.far with
  | some e => read e
  | none => false

def Section.farClosed (c : Section) : Bool := c.farValue SectionEntry.closed
def Section.farTesting (c : Section) : Bool := c.farValue SectionEntry.testActive
def Section.farCoupled (c : Section) : Bool := c.farValue SectionEntry.coupled
def Section.farTestEnd (c : Section) : Bool := c.farValue SectionEntry.testEnd
def Section.farLineLive (c : Section) : Bool := c.farValue SectionEntry.lineLive

/-- The neighbour slot of a feeder. -/
def slotOf (r : FeederRec) : Slot := ⟨r.slot % 4, by omega⟩

/-- Far bus live of R107: the flag of the slot's last frame, no while the report is absent. -/
def State.farBusLive (s : State) (f : Feeder) : Bool :=
  s.sco.sect[f].far.isSome &&
    match s.sco.link[slotOf s.tables.feeder[f]].last with
    | some fr => fr.busLive
    | none => false

/-- LINE_VOLTAGE(f) is SIGHTED and its last value is at least V_live (R64, R67, R101). -/
def State.lineLive (s : State) (f : Feeder) : Bool :=
  !s.lost (linePoint f) && decide ((s.tables.feeder[f].vLive : Int) ≤ s.last (linePoint f))

/-- The section is coupled and the far end reports its feeder closed. -/
def State.coupledFarClosed (s : State) (f : Feeder) : Bool :=
  s.sco.sect[f].coupled && s.sco.sect[f].farClosed

/-- The opening cause is not THERMAL, or θ is below θ_alarm (R64, R67). -/
def State.thermalClear (s : State) (f : Feeder) : Bool :=
  s.fct[f].openingCause != some .thermal ||
    decide (s.fpu[f].theta < s.tables.feeder[f].thetaAlarm)

/-- The rectifier is running (R127). -/
def Rcu.running (r : Rcu) : Bool := r.state == .regulating || r.state == .phaseBack

/-- Bus live of R100. -/
def State.busLive (s : State) : Bool :=
  !s.lost busPoint && decide ((s.tables.station.vBusMin : Int) ≤ s.last busPoint)

/-- The firing curve table is valid, R143. -/
def curveValid (tab : Vector Nat 65) : Bool :=
  decide (tab[0] = 9000) && decide (tab[64] = 0) &&
    (tab.toList.zip (tab.toList.drop 1)).all fun x => decide (x.2 ≤ x.1)

/-! ### The station summary, R173 -/

def RecorderState.name : RecorderState → RecorderName
  | .idle => .idle
  | .armed _ => .armed
  | .capturing _ => .capturing
  | .draining _ => .draining
  | .held _ _ => .held

def State.feederSummary (s : State) (f : Feeder) : FeederSummary :=
  { state := s.fct[f].state, contextHeld := s.fpu[f].context.isSome, blind := s.blind f,
    bank := s.sco.sect[f].bank }

def State.summary (s : State) : Summary :=
  { unconfigured := s.mga.unconfigured, lockout := s.stl.lockout, mode := s.mga.mode
    feeders := allFeeders.map s.feederSummary
    rect := s.rcu.state
    links := allSlots.map fun n => s.sco.link[n].up
    eventsPending := !s.evr.events.isEmpty
    eventsLost := s.evr.lost
    recorder := s.drc.state.name
    storeBusy := s.mga.busy }

/-- The 13 bytes of the summary, R212. -/
def summaryBytes (m : Summary) : List Byte :=
  byteOfBits [m.unconfigured, m.lockout, m.mode == .remote, m.eventsPending, m.eventsLost,
      m.storeBusy] ::
    m.feeders.map (fun x => BitVec.ofNat 8 x.state.code |||
      byteOfBits [false, false, false, false, x.contextHeld, x.blind, x.bank == .b]) ++
    [BitVec.ofNat 8 (m.rect.code + 16 * m.recorder.code), byteOfBits m.links]

/-- The 14 bytes of an event record, R212. -/
def eventBytes (e : EventRec) : List Byte :=
  be16 e.seq ++ be32 e.time ++
    [BitVec.ofNat 8 e.kind.code, BitVec.ofNat 8 e.subject.code,
      BitVec.ofNat 8 ((e.cause.map Cause.code).getD 0), byteOfBits [e.value.isSome]] ++
    be32Int (e.value.getD 0)

/-! ### Roles and access, R217 to R220 -/

inductive Role where
  | panel | control
  deriving DecidableEq, Repr

def Role.cause : Role → Cause
  | .panel => .panel
  | .control => .control

/-- R217; none is the role none. -/
def State.roleOf (s : State) (src : Nat) : Option Role :=
  if s.mga.unconfigured then some .panel
  else if s.tables.station.panel = some src then some .panel
  else if s.tables.station.gateway = some src then some .control
  else none

/-- The operations of R212. -/
def opRead : Nat := 1
def opWrite : Nat := 2
def opCommand : Nat := 3

/-- The operation is defined for the object (R216 check 1, R220). -/
def opDefined (op obj : Nat) : Bool :=
  if 1 ≤ obj ∧ obj ≤ 11 then op == opRead || op == opWrite
  else if 16 ≤ obj ∧ obj ≤ 29 then op == opRead
  else if 32 ≤ obj ∧ obj ≤ 50 then op == opCommand
  else false

/-- The object's access class admits the role (R218). -/
def admits (op obj : Nat) (role : Role) : Bool :=
  if op == opWrite then role == .panel
  else if obj == 42 then role == .panel
  else if obj == 45 then role == .control
  else true

/-- The switching commands of R219. -/
def isSwitching (obj : Nat) : Bool := [32, 33, 34, 36, 37, 38, 39, 40].contains obj

/-- The control mode admits the role for a switching command (R219). -/
def modeAdmits (m : ControlMode) (role : Role) : Bool :=
  match m, role with
  | .localMode, .panel => true
  | .remote, .control => true
  | _, _ => false

/-- How many instances the object has (R220). -/
def indexCount (obj : Nat) : Nat :=
  match obj with
  | 2 => 32
  | 3 => 4
  | 4 => 10
  | 5 => 10
  | 6 => 10
  | 7 => 4
  | 9 => 65
  | 17 => 24
  | 18 => 10
  | 19 => 10
  | 21 => 4
  | 22 => 10
  | 32 => 10
  | 33 => 10
  | 34 => 10
  | 35 => 10
  | _ => 1

/-- The data field has the length the object's format gives (R216 check 6, R221, section 11.4). The
count of a READ of CURVE is one byte. DESIGN CHOICE: log entry 23. -/
def lengthFits (op obj : Nat) (d : List Byte) : Bool :=
  if op == opWrite then
    match obj with
    | 1 => d.length == 18
    | 2 => (decodeMapPoint d).isSome
    | 3 => (decodeMapRange d).isSome
    | 4 => d.length == 41
    | 5 => d.length == 22
    | 6 => d.length == 22
    | 7 => d.length == 9
    | 8 => d.length == 29
    | 9 => d.length % 2 == 0 && decide (2 ≤ d.length) && decide (d.length ≤ 32)
    | 10 => d.length == 5 + byteAt d 0
    | 11 => d.length == 1 + 4 * byteAt d 0
    | _ => false
  else
    match obj with
    | 9 => d.length == 1
    | 27 => d.length == 1
    | 29 => d.length == 3
    | 39 => d.length == 4
    | 42 => d.length == 1
    | 43 => d.length == 4
    | 44 => d.length == 2
    | _ => d.length == 0

end Sys2Proof.Machine
end

