-- ==== Sys2Proof/Machine/Checks.lean ====
section
/-!
DEFINITION. The checks of every settings write, each giving the refusal of the first check that fails, and the
check of a whole settings image (R227). The STATE and BUSY refusals, which depend on the blocks, are arguments.
-/

namespace Sys2Proof.Machine
open Sys2Proof

/-- `lo..hi` holds `n`. -/
def within (lo n hi : Nat) : Bool := decide (lo ≤ n) && decide (n ≤ hi)

/-- A node field is none or 1..254. -/
def nodeOk (n : Option Nat) : Bool :=
  match n with
  | none => true
  | some k => within 1 k 254

/-- Two node fields name the same node. -/
def sameNode (a b : Option Nat) : Bool := a.isSome && a == b

/-- The first check of a list that fails: `(holds, refusal)`. -/
def firstFailing : List (Bool × Status) → Option Status
  | [] => none
  | (holds, st) :: rest => if holds then firstFailing rest else some st

/-- The slot is used: its station id is not 0 (R98). -/
def neighbourUsed (r : NeighbourRec) : Bool := r.stationId != 0

/-- `n` is the breaker node of an in-use feeder. -/
def isBreakerNode (t : Tables) (n : Option Nat) : Bool :=
  allFeeders.any fun f => t.feeder[f].inUse && sameNode n t.feeder[f].breakerNode

/-- `n` is the link node of a used neighbour slot. -/
def isLinkNode (t : Tables) (n : Option Nat) : Bool :=
  allSlots.any fun k => neighbourUsed t.neighbour[k] && sameNode n t.neighbour[k].linkNode

/-- `n` is the panel node or the control gateway node. -/
def isStationNode (t : Tables) (n : Option Nat) : Bool :=
  sameNode n t.station.panel || sameNode n t.station.gateway

/-! ### STATION, R223 (with R99, R138, R154) -/

def stationRangeOk (r : StationRec) : Bool :=
  within 1 r.ownId 4095 && nodeOk r.panel && nodeOk r.gateway && within 4 r.lossTime 200 &&
    within 500 r.vBusMin 9000 && within 5000 r.vSetMin 9500 && within 5000 r.vSetMax 9500 &&
    within 1000 r.iRectTrip 60000 && within 10 r.iLeak 1000 && within 4 r.tLeak 400 &&
    decide (r.vSetMin ≤ r.vSetMax)

def stationConflictFree (t : Tables) (r : StationRec) : Bool :=
  !sameNode r.panel r.gateway && !isBreakerNode t r.panel && !isBreakerNode t r.gateway &&
    !sameNode r.panel t.regulator.gateNode && !sameNode r.gateway t.regulator.gateNode &&
    !isLinkNode t r.panel && !isLinkNode t r.gateway &&
    !allSlots.any fun k => neighbourUsed t.neighbour[k] && t.neighbour[k].stationId == r.ownId

def checkStation (t : Tables) (r : StationRec) : Option Status :=
  firstFailing [(stationRangeOk r, .range), (stationConflictFree t r, .conflict)]

/-! ### The stream map, R8 -/

/-- A key: source node and channel. -/
abbrev Key := Nat × Nat

/-- The points an entry feeds, each with its key (R5, R6), whether or not the key is shadowed. -/
def mapPointFeeds (e : MapPoint) : List (Nat × Key) := [(e.point, (e.node, e.channel))]

def mapRangeFeeds (e : MapRange) : List (Nat × Key) :=
  (List.range e.size).map fun i => (e.first + i, (e.base + i, e.channel))

/-- Some point is fed from two different keys. -/
def feedsConflict (xs ys : List (Nat × Key)) : Bool :=
  xs.any fun x => ys.any fun y => x.1 == y.1 && x.2 != y.2

/-- The occupied entries of a part of the map other than entry `skip`. -/
def othersOf {α : Type} (entries : List (Option α)) (skip : Nat) : List α :=
  (entries.zipIdx.filter fun x => x.2 != skip).filterMap Prod.fst

def checkMapPoint (t : Tables) (i : Nat) (e : Option MapPoint) : Option Status :=
  match e with
  | none => none
  | some r =>
    let points := othersOf t.mapPoint.toList i
    let ranges := t.mapRange.toList.filterMap id
    firstFailing
      [(within 1 r.node 254 && within 0 r.channel 15 && within 0 r.point 23 && within 1 r.gain 65535 &&
          within 0 r.shift 15 && decide (-32768 ≤ r.offset) && decide (r.offset ≤ 32767), .range),
        (!points.any fun o => o.node == r.node && o.channel == r.channel, .duplicate),
        (!feedsConflict (mapPointFeeds r) (points.flatMap mapPointFeeds ++ ranges.flatMap mapRangeFeeds),
          .conflict)]

/-- Two spans share a node. -/
def spansMeet (a b : MapRange) : Bool :=
  decide (a.base < b.base + b.size) && decide (b.base < a.base + a.size)

/-- The points first..first + size − 1 all lie in one group. -/
def oneGroup (r : MapRange) : Bool :=
  (List.range r.size).all fun i =>
    decide (r.first + i ≤ 23) && pointGroup (r.first + i) == pointGroup r.first

def checkMapRange (t : Tables) (i : Nat) (e : Option MapRange) : Option Status :=
  match e with
  | none => none
  | some r =>
    let ranges := othersOf t.mapRange.toList i
    let points := t.mapPoint.toList.filterMap id
    firstFailing
      [(within 0 r.base 254 && [2, 4, 8, 16].contains r.size && within 0 r.channel 15 &&
          within 0 r.first 23 && within 1 r.gain 65535 && within 0 r.shift 15 &&
          decide (-32768 ≤ r.offset) && decide (r.offset ≤ 32767), .range),
        (r.base % r.size == 0, .align),
        (oneGroup r, .range),
        (!ranges.any fun o => o.channel == r.channel && spansMeet o r, .overlap),
        (!feedsConflict (mapRangeFeeds r) (points.flatMap mapPointFeeds ++ ranges.flatMap mapRangeFeeds),
          .conflict)]

/-! ### FEEDER, R25, R50, R106 -/

def feederRangeOk (r : FeederRec) : Bool :=
  within 0 r.iDb 500 && within 100 r.iTh 5000 && within 100 r.tauT 36000 &&
    within 1 r.thetaAlarm 65535 && within (r.thetaAlarm + 1) r.thetaTrip 65535 &&
    nodeOk r.breakerNode && within 100 r.rTest 10000 && within 500 r.vLive 9000 &&
    within 10 r.rMin 10000 && within 10 r.settle 1000 && within 16 r.window 4000 &&
    within 0 r.attempts 5 && within 5 r.deadTime 6000 && within 10 r.reclaim 6000 &&
    within 10 r.followTimeout 6000 && within 20 r.tClose 500 && within 20 r.tOpen 200 &&
    within 0 r.secNo 1023 && within 0 r.slot 3

/-- The identity fields of R50. -/
def sameIdentity (a b : FeederRec) : Bool :=
  a.inUse == b.inUse && a.breakerNode == b.breakerNode && a.secNo == b.secNo && a.slot == b.slot &&
    a.testEnd == b.testEnd

/-- The other feeders. -/
def otherFeeders (f : Feeder) : List Feeder := allFeeders.filter (· != f)

def feederConflictFree (t : Tables) (f : Feeder) (r : FeederRec) : Bool :=
  !r.inUse ||
    (!(otherFeeders f).any fun g =>
        t.feeder[g].inUse && sameNode r.breakerNode t.feeder[g].breakerNode) &&
    !sameNode r.breakerNode t.regulator.gateNode && !isStationNode t r.breakerNode &&
    !(r.secNo != 0 && (otherFeeders f).any fun g =>
        t.feeder[g].inUse && t.feeder[g].secNo == r.secNo && t.feeder[g].slot == r.slot)

/-- `idle` is the feeder being OUT or LOCKOUT. Order of the refusals: log entry 14. -/
def checkFeeder (t : Tables) (f : Feeder) (r : FeederRec) (idle : Bool) : Option Status :=
  firstFailing
    [(feederRangeOk r, .range),
      (sameIdentity t.feeder[f] r || idle, .state),
      (!r.inUse || r.breakerNode.isSome, .range),
      (feederConflictFree t f r, .conflict)]

/-! ### BANK_A and BANK_B, R26 -/

def checkBank (r : BankRec) : Option Status :=
  firstFailing
    [(within 500 r.iMax 40000 && within 1 r.confirm 4 && within 1 r.diStart 2000 &&
        decide (r.diReset < r.diStart) && within 200 r.deltaTrip 20000 && within 0 r.tMin 400 &&
        within 4 r.tMax 4000 && within 1 r.tReset 400 && decide (r.tMin ≤ r.tMax), .range)]

/-! ### NEIGHBOUR, R99 -/

def neighbourConflictFree (t : Tables) (n : Slot) (r : NeighbourRec) : Bool :=
  !neighbourUsed r ||
    (!(allSlots.filter (· != n)).any fun k => neighbourUsed t.neighbour[k] &&
        (sameNode r.linkNode t.neighbour[k].linkNode && r.channel == t.neighbour[k].channel ||
          r.stationId == t.neighbour[k].stationId)) &&
    !isStationNode t r.linkNode && r.stationId != t.station.ownId

def checkNeighbour (t : Tables) (n : Slot) (r : NeighbourRec) : Option Status :=
  firstFailing
    [(within 0 r.stationId 4095 && nodeOk r.linkNode && within 0 r.channel 3 && within 20 r.tLink 500 &&
        within 10 r.tTt 200 && (!neighbourUsed r || r.linkNode.isSome), .range),
      (neighbourConflictFree t n r, .conflict)]

/-! ### REGULATOR and CURVE, R138, R145 -/

def regulatorRangeOk (t : Tables) (r : RegulatorRec) : Bool :=
  nodeOk r.gateNode && within t.station.vSetMin r.vSet t.station.vSetMax && within 0 r.droop 100 &&
    within 500 r.iLim 20000 && within 0 r.kLim 1000 && within 0 r.ki 1024 && within 0 r.trimMax 2000 &&
    within 0 r.rC 100 && within 10000 r.kD0 40000 && within 500 r.vD0Min 5000 &&
    within 300 r.alphaMin 3000 && within 1 r.ramp 500 && within 9000 r.alphaPb 15000 &&
    within 10 r.tPb 500 && within 100 r.tAc 2000

/-- `idle` is the rectifier being OFF or TRIPPED with no adoption pending. Order: log entry 14. -/
def checkRegulator (t : Tables) (r : RegulatorRec) (idle : Bool) : Option Status :=
  firstFailing
    [(regulatorRangeOk t r, .range),
      (t.regulator.gateNode == r.gateNode || idle, .state),
      (!isBreakerNode t r.gateNode && !isStationNode t r.gateNode, .conflict)]

/-- `off` is the rectifier being OFF with no adoption pending. -/
def checkCurve (start : Nat) (entries : List Nat) (off : Bool) : Option Status :=
  firstFailing
    [(off, .state),
      (decide (start + entries.length ≤ 65) && entries.all fun a => decide (a ≤ 9000), .range)]

/-! ### RECORDER and CHAIN, R183, R185 -/

/-- `free` is the recorder being neither ARMED, CAPTURING nor DRAINING. -/
def checkRecorder (r : RecorderRec) (free : Bool) : Option Status :=
  firstFailing
    [(within 1 r.points.length 8 && r.points.all (fun p => decide (p ≤ 23)) &&
        within 1 r.postCount 4096 && within 256 r.cap 16384, .range),
      (decide r.points.Nodup, .duplicate),
      (free, .busy)]

/-- The number of words of a region: 0 is read as 4096 (R184). -/
def descSize (c : ChainDesc) : Nat := if c.length = 0 then 4096 else c.length

/-- Two regions share a word. -/
def regionsMeet (a b : ChainDesc) : Bool :=
  decide (a.start < b.start + descSize b) && decide (b.start < a.start + descSize a)

/-- The last descriptor, and no other, has last yes. -/
def lastMarked : List ChainDesc → Bool
  | [] => false
  | [c] => c.last
  | c :: rest => !c.last && lastMarked rest

def regionsApart : List ChainDesc → Bool
  | [] => true
  | c :: rest => (!rest.any fun o => regionsMeet c o) && regionsApart rest

def checkChain (c : List ChainDesc) (free : Bool) : Option Status :=
  firstFailing
    [(free, .busy),
      (within 1 c.length 16 && c.all (fun x => decide (x.start ≤ 32767) && decide (x.length ≤ 4095)),
        .range),
      (lastMarked c, .range),
      (c.all fun x => decide (x.start + descSize x ≤ 32768), .range),
      (c.all fun x => x.start / 4096 == (x.start + descSize x - 1) / 4096, .align),
      (regionsApart c, .overlap)]

/-! ### The settings image, R227 -/

/-- Every record of the image passes the checks a write of it would meet, the STATE and BUSY refusals left
out; a chain held as count 0 passes. -/
def imageContentOk (t : Tables) : Bool :=
  (checkStation t t.station).isNone &&
    (t.mapPoint.toList.zipIdx.all fun x => (checkMapPoint t x.2 x.1).isNone) &&
    (t.mapRange.toList.zipIdx.all fun x => (checkMapRange t x.2 x.1).isNone) &&
    (allFeeders.all fun f => (checkFeeder t f t.feeder[f] true).isNone &&
      (checkBank t.bankA[f]).isNone && (checkBank t.bankB[f]).isNone) &&
    (allSlots.all fun n => (checkNeighbour t n t.neighbour[n]).isNone) &&
    (checkRegulator t t.regulator true).isNone &&
    (checkCurve 0 t.curve.toList true).isNone &&
    (checkRecorder t.recorder true).isNone &&
    (t.chain.isEmpty || (checkChain t.chain true).isNone)

end Sys2Proof.Machine
end

