-- ==== Sys2Proof/Machine/Ops.lean ====
section
/-!
DEFINITION. The operations several blocks share: timers, updates of one element of a table, the insertion queues
(R206 to R209), events and notices (R169, R170, R174, R175), and record memory (R189).
-/

namespace Sys2Proof.Machine
open Sys2Proof

/-- The outcome of every command: a next state. -/
abbrev Result := Host.Outcome State Fault Refusal

/-- A command that acts only while the part runs; before that it has no effect (R213, R227, log entry 1). -/
def whenRunning (s t : State) : Result := .next (if s.phase = .running then t else s)

/-! ### Timers: remaining ticks, absent when stopped (R56) -/

/-- One tick of a timer; a timer that has run out stays at 0 until its expiry is taken. -/
def tickTimer (t : Option Nat) : Option Nat := t.map (· - 1)

/-- The timer has run out and its expiry has not been taken. -/
def ranOut (t : Option Nat) : Bool := t == some 0

/-- Milliseconds in ticks (R56). -/
def msTicks (n : Nat) : Nat := 4 * n

/-- Tenths of a second in ticks (R56). -/
def tenthTicks (n : Nat) : Nat := 400 * n

/-- A time shown in milliseconds, truncated (R95, R123). -/
def ticksToMs (n : Nat) : Nat := n / 4

/-! ### One element of a table -/

def State.modFct (s : State) (f : Feeder) (g : Fct → Fct) : State :=
  { s with fct := s.fct.set f (g s.fct[f]) }

def State.modFpu (s : State) (f : Feeder) (g : Fpu → Fpu) : State :=
  { s with fpu := s.fpu.set f (g s.fpu[f]) }

def State.modSect (s : State) (f : Feeder) (g : Section → Section) : State :=
  { s with sco := { s.sco with sect := s.sco.sect.set f (g s.sco.sect[f]) } }

def State.modLink (s : State) (n : Slot) (g : LinkState → LinkState) : State :=
  { s with sco := { s.sco with link := s.sco.link.set n (g s.sco.link[n]) } }

def State.modPoint (s : State) (p : Point) (g : PointRec → PointRec) : State :=
  { s with smp := { s.smp with points := s.smp.points.set p (g s.smp.points[p]) } }

def State.setTestSlot (s : State) (k : TestSlot) (ph : TestPhase) : State :=
  { s with ltu := { s.ltu with slot := s.ltu.slot.set k ph } }

/-! ### Frames and insertion queues -/

/-- A frame of the part's own: source and check are given at the handing (R206). -/
def makeFrame (node dest kind : Nat) (payload : List Byte) : Frame :=
  { dest := BitVec.ofNat 8 dest, src := BitVec.ofNat 8 node, kind := BitVec.ofNat 8 kind,
    payload := payload,
    check := frameCheck (BitVec.ofNat 8 dest) (BitVec.ofNat 8 node) (BitVec.ofNat 8 kind)
      (BitVec.ofNat 8 payload.length) payload }

/-- Kind codes of R212. -/
def kindSample : Nat := 1
def kindTime : Nat := 2
def kindBreakerStatus : Nat := 3
def kindOrder : Nat := 4
def kindRectStatus : Nat := 5
def kindGate : Nat := 6
def kindLinkIn : Nat := 7
def kindLinkOut : Nat := 8
def kindRequest : Nat := 9
def kindResponse : Nat := 10
def kindNotice : Nat := 11

/-- Hands an order to the ORDER queue (R207): it replaces the order of its place and takes its turn, or takes
a new turn, or is discarded when 16 stand. In a strap fault every frame handed is discarded (R204). -/
def Rif.putOrder (r : Rif) (place : OrderPlace) (fr : Frame) : Rif :=
  let stands := r.orderQ.any (·.place == place)
  { r with
    orderQ :=
      if r.strapFault then r.orderQ
      else if stands then
        r.orderQ.map fun x => if x.place == place then { place := place, frame := fr } else x
      else if r.orderQ.length < 16 then r.orderQ ++ [{ place := place, frame := fr }]
      else r.orderQ
    orderDiscard :=
      if !r.strapFault && !stands && decide (16 ≤ r.orderQ.length) then satInc 65535 r.orderDiscard
      else r.orderDiscard }

/-- Hands a neighbour frame to the LINK queue (R208). -/
def Rif.putLink (r : Rif) (n : Slot) (fr : Frame) : Rif :=
  { r with
    linkQ :=
      if r.strapFault then r.linkQ
      else if r.linkQ.any (·.slot == n) then
        r.linkQ.map fun x => if x.slot == n then { slot := n, frame := fr } else x
      else r.linkQ ++ [{ slot := n, frame := fr }] }

/-- Places a response in the place held for it, at the end of the turns (R209). -/
def Rif.putResponse (r : Rif) (fr : Frame) : Rif :=
  { r with
    held := r.held - 1
    reportQ := if r.strapFault then r.reportQ else r.reportQ ++ [{ isNotice := false, frame := fr }] }

/-- Places a notice: it replaces a notice still queued and takes its turn, or takes a place while fewer than
eight frames and held places stand (R175, R209). -/
def Rif.putNotice (r : Rif) (fr : Frame) : Rif :=
  { r with
    reportQ :=
      if r.reportQ.any (·.isNotice) then
        r.reportQ.map fun x => if x.isNotice then { isNotice := true, frame := fr } else x
      else if r.reportQ.length + r.held < 8 then
        r.reportQ ++ [{ isNotice := true, frame := fr }]
      else r.reportQ }

/-- Withdraws a queued notice unsent (R178). -/
def Rif.dropNotice (r : Rif) : Rif :=
  { r with reportQ := r.reportQ.filter fun x => !x.isNotice }

/-- Sends an order to the breaker node of feeder f (R55). -/
def State.sendOrder (s : State) (f : Feeder) (o : BreakerOrder) : State :=
  { s with
    rif :=
      match s.tables.feeder[f].breakerNode with
      | some m => s.rif.putOrder (.breaker m) (makeFrame s.rif.node m kindOrder (orderPayload o))
      | none => s.rif }

/-! ### Notices, R174 to R176 -/

/-- A notice can be built: a control gateway node is set and there is no strap fault (R175, R178). -/
def State.canNotify (s : State) : Bool :=
  s.tables.station.gateway.isSome && !s.rif.strapFault

/-- The NOTICE frame for the summary as it stands (R175, R212). -/
def State.noticeFrame (s : State) : Frame :=
  makeFrame s.rif.node (s.tables.station.gateway.getD 0) kindNotice
    (summaryBytes s.summary ++ be32 s.evr.ms ++ be16 s.evr.nextSeq)

/-- Builds a notice when `due`: hands the frame to the REPORT queue, sets the notice-outstanding flag and keeps
the copy (R175). -/
def State.notify (s : State) (due : Bool) : State :=
  { s with
    evr := if due then { s.evr with notice := some s.summary } else s.evr
    rif := if due then s.rif.putNotice s.noticeFrame else s.rif }

/-- Takes a change of the summary from `old` (R174, R175). -/
def State.noteChange (s : State) (old : Summary) : State :=
  s.notify (old != s.summary && s.evr.notice.isNone && s.canNotify)

/-- Applies an update that may change the summary, and takes the change. -/
def State.changing (s : State) (g : State → State) : State := (g s).noteChange s.summary

/-! ### Events, R169 and R170 -/

/-- Takes an event into the queue, discarding the oldest record when 128 stand. -/
def Evr.take (e : Evr) (kind : EventKind) (subject : Subject) (cause : Option Cause)
    (value : Option Int) : Evr :=
  { e with
    events := (if e.events.length < 128 then e.events else e.events.drop 1) ++
      [{ seq := e.nextSeq, time := e.ms, kind := kind, subject := subject, cause := cause,
         value := value }]
    nextSeq := (e.nextSeq + 1) % 65536
    lost := e.lost || decide (128 ≤ e.events.length) }

/-- A block posts an event: the queue takes it, and the change of events pending or events lost it makes is
taken (R169, R174). -/
def State.post (s : State) (kind : EventKind) (subject : Subject) (cause : Option Cause)
    (value : Option Int) : State :=
  s.changing fun s => { s with evr := s.evr.take kind subject cause value }

/-! ### Record memory, R189 -/

/-- What the words of record memory read as while nothing has been placed there (log entry 11). -/
def unlistedWord : Word := 0

def memRead : RecordMemory → Nat → Word
  | [], _ => unlistedWord
  | (b, v) :: rest, a => if b = a then v else memRead rest a

/-- Keeps addresses strictly rising and lists no word equal to what an unlisted address reads as. -/
def memWrite : RecordMemory → Nat → Word → RecordMemory
  | [], a, w => if w = unlistedWord then [] else [(a, w)]
  | (b, v) :: rest, a, w =>
    if a < b then (if w = unlistedWord then (b, v) :: rest else (a, w) :: (b, v) :: rest)
    else if a = b then (if w = unlistedWord then rest else (a, w) :: rest)
    else (b, v) :: memWrite rest a w

/-- The canonical form from address `lo` upward: rising addresses inside the memory of 32768 words. -/
def memWfFrom : Nat → RecordMemory → Bool
  | _, [] => true
  | lo, (a, w) :: rest =>
    decide (lo ≤ a) && decide (a < 32768) && decide (w ≠ unlistedWord) && memWfFrom (a + 1) rest

/-- Record memory is in canonical form. -/
def memWf (m : RecordMemory) : Bool := memWfFrom 0 m

/-- A word reaches record memory; there is no address above 32767. -/
def memStore (m : RecordMemory) (a : Nat) (w : Word) : RecordMemory :=
  if a < 32768 then memWrite m a w else m

end Sys2Proof.Machine
end

