-- ==== Sys2Proof/Machine/Handshake.lean ====
section
/-!
DEFINITION. The parts of the section coordinator (05) that act on its own tables alone: coupling, double feed and
bank (R107 to R109), and the transfer-trip handshake of one section (R111 to R118).
-/

namespace Sys2Proof.Machine
open Sys2Proof

/-! ### Coupling, R107 to R109 -/

/-- Feeder f is in use with a section number other than 0. -/
def coordinated (r : FeederRec) : Bool := r.inUse && r.secNo != 0

/-- R108. -/
def State.coupledNow (s : State) (f : Feeder) : Bool :=
  let r := s.tables.feeder[f]
  coordinated r && r.localCoupled && neighbourUsed s.tables.neighbour[slotOf r] &&
    s.sco.link[slotOf r].up && s.sco.sect[f].farCoupled && (r.testEnd != s.sco.sect[f].farTestEnd)

/-- R109. -/
def State.doubleFedNow (s : State) (f : Feeder) : Bool :=
  s.coupledNow f && s.sco.sect[f].farClosed && s.farBusLive f

/-- The bank of a section, R109. -/
def bankFor (doubleFed : Bool) : Bank := if doubleFed then .a else .b

/-- Coupling, double feed and bank of feeder f are re-evaluated; BANK_CHANGE is posted for a coordinated feeder
in use whose bank changes (R105, R109, R122). -/
def State.reevaluate (s : State) (f : Feeder) : State :=
  let bank := bankFor (s.doubleFedNow f)
  let t := s.changing fun s => s.modSect f fun x =>
    { x with coupled := s.coupledNow f, doubleFed := s.doubleFedNow f, bank := bank }
  if s.sco.sect[f].bank ≠ bank ∧ coordinated s.tables.feeder[f] = true then
    t.post .bankChange (.feeder f) (some bank.cause) (some (s.tables.feeder[f].secNo : Int))
  else t

/-- The section state of a feeder, R110: its coupled, double-fed and bank values and its far-end values. -/
def State.sectionView (s : State) (f : Feeder) : Bool × Bool × Bank × List Bool :=
  let x := s.sco.sect[f]
  (x.coupled, x.doubleFed, x.bank,
    [x.farCoupled, x.farTestEnd, x.farClosed, x.farTesting, x.farLineLive, s.farBusLive f])

/-! ### The local request, R112 to R115 -/

/-- A request is in flight. -/
def Handshake.inFlight (h : Handshake) : Bool := h.ttReq || h.pending

/-- T_tt of the slot of feeder f, in ticks. -/
def State.ttTicks (s : State) (f : Feeder) : Nat :=
  msTicks s.tables.neighbour[slotOf s.tables.feeder[f]].tTt

def State.modHs (s : State) (f : Feeder) (g : Handshake → Handshake) : State :=
  s.modSect f fun x => { x with hs := g x.hs }

/-- The source of a request as the cause of TT_SENT (R122). -/
def sourceCause (fromStation : Bool) : Cause := if fromStation then .station else .feeder

/-- Posts an event of the section of feeder f with its section number as value (R122). -/
def State.postSection (s : State) (f : Feeder) (kind : EventKind) (cause : Option Cause) : State :=
  s.post kind (.feeder f) cause (some (s.tables.feeder[f].secNo : Int))

/-- A transfer-trip request for the section of feeder f, R112. -/
def State.ttRequest (s : State) (f : Feeder) (fromStation : Bool) : State :=
  let h := s.sco.sect[f].hs
  if s.sco.sect[f].coupled = false then s
  else if h.inFlight then
    if h.failed then
      (s.postSection f .ttFail (some .timeout)).modFct f fun c => { c with ttFailIn := c.ttFailIn + 1 }
    else s
  else if h.seenAck then
    s.modHs f fun h => { h with pending := true, timer := some (s.ttTicks f), fromStation := fromStation }
  else
    (s.modHs f fun h =>
        { h with ttReq := true, timer := some (s.ttTicks f), fromStation := fromStation }).postSection f
      .ttSent (some (sourceCause fromStation))

/-- The far TT_ACK of an accepted frame acts on the local request: completion (R114) or the release of a pending
request (R113). -/
def Handshake.takeAck (h : Handshake) (ack : Bool) : Handshake :=
  if ack then
    if h.ttReq then { h with ttReq := false, timer := none, failed := false, seenAck := true }
    else { h with seenAck := true }
  else { h with pending := false, ttReq := h.ttReq || h.pending, seenAck := false }

/-- The far TT_ACK taken, with TT_SENT for a released request. -/
def State.takeFarAck (s : State) (f : Feeder) (ack : Bool) : State :=
  let h := s.sco.sect[f].hs
  let t := s.modHs f fun h => h.takeAck ack
  if h.pending && !ack then t.postSection f .ttSent (some (sourceCause h.fromStation)) else t

/-! ### Reports that have newly become present, R118 -/

/-- The flags of a far-end report are taken as standing, the seen flags on an uncoupled section too. DEDUCED: log entry
35. -/
def State.takeStanding (s : State) (f : Feeder) (e : SectionEntry) : State :=
  let acks := e.ttReq && s.sco.sect[f].coupled
  let t := s.modHs f fun h =>
    { h with seenReq := e.ttReq, seenAck := e.ttAck, ttAck := h.ttAck || acks }
  if acks then t.postSection f .ttReceived (some .standing) else t

end Sys2Proof.Machine
end

