-- ==== Sys2Proof/Machine/Controller.lean ====
section
/-!
DEFINITION. What the feeder controller and the line test unit share: the content of a controller on entry to a state
(R56), the closing of a feeder, and the taking of a test outcome (R65), which the end of a release brings (R88).
-/

namespace Sys2Proof.Machine
open Sys2Proof

/-- TEST_WAIT or TESTING: the states in which the feeder has a test. -/
def inTest (st : FeederState) : Bool := st == .testWait || st == .testing

/-- OPENING and the states after it that keep the opening cause, R56. -/
def keepsOpeningCause (st : FeederState) : Bool :=
  st == .opening || st == .deadTime || st == .testWait || st == .testing || st == .closing ||
    st == .follow

/-- The content on entry to a state: a field that is not present for it becomes absent (R56). An outcome not yet
taken is dropped when the feeder leaves its test (R71, R92). -/
def Fct.enter (c : Fct) (st : FeederState) (timer : Option Nat) : Fct :=
  { c with
    state := st
    timer := timer
    opClose := c.opClose && inTest st
    openingCause := if keepsOpeningCause st then c.openingCause else none
    opOpen := false
    ttFail := false
    pbRaised := c.pbRaised && st == .opening
    lockCause := none
    outcomeIn := if inTest st then c.outcomeIn else [] }

/-- A change of the controller's content that the summary may show. -/
def State.fctSet (s : State) (f : Feeder) (g : Fct → Fct) : State := s.changing fun s => s.modFct f g

/-- Feeder f enters a state. -/
def State.fctEnter (s : State) (f : Feeder) (st : FeederState) (timer : Option Nat) : State :=
  s.fctSet f fun c => c.enter st timer

/-- Feeder f enters OUT with its attempt counter 0 (R62, R71, R72). -/
def State.fctOut (s : State) (f : Feeder) : State :=
  s.fctSet f fun c => { c.enter .out none with attempts := 0 }

/-- Feeder f enters LOCKOUT with its cause and posts LOCKOUT (R69, R75). -/
def State.lockOut (s : State) (f : Feeder) (cause : Cause) : State :=
  (s.fctSet f fun c => { c.enter .lockout none with lockCause := some cause }).post .lockout (.feeder f)
    (some cause) (some (s.fct[f].attempts : Int))

/-! ### Opening without a trip, closing, dead time -/

/-- Feeder f enters OPENING with its cause and, where it runs, T_open (R59, R71, R73). -/
def State.toOpening (s : State) (f : Feeder) (cause : Cause) (timed : Bool) : State :=
  s.fctSet f fun c =>
    { c.enter .opening (if timed then some (msTicks s.tables.feeder[f].tOpen) else none) with
      openingCause := some cause }

/-- OPEN is sent and feeder f enters OPENING without a trip (R71, R73). -/
def State.openWithoutTrip (s : State) (f : Feeder) (cause : Cause) : State :=
  (s.sendOrder f .opened).toOpening f cause true

/-- The blind action on entry to SERVICE or CLOSING, R73. -/
def State.blindOnEntry (s : State) (f : Feeder) : State :=
  if s.blind f && s.tables.feeder[f].blindOpen then s.openWithoutTrip f .blind else s

/-- CLOSE is sent, T_close starts (R66). -/
def State.toClosing (s : State) (f : Feeder) : State :=
  ((s.sendOrder f .close).fctEnter f .closing (some (msTicks s.tables.feeder[f].tClose))).blindOnEntry f

/-- Feeder f enters DEAD_TIME with its counter and posts RECLOSE_START (R62, R64, R65). -/
def State.toDeadTime (s : State) (f : Feeder) (attempts : Nat) (cause : Option Cause) : State :=
  (s.fctSet f fun c =>
      { c.enter .deadTime (some (tenthTicks s.tables.feeder[f].deadTime)) with
        attempts := attempts }).post .recloseStart (.feeder f) cause (some (attempts : Int))

/-! ### Test outcomes, R65 -/

/-- The kind the controller counts when it takes the outcome: LIVE counts while the section is coupled and the far end
reports its feeder closed, and neither PASS nor LIVE closes a blind feeder. -/
def State.countedKind (s : State) (f : Feeder) (k : OutcomeKind) : OutcomeKind :=
  match k with
  | .pass => if s.blind f then .inconclusive else .pass
  | .live => if s.blind f = false ∧ s.coupledFarClosed f = true then .live else .inconclusive
  | .fail => .fail
  | .inconclusive => .inconclusive

/-- The controller takes a test outcome in TEST_WAIT or TESTING. -/
def State.takeOutcome (s : State) (f : Feeder) (o : TestOutcome) : State :=
  let kind := s.countedKind f o.kind
  let c := s.fct[f]
  if kind = .pass ∨ kind = .live then s.toClosing f
  else if c.opClose then
    (s.fctEnter f .out none).post .testFail (.feeder f) (some kind.cause)
      (if kind = .fail then o.rLine.map Int.ofNat else none)
  else if c.attempts < s.tables.feeder[f].attempts then
    s.toDeadTime f (c.attempts + 1) (some kind.cause)
  else s.lockOut f .recloseExhausted

/-- An outcome at the controller: taken in TEST_WAIT and TESTING, dropped in the other states. -/
def State.outcomeTaken (s : State) (f : Feeder) (o : TestOutcome) : State :=
  if inTest s.fct[f].state then s.takeOutcome f o else s

end Sys2Proof.Machine
end

