-- ==== Sys2Proof/Machine/LineTest.lean ====
section
/-!
DEFINITION. The line test unit (04): the queue, grants, the phases of the two slots, outcomes and withdrawals,
with the meanings of the slot timers.
-/

namespace Sys2Proof.Machine
open Sys2Proof

/-- The contactor and release timers: 200 ms (R79). -/
def contactorTicks : Nat := 800

def inconclusive : TestOutcome := { kind := .inconclusive, rLine := none }

/-! ### Slots -/

/-- The feeder of a slot's running test: CONTACT, SETTLE or WINDOW. -/
def TestPhase.testing : TestPhase → Option Feeder
  | .contact f _ => some f
  | .settle f _ => some f
  | .window f _ _ _ _ => some f
  | .free => none
  | .release _ _ _ => none

/-- The feeder of a slot in RELEASE. -/
def TestPhase.releasing : TestPhase → Option Feeder
  | .release f _ _ => some f
  | _ => none

/-- The slot a head is given: 0 when it is FREE and 1 otherwise (R82). -/
def State.freeSlot (s : State) : Option TestSlot :=
  if s.ltu.slot[0] = .free then some 0
  else if s.ltu.slot[1] = .free then some 1
  else none

/-- Some slot is in RELEASE for feeder f. -/
def State.ownRelease (s : State) (f : Feeder) : Bool :=
  s.ltu.slot[0].releasing == some f || s.ltu.slot[1].releasing == some f

/-- Both slots in the order of their numbers. DESIGN CHOICE where both send an order: log entry 33. -/
def State.eachSlot (s : State) (g : State → TestSlot → State) : State := g (g s 0) 1

/-! ### Outcomes, R94 -/

/-- LINE_TEST_RESULT of feeder f, with the kind the unit formed. -/
def State.postOutcome (s : State) (f : Feeder) (o : TestOutcome) : State :=
  s.post .lineTestResult (.feeder f) (some o.kind.cause) (o.rLine.map Int.ofNat)

/-- Hands a test outcome to the controller of feeder f, whose row TEST_OUTCOME takes it (R83, log entry 26). -/
def State.handOutcome (s : State) (f : Feeder) (o : TestOutcome) : State :=
  (s.modFct f fun c => { c with outcomeIn := c.outcomeIn ++ [o] }).postOutcome f o

/-- A test ends with a result: RELEASE with the pending outcome, TEST_OFF sent (R88). -/
def State.endTest (s : State) (k : TestSlot) (f : Feeder) (o : TestOutcome) : State :=
  (s.setTestSlot k (.release f contactorTicks (some o))).sendOrder f .testOff

/-! ### The queue and the grant, R80 to R83 -/

/-- The bus is dead at an examination, R83. -/
def State.busDead (s : State) : Bool := decide (s.last busPoint < s.tables.station.vBusMin)

/-- The conditions of R82 but for the free slot. -/
def State.headClear (s : State) (f : Feeder) : Bool :=
  !s.lost busPoint && !s.sco.sect[f].farTesting && !s.ownRelease f

def State.setQueue (s : State) (q : List Feeder) : State := { s with ltu := { s.ltu with queue := q } }

/-- The grant of slot k to feeder f: TESTING, CONTACT, TEST_ON (R82). -/
def State.grant (s : State) (k : TestSlot) (f : Feeder) : State :=
  ((s.setTestSlot k (.contact f contactorTicks)).fctEnter f .testing none).sendOrder f .testOn

/-- Examines the head, and each new head after a grant or a bus-dead outcome; `n` bounds the queue. -/
def State.examine : Nat → State → State
  | 0, s => s
  | n + 1, s =>
    match s.ltu.queue, s.freeSlot with
    | f :: rest, some k =>
      if s.headClear f then
        if s.busDead then ((s.setQueue rest).handOutcome f inconclusive).examine n
        else ((s.setQueue rest).grant k f).examine n
      else s
    | _, _ => s

/-- An examination of the head (R81): at most ten feeders wait. -/
def State.examineHead (s : State) : State := s.examine 10

/-- Feeder f is the head. -/
def State.isHead (s : State) (f : Feeder) : Bool := s.ltu.queue.head? == some f

/-- An examination when f is the head. -/
def State.examineFor (s : State) (f : Feeder) : State := if s.isHead f then s.examineHead else s

/-- Feeder f joins the tail; an empty queue makes it the head, which is examined (R80, R81). -/
def State.enqueue (s : State) (f : Feeder) : State := (s.setQueue (s.ltu.queue ++ [f])).examineFor f

/-- Feeder f leaves the queue. -/
def State.dequeue (s : State) (f : Feeder) : State := s.setQueue (s.ltu.queue.filter (· != f))

/-! ### Withdrawals, R92 and R93 -/

/-- The slot of a withdrawn feeder, R92. -/
def TestPhase.withdrawn (ph : TestPhase) (f : Feeder) : TestPhase :=
  match ph with
  | .release g t p => if g = f then .release g t none else .release g t p
  | ph => if ph.testing = some f then .release f contactorTicks none else ph

/-- Feeder f leaves its place: the queue, its slot, or the wait for the taking of its outcome, which is dropped. -/
def State.leavePlace (s : State) (f : Feeder) : State :=
  ((s.dequeue f).eachSlot fun s k => s.setTestSlot k (s.ltu.slot[k].withdrawn f)).modFct f fun c =>
    { c with outcomeIn := [] }

/-- The new head is examined after feeder f has left its place, when f was the head of `before` (R81). -/
def State.examineAfter (s before : State) (f : Feeder) : State :=
  if before.isHead f then s.examineHead else s

/-- The withdrawal of feeder f by its controller; the TEST_OFF is the controller's (R92). The new head is examined before
the controller enters its new state. DESIGN CHOICE: log entry 18. -/
def State.ltuWithdraw (s : State) (f : Feeder) : State := (s.leavePlace f).examineAfter s f

/-- Some slot is in CONTACT, SETTLE or WINDOW for feeder f. -/
def State.inSlotTest (s : State) (f : Feeder) : Bool :=
  s.ltu.slot[0].testing == some f || s.ltu.slot[1].testing == some f

/-- The withdrawal at a supervision expiry up to the outcome, which the controller takes at once: the place is freed,
TEST_OFF ends a running test, and LINE_TEST_RESULT is posted (R93). -/
def State.ltuUnsupervised (s : State) (f : Feeder) : State :=
  let t := s.leavePlace f
  (if s.inSlotTest f then t.sendOrder f .testOff else t).post .lineTestResult (.feeder f)
    (some .inconclusive) none

/-! ### The end of a release, R88 -/

/-- The slot becomes FREE, the pending outcome is handed and taken by the controller, which leaves TESTING (R65), and the
head is examined; LINE_TEST_RESULT stands before the controller's event (4.8.1, log entry 26). -/
def State.releaseEnds (s : State) (k : TestSlot) (f : Feeder) (pending : Option TestOutcome) : State :=
  let t := s.setTestSlot k .free
  (match pending with
    | some o => (t.postOutcome f o).outcomeTaken f o
    | none => t).examineHead

/-! ### The result, R87 -/

def lineResult (r : FeederRec) (sumLine sumBus : Int) : TestOutcome :=
  let d := sumBus - sumLine
  if d ≤ 0 then { kind := .live, rLine := none }
  else
    let line := (clampInt (((r.rTest : Int) * sumLine).tdiv d) 0 65535).toNat
    { kind := if r.rMin ≤ line then .pass else .fail, rLine := some line }

/-! ### Events of the slot's feeder -/

/-- A delivery of LINE_VOLTAGE(f), R86 and R89. -/
def State.ltuLine (s : State) (f : Feeder) (v : Int) : State :=
  s.eachSlot fun s k =>
    match s.ltu.slot[k] with
    | .window g w n sumLine sumBus =>
      if g = f then
        if (s.tables.feeder[f].vLive : Int) ≤ v ∧ s.coupledFarClosed f = true then
          s.endTest k f { kind := .live, rLine := none }
        else
          let line := sumLine + v
          let bus := sumBus + s.last busPoint
          if n + 1 < w then s.setTestSlot k (.window f w (n + 1) line bus)
          else s.endTest k f (lineResult s.tables.feeder[f] line bus)
      else s
    | _ => s

/-- The end of every running test for which `uses` holds, at a loss notice (R90). -/
def State.ltuLoss (s : State) (uses : Feeder → Bool) : State :=
  s.eachSlot fun s k =>
    match s.ltu.slot[k].testing with
    | some f => if uses f then s.endTest k f inconclusive else s
    | none => s

/-- The test contactor field of a breaker status report of feeder f, R84 to R88. A release that the report
itself began is not ended by it: `before` is the slots as the report found them; a CONTACT that the report itself began (a
report that ends the holds of DEAD_TIME and finds its feeder granted at once) takes its ON. DESIGN CHOICE: log entry
15. -/
def State.ltuContactor (s : State) (before : Vector TestPhase 2) (f : Feeder) (on : Bool) : State :=
  s.eachSlot fun s k =>
    match s.ltu.slot[k] with
    | .contact g _ =>
      if g = f ∧ on = true then s.setTestSlot k (.settle f (msTicks s.tables.feeder[f].settle)) else s
    | .settle g _ => if g = f ∧ on = false then s.endTest k f inconclusive else s
    | .window g _ _ _ _ => if g = f ∧ on = false then s.endTest k f inconclusive else s
    | .release g _ p =>
      if g = f ∧ on = false ∧ before[k].releasing = some f then s.releaseEnds k f p else s
    | .free => s

/-- The yield of R91. -/
def State.ltuYield (s : State) (f : Feeder) : State :=
  if s.sco.sect[f].coupled && !s.tables.feeder[f].testEnd && s.sco.sect[f].farTesting then
    s.eachSlot fun s k =>
      if s.ltu.slot[k].testing = some f then
        ((((s.setTestSlot k (.release f contactorTicks none)).sendOrder f .testOff).fctEnter f .testWait
          none).enqueue f).post .lineTestResult (.feeder f) (some .yielded) none
      else s
  else s

/-- The section state of feeder f is reported to the line test unit (R81, R91). -/
def State.ltuSection (s : State) (f : Feeder) : State := (s.ltuYield f).examineFor f

/-! ### Slot timers -/

/-- CONTACTOR_TIMER_EXPIRY, R84. -/
def execContactorTimerExpiry (k : TestSlot) (s : State) : Result :=
  whenRunning s <|
    match s.ltu.slot[k] with
    | .contact f 0 => s.endTest k f inconclusive
    | _ => s

/-- SETTLE_TIMER_EXPIRY, R85. -/
def execSettleTimerExpiry (k : TestSlot) (s : State) : Result :=
  whenRunning s <|
    match s.ltu.slot[k] with
    | .settle f 0 => s.setTestSlot k (.window f s.tables.feeder[f].window 0 0 0)
    | _ => s

/-- RELEASE_TIMER_EXPIRY, R88. -/
def execReleaseTimerExpiry (k : TestSlot) (s : State) : Result :=
  whenRunning s <|
    match s.ltu.slot[k] with
    | .release f 0 p => s.releaseEnds k f (p.map fun _ => inconclusive)
    | _ => s

/-! ### What the head waits for, R95 -/

/-- The first reason of the list of R95, as its place in that list: 0 for none. -/
def State.headWaits (s : State) : Nat :=
  match s.ltu.queue with
  | [] => 0
  | f :: _ =>
    if s.sco.sect[f].farTesting then 1
    else if s.lost busPoint then 2
    else if s.ownRelease f then 3
    else if s.freeSlot.isNone then 4
    else 0

end Sys2Proof.Machine
end

