-- ==== Sys2Proof/Machine/Protection.lean ====
section
/-!
DEFINITION. The feeder protection unit (02): IMAX, DDL and THERM at a delivery and at a period end, the loss
notice, and the trip context record.
-/

namespace Sys2Proof.Machine
open Sys2Proof

/-! ### Dead band and increments, R23, R31 -/

/-- The dead-banded current of a delivered value, R23. -/
def deadBand (iDb : Nat) (v : Int) : Int := if v.natAbs < iDb then 0 else v

/-- The rise rate, truncated toward zero (R31, R32). -/
def riseRate (i iPrev : Int) (k : Nat) : Int := (i - iPrev).tdiv k

/-- ΔI, saturated to ±60000 (R31, R32). -/
def increment (i base : Int) : Int := clampInt (i - base) (-60000) 60000

/-! ### IMAX, R28 -/

/-- The run count after a delivery before an operation clears it, R28. -/
def imaxCount (b : BankRec) (run : Nat) (v : Int) (disc : Bool) : Nat :=
  if !b.imaxEnable then 0
  else if b.iMax ≤ v.natAbs then min 4 ((if disc then 0 else run) + 1)
  else 0

/-- IMAX operates at the delivery that leaves this run count, R28. -/
def imaxOperates (b : BankRec) (run : Nat) (v : Int) (disc : Bool) : Bool :=
  b.imaxEnable && decide (b.iMax ≤ v.natAbs) && decide (b.confirm ≤ imaxCount b run v disc)

/-- The run count the delivery leaves: 0 after an operation, R28. -/
def imaxRunAfter (b : BankRec) (run : Nat) (v : Int) (disc : Bool) : Nat :=
  if imaxOperates b run v disc then 0 else imaxCount b run v disc

/-! ### DDL, R31 to R34 -/

/-- The trip test of R31 and R32. -/
def DdlRun.trips (r : DdlRun) (delta : Int) : Bool :=
  decide ((r.deltaTrip : Int) ≤ delta) && decide (r.tMin ≤ r.t)

/-- The return test of R32. -/
def DdlRun.returns (r : DdlRun) (delta : Int) : Bool :=
  decide (delta < 0) || decide (r.tReset ≤ r.low) || decide (r.tMax < r.t)

/-- A start: the settings of the bank in use are latched (R31, step 3). -/
def ddlLatch (bank : Bank) (b : BankRec) (base : Int) (k : Nat) : DdlRun :=
  { bank := bank, diStart := b.diStart, diReset := b.diReset, deltaTrip := b.deltaTrip,
    tMin := b.tMin, tMax := b.tMax, tReset := b.tReset, phaseBack := b.pbDdl, transfer := b.trDdl,
    base := base, t := k, low := 0 }

/-- A RUNNING element advanced by a delivery (R32, steps 1 and 3). -/
def DdlRun.advance (r : DdlRun) (i iPrev : Int) (k : Nat) : DdlRun :=
  { r with t := r.t + k
           low := if riseRate i iPrev k < r.diReset then r.low + k else 0 }

/-- DDL after a delivery, with the run and ΔI of an operation if it operates. -/
def ddlStep (d : Ddl) (bank : Bank) (b : BankRec) (i : Int) (k : Nat) (disc : Bool) :
    Ddl × Option (DdlRun × Int) :=
  match (if disc then none else d.iPrev) with
  | none => ({ iPrev := some i, run := none }, none)
  | some prev =>
    match d.run with
    | none =>
      if !b.ddlEnable || decide (riseRate i prev k < b.diStart) then
        ({ iPrev := some i, run := none }, none)
      else
        let r := ddlLatch bank b prev k
        let delta := increment i prev
        if r.trips delta then ({ iPrev := some i, run := none }, some (r, delta))
        else ({ iPrev := some i, run := some r }, none)
    | some r0 =>
      let r := r0.advance i prev k
      let delta := increment i r.base
      if r.trips delta then ({ iPrev := some i, run := none }, some (r, delta))
      else if r.returns delta then ({ iPrev := some i, run := none }, none)
      else ({ iPrev := some i, run := some r }, none)

/-! ### A delivery, R22, R24, R39 -/

/-- The operate report of a delivery: IMAX's alone when both operate (R34, R39). -/
def deliveryReport (bank : Bank) (b : BankRec) (v : Int) (imax : Bool) (ddl : Option (DdlRun × Int)) :
    Option OperateReport :=
  if imax then
    some { cause := .imax, bank := bank, current := v, delta := none, t := none, theta := none,
           phaseBack := b.pbImax, transfer := b.trImax }
  else
    ddl.map fun x =>
      { cause := .ddl, bank := x.1.bank, current := v, delta := some x.2, t := some x.1.t,
        theta := none, phaseBack := x.1.phaseBack, transfer := x.1.transfer }

/-- The elements of one feeder in use at one delivery, with the report they hand. -/
def Fpu.deliver (p : Fpu) (iDb : Nat) (bank : Bank) (b : BankRec) (v : Int) (k : Nat) (disc : Bool) :
    Fpu × Option OperateReport :=
  let i := deadBand iDb v
  let d := ddlStep p.ddl bank b i k disc
  ({ p with imaxRun := imaxRunAfter b p.imaxRun v disc
            ddl := d.1
            sum := p.sum + (i * i).toNat
            count := p.count + 1 },
    deliveryReport bank b v (imaxOperates b p.imaxRun v disc) d.2)

/-- FPU f takes a delivery record of FEEDER_CURRENT(f); a report is handed to FCT f. -/
def State.fpuDeliver (s : State) (f : Feeder) (v : Int) (k : Nat) (disc : Bool) : State :=
  let r := s.fpu[f].deliver s.tables.feeder[f].iDb s.sco.sect[f].bank (s.bankInUse f) v k disc
  if s.tables.feeder[f].inUse then
    (s.modFpu f fun _ => r.1).modFct f fun c => { c with operateIn := c.operateIn ++ r.2.toList }
  else s

/-- The elements at rest: run count 0, DDL QUIET with I_prev absent, accumulation empty (R22, R41, R48). -/
def Fpu.rest (p : Fpu) : Fpu :=
  { p with imaxRun := 0, ddl := { iPrev := none, run := none }, sum := 0, count := 0 }

/-- The loss notice of FEEDER_CURRENT(f), R29 and R41. -/
def State.fpuLoss (s : State) (f : Feeder) : State :=
  if s.tables.feeder[f].inUse then s.modFpu f Fpu.rest else s

/-- In use changes: elements at rest, θ 0, marks clear, the trip context kept (R22, R49). -/
def Fpu.useChanged (p : Fpu) : Fpu :=
  { p.rest with theta := 0, alarmMark := false, tripMark := false }

/-! ### THERM, R36 to R38 -/

/-- Steps 2 and 3 of R36: the heating demand. -/
def heatingDemand (iTh sum count : Nat) : Nat := min 65535 (sum / count * 10000 / (iTh * iTh))

/-- Step 4 of R36. -/
def thermalStep (tau : Nat) (q theta : Int) : Int :=
  let step := (q - theta).tdiv tau
  if step = 0 then (if q > theta then 1 else if q < theta then -1 else 0) else step

/-- θ at a period end (R36); held when no delivery was taken. -/
def thetaAfter (r : FeederRec) (p : Fpu) : Nat :=
  if p.count = 0 then p.theta
  else
    let q : Int := heatingDemand r.iTh p.sum p.count
    (clampInt (p.theta + thermalStep r.tauT q p.theta) 0 65535).toNat

/-- The protection unit of a sighted feeder in use at a period end. -/
def Fpu.periodEnd (p : Fpu) (r : FeederRec) : Fpu :=
  let theta := thetaAfter r p
  { p with theta := theta, sum := 0, count := 0
           alarmMark := decide (r.thetaAlarm ≤ theta)
           tripMark := decide (r.thetaTrip ≤ theta) }

/-- The THERMAL operate report, R39. -/
def State.thermalReport (s : State) (f : Feeder) (theta : Nat) : OperateReport :=
  { cause := .thermal, bank := s.sco.sect[f].bank, current := s.last (currentPoint f), delta := none,
    t := none, theta := some theta, phaseBack := false, transfer := false }

/-- FPU f at a period end: the alarm is posted and the report handed when their marks are newly raised. -/
def State.fpuPeriodEnd (s : State) (f : Feeder) : State :=
  if s.tables.feeder[f].inUse && !s.blind f then
    let old := s.fpu[f]
    let new := old.periodEnd s.tables.feeder[f]
    let s1 := s.modFpu f fun _ => new
    let s2 :=
      if new.alarmMark && !old.alarmMark then
        s1.post .thermalAlarm (.feeder f) none (some (new.theta : Int))
      else s1
    if new.tripMark && !old.tripMark then
      s2.modFct f fun c => { c with operateIn := c.operateIn ++ [s2.thermalReport f new.theta] }
    else s2
  else s

/-! ### The trip context record, R43 and R44 -/

/-- What a trip notice writes into an empty record, R43. -/
def State.contextOf (s : State) (f : Feeder) (cause : Cause) (report : Option OperateReport) :
    TripContext :=
  match report with
  | some r =>
    { cause := cause, time := s.evr.ms, bank := r.bank, current := r.current, delta := r.delta,
      t := r.t, theta := r.theta, secNo := none, further := 0 }
  | none =>
    { cause := cause, time := s.evr.ms, bank := s.sco.sect[f].bank,
      current := s.last (currentPoint f), delta := none, t := none, theta := none,
      secNo := if cause = .transfer then some s.tables.feeder[f].secNo else none, further := 0 }

/-- An empty record is written; an occupied one counts, R44. -/
def Fpu.noteTrip (p : Fpu) (x : TripContext) : Fpu :=
  { p with
    context :=
      match p.context with
      | none => some x
      | some o => some { o with further := satInc 255 o.further } }

/-- A trip notice of feeder f, R44. -/
def State.tripNotice (s : State) (f : Feeder) (cause : Cause) (report : Option OperateReport) : State :=
  s.changing fun s => s.modFpu f fun p => p.noteTrip (s.contextOf f cause report)

/-- CLEAR_CONTEXT, R45. -/
def State.emptyContext (s : State) (f : Feeder) : State :=
  s.changing fun s => s.modFpu f fun p => { p with context := none }

end Sys2Proof.Machine
end

