-- ==== Sys2Proof/Machine/Recorder.lean ====
section
/-!
DEFINITION. The disturbance recorder (09): the record chain, the write buffer, triggers, sets and the end of a
capture, with the meanings of DRAINING_END and the recorder's part of TICK.
-/

namespace Sys2Proof.Machine
open Sys2Proof

/-! ### Chain order, R184 -/

def chainCapacity (chain : List ChainDesc) : Nat := (chain.map descSize).sum

/-- The address of word `w` of a record, in chain order. -/
def chainAddr : List ChainDesc → Nat → Option Nat
  | [], _ => none
  | x :: rest, w => if w < descSize x then some (x.start + w) else chainAddr rest (w - descSize x)

/-! ### The write buffer, R189 -/

/-- The words of the buffer reach record memory in the order placed. -/
def Drc.flush (d : Drc) : Drc :=
  { d with writeBuf := [], mem := d.writeBuf.foldl (fun m x => memStore m x.1 x.2) d.mem }

/-- A word enters the write buffer. When 16 stand in it, the placement waits until the oldest has reached
record memory. -/
def Drc.buffer (d : Drc) (a : Nat) (w : Word) : Drc :=
  match d.writeBuf with
  | x :: rest =>
    if 16 ≤ d.writeBuf.length then
      { d with writeBuf := rest ++ [(a, w)], mem := memStore d.mem x.1 x.2 }
    else { d with writeBuf := d.writeBuf ++ [(a, w)] }
  | [] => { d with writeBuf := [(a, w)] }

/-- Places word `n` of the record. -/
def Drc.placeAt (d : Drc) (chain : List ChainDesc) (n : Nat) (w : Word) : Drc :=
  match chainAddr chain n with
  | some a => d.buffer a w
  | none => d

/-- Places a list of words from word `n` upward. -/
def Drc.placeFrom (d : Drc) (chain : List ChainDesc) : Nat → List Word → Drc
  | _, [] => d
  | n, w :: rest => (d.placeAt chain n w).placeFrom chain (n + 1) rest

/-- The words placed and not yet in record memory, oldest first (R182). -/
def Drc.waitingWords (d : Drc) : List Int := d.writeBuf.map fun x => (x.2.toNat : Int)

/-! ### Header, R192 and R212 -/

def packPoints (ps : List Nat) : Nat :=
  ps.getD 0 0 * 262144 + ps.getD 1 0 * 4096 + ps.getD 2 0 * 64 + ps.getD 3 0

/-- Word 7: end reason in bits 15..8 (0 IN_PROGRESS), retrigger count in bits 7..0. -/
def reasonWord (reason : Option EndReason) (retriggers : Nat) : Word :=
  BitVec.ofNat 32 (reasonCode reason * 256 + retriggers)

def headerWords (points : List Nat) (r : RecordInProgress) : List Word :=
  [BitVec.ofNat 32 r.time, BitVec.ofNat 32 r.cause.code, BitVec.ofNat 32 r.subject.code,
    BitVec.ofNat 32 (points.length * 268435456 + packPoints (points.take 4)),
    BitVec.ofNat 32 (packPoints (points.drop 4)), BitVec.ofNat 32 r.preCount, 0, reasonWord none 0]

/-- A set as words (R186: signed 32-bit numbers). -/
def setWords (set : List Int) : List Word := set.map (BitVec.ofInt 32)

/-! ### End of a capture, R191, R193, R194 -/

/-- DRAINING is entered: the final values of header words 5, 6 and 7 are placed. -/
def Drc.drain (d : Drc) (chain : List ChainDesc) (r : RecordInProgress) (reason : EndReason) : Drc :=
  let d' := d.placeFrom chain 5 [BitVec.ofNat 32 r.preCount, BitVec.ofNat 32 r.placed,
    reasonWord (some reason) r.retriggers]
  { d' with state := .draining { r with reason := some reason } }

/-- The first end condition of R191 that holds. `points` is P. -/
def endReasonOf (cap capacity points : Nat) (r : RecordInProgress) : Option EndReason :=
  if r.remaining = 0 then some .complete
  else if r.placed = cap then some .capped
  else if capacity - r.words < points then some .short
  else none

/-! ### Triggers, R188 and R190 -/

/-- CAPTURING is entered: layout fixed, header and pre-trigger sets placed (R190). The copy is one step (log entry
22). -/
def Drc.startCapture (d : Drc) (t : Tables) (now : Nat) (cause : Cause) (subject : Subject)
    (buffer : List (List Int)) : Drc :=
  let points := t.recorder.points.length
  let capacity := chainCapacity t.chain
  let pre := min buffer.length ((capacity - 8) / points)
  let sets := buffer.drop (buffer.length - pre)
  let r : RecordInProgress :=
    { time := now, cause := cause, subject := subject, preCount := pre, placed := 0,
      remaining := t.recorder.postCount, words := 8 + points * pre, retriggers := 0, reason := none,
      frozen := buffer }
  { d.placeFrom t.chain 0 (headerWords t.recorder.points r ++ sets.flatMap setWords) with state := .capturing r }

/-- The capture ends at once when the capacity left after the copy is less than one set (R190). -/
def Drc.endIfFull (d : Drc) (t : Tables) : Drc :=
  match d.state with
  | .capturing r =>
    if chainCapacity t.chain - r.words < t.recorder.points.length then d.drain t.chain r .short else d
  | _ => d

/-- R188: the recorder takes a trigger by its state. -/
def Drc.trigger (d : Drc) (t : Tables) (now : Nat) (cause : Cause) (subject : Subject) : Drc :=
  match d.state with
  | .armed buffer => (d.startCapture t now cause subject buffer).endIfFull t
  | .capturing r =>
    { d with state := .capturing { r with remaining := t.recorder.postCount,
                                          retriggers := satInc 255 r.retriggers } }
  | _ => { d with missed := satInc 255 d.missed }

/-- A trigger is handed to the recorder. A capture that ends at once changes the recorder state of the summary twice, from
ARMED to CAPTURING and from CAPTURING to DRAINING (R174, R190). -/
def State.trigger (s : State) (cause : Cause) (subject : Subject) : State :=
  match s.drc.state with
  | .armed buffer =>
    (s.changing fun s => { s with
      drc := s.drc.startCapture s.tables s.evr.ms cause subject buffer }).changing fun s =>
        { s with drc := s.drc.endIfFull s.tables }
  | _ => s.changing fun s => { s with drc := s.drc.trigger s.tables s.evr.ms cause subject }

/-! ### Sets, R186 and R191 -/

/-- The last value of a point number (0 for a number that is no point). -/
def State.lastOf (s : State) (p : Nat) : Int :=
  if h : p < 24 then s.last ⟨p, h⟩ else 0

/-- One set: the last value of each point of the point list, in list order. -/
def State.takeSet (s : State) : List Int := s.tables.recorder.points.map s.lastOf

/-- The recorder's part of a tick: the buffer has emptied since the last one (R189), then the set is taken. -/
def Drc.tick (d : Drc) (t : Tables) (set : List Int) : Drc :=
  match d.state with
  | .armed buffer =>
    { d with state := .armed ((if buffer.length < 256 then buffer else buffer.drop 1) ++ [set]) }
  | .capturing r =>
    let points := t.recorder.points.length
    let d' := (d.flush).placeFrom t.chain r.words (setWords set)
    let r' := { r with placed := r.placed + 1, remaining := r.remaining - 1, words := r.words + points }
    match endReasonOf t.recorder.cap (chainCapacity t.chain) points r' with
    | some reason => d'.drain t.chain r' reason
    | none => { d' with state := .capturing r' }
  | _ => d

/-- The record length in words of R192. -/
def recordLength (points : Nat) (r : RecordInProgress) : Nat := 8 + points * (r.preCount + r.placed)

/-- R194: the write buffer empties in DRAINING. -/
def State.drainingEnds (s : State) : State :=
  match s.drc.state with
  | .draining r =>
    let reason := r.reason.getD .complete
    let len := recordLength s.tables.recorder.points.length r
    (s.changing fun s => { s with drc := { s.drc.flush with state := .held len reason } }).post
      .recordReady .station reason.cause (some (len : Int))
  | _ => s

/-- DRAINING_END. -/
def execDrainingEnd (s : State) : Result := whenRunning s s.drainingEnds

/-! ### Commands, R187, R193, R195 -/

/-- The refusal of REC_ARM, if any. -/
def State.recArmRefused (s : State) : Bool :=
  (match s.drc.state with
    | .armed _ => true
    | .capturing _ => true
    | .draining _ => true
    | _ => false) ||
    s.tables.chain.isEmpty ||
    decide (chainCapacity s.tables.chain < 8 + s.tables.recorder.points.length)

/-- The recorder may be written: not ARMED, CAPTURING or DRAINING (R183, R185). -/
def RecorderState.writable : RecorderState → Bool
  | .idle => true
  | .held _ _ => true
  | _ => false

def State.arm (s : State) : State :=
  s.changing fun s => { s with drc := { s.drc with state := .armed [], missed := 0 } }

/-- REC_DISARM by the recorder's state, with its answer. -/
def State.disarm (s : State) : State × Status :=
  match s.drc.state with
  | .idle => (s, .ok)
  | .armed _ => (s.changing fun s => { s with drc := { s.drc with state := .idle } }, .ok)
  | .capturing r =>
    (s.changing fun s => { s with drc := s.drc.drain s.tables.chain r .aborted }, .ok)
  | .draining _ => (s, .busy)
  | .held _ _ => (s.changing fun s => { s with drc := { s.drc with state := .idle } }, .ok)

/-- Word `w` of the held record of `len` words: 0 beyond its length (R195). -/
def State.recordWord (s : State) (len w : Nat) : Word :=
  if w < len then
    match chainAddr s.tables.chain w with
    | some a => memRead s.drc.mem a
    | none => 0
  else 0

/-- The words READ_RECORD returns. -/
def State.recordWords (s : State) (len offset count : Nat) : List Word :=
  (List.range count).map fun i => s.recordWord len (offset + i)

/-- The recorder at restart, R198: the words placed reach record memory, but in DRAINING not the three final header
words, which were placed last: the header keeps the values placed at entry (log entry 21). -/
def Drc.restart (d : Drc) : Drc :=
  match d.state with
  | .held _ _ => d
  | .draining _ =>
    { ({ d with writeBuf := d.writeBuf.take (d.writeBuf.length - 3) } : Drc).flush with state := .idle }
  | _ => { d.flush with state := .idle }

end Sys2Proof.Machine
end

