-- ==== Sys2Proof/Machine/Rectifier.lean ====
section
/-!
DEFINITION. The rectifier controller (06): states, gate orders, the regulator stage by stage, phase-back,
adoption, with the meanings of CONTROL_TICK and of its timers.
-/

namespace Sys2Proof.Machine
open Sys2Proof

/-! ### States and gate orders, R127 and R129 -/

/-- The 500 ms timers in ticks: the AC timer and the supervision timers. -/
def halfSecond : Nat := 2000

/-- STARTING, REGULATING, PHASE_BACK and STOPPING: the states an overcurrent, a gate fault or a station block
moves to BLOCKED. -/
def Rcu.active (r : Rcu) : Bool :=
  r.state == .starting || r.state == .regulating || r.state == .phaseBack || r.state == .stopping

/-- The content on entry to a state: fields not present for it become absent; the overcurrent run is held at 0
in OFF, BLOCKED and TRIPPED (R134); an entry to REGULATING starts from last α 9000 with the AC low mark clear
(R131, R142, R148). -/
def Rcu.enter (r : Rcu) (st : RectState) (cause : Option Cause) (timer : Option Nat) : Rcu :=
  { r with
    state := st
    cause := cause
    timer := timer
    ocRun := if st = .off ∨ st = .blocked ∨ st = .tripped then 0 else r.ocRun
    lastAlpha := if st = .regulating then 9000 else r.lastAlpha
    acLow := if st = .regulating then false else r.acLow }

/-- The gate order of the present state, R129. -/
def Rcu.gateOrder (r : Rcu) (alphaPb : Nat) : GateOrder :=
  match r.state with
  | .starting => { alpha := 9000, block := true, acClosed := true }
  | .regulating => { alpha := r.lastAlpha, block := false, acClosed := true }
  | .phaseBack => { alpha := alphaPb, block := false, acClosed := true }
  | .off => { alpha := 9000, block := true, acClosed := false }
  | .blocked => { alpha := 9000, block := true, acClosed := false }
  | .stopping => { alpha := 9000, block := true, acClosed := false }
  | .tripped => { alpha := 9000, block := true, acClosed := false }

/-- Hands the gate order of the present state to the ORDER queue; none while adoption is pending or the gate
driver node is none (R129). -/
def State.sendGate (s : State) : State :=
  { s with
    rif :=
      match s.tables.regulator.gateNode with
      | some m =>
        if s.rcu.adoption then s.rif
        else s.rif.putOrder .gate (makeFrame s.rif.node m kindGate
          (gatePayload (s.rcu.gateOrder s.tables.regulator.alphaPb)))
      | none => s.rif }

/-- A change of the rectifier state: summary, RECT_STATE, gate order of entry (R129, R150). -/
def State.rectEnter (s : State) (st : RectState) (cause : Option Cause) (timer : Option Nat) : State :=
  ((s.changing fun s => { s with rcu := s.rcu.enter st cause timer }).post .rectState .station cause
    (some (st.code : Int))).sendGate

/-- BLOCKED with its cause and the 500 ms AC timer. -/
def State.rectBlock (s : State) (cause : Cause) : State :=
  s.rectEnter .blocked (some cause) (some halfSecond)

/-! ### Phase-back, R146 to R148 -/

def pbEmpty (set : Vector Bool 10) : Bool := !set.toList.any id

def pbCount (set : Vector Bool 10) : Nat := set.toList.countP id

/-- REGULATING goes on to PHASE_BACK when the set is not empty (R147). -/
def State.toPhaseBack (s : State) : State :=
  if s.rcu.state = .regulating ∧ pbEmpty s.rcu.pbSet = false then
    s.rectEnter .phaseBack none (some (msTicks s.tables.regulator.tPb))
  else s

/-- Entry to REGULATING. -/
def State.toRegulating (s : State) : State := (s.rectEnter .regulating none none).toPhaseBack

/-- Entry to REGULATING from STARTING or adoption: T is 0 (R131, R152). -/
def State.startRegulating (s : State) : State :=
  { s with rcu := { s.rcu with trim := 0 } }.toRegulating

/-- A phase-back request of feeder f, R146 and R147. -/
def State.phaseBackRequest (s : State) (f : Feeder) : State :=
  { s with rcu := { s.rcu with pbSet := s.rcu.pbSet.set f true } }.toPhaseBack

/-- A withdrawal of feeder f, R146 and R148. -/
def State.phaseBackWithdraw (s : State) (f : Feeder) : State :=
  let t := { s with rcu := { s.rcu with pbSet := s.rcu.pbSet.set f false } }
  if t.rcu.state = .phaseBack ∧ pbEmpty t.rcu.pbSet = true then t.toRegulating else t

/-- T_PB_EXPIRY, R148. -/
def execTPbExpiry (s : State) : Result :=
  whenRunning s <|
    if s.rcu.state = .phaseBack ∧ ranOut s.rcu.timer = true then
      let t := s.post .phaseBackTimeout .station none (some (pbCount s.rcu.pbSet : Int))
      { t with rcu := { t.rcu with pbSet := Vector.replicate 10 false } }.toRegulating
    else s

/-! ### Orders of the station trip logic, R137 -/

/-- The station block. -/
def State.stationBlock (s : State) : State :=
  let t := { s with rcu := { s.rcu with pbSet := Vector.replicate 10 false } }
  if t.rcu.active then t.rectBlock .station else t

/-- RECT_STOP by the state with its answer, R132. -/
def State.rectStop (s : State) : State × Status :=
  match s.rcu.state with
  | .starting => (s.rectEnter .stopping none (some halfSecond), .ok)
  | .regulating => (s.rectEnter .stopping none (some halfSecond), .ok)
  | .phaseBack => (s.rectEnter .stopping none (some halfSecond), .ok)
  | .stopping => (s, .ok)
  | .off => (s, .state)
  | .blocked => (s, .state)
  | .tripped => (s, .state)

/-! ### RECT_START and RECT_RESET, R130 and R136 -/

/-- The node is supervised and its last status satisfies `p`. -/
def Rcu.statusShows (r : Rcu) (p : RectStatus → Bool) : Bool :=
  r.supervised &&
    match r.status with
    | some st => p st
    | none => false

/-- The refusal of RECT_START, R130. -/
def State.rectStartRefusal (s : State) : Option Status :=
  firstFailing
    [(s.rcu.state == .off && !s.rcu.adoption, .state),
      (!s.stl.lockout, .state),
      (!s.mga.unconfigured, .state),
      (s.rcu.statusShows fun st => st.ac == .opened && st.ready && !st.gateFault, .state),
      (curveValid s.tables.curve, .range)]

/-- STARTING, R130. -/
def State.rectStarts (s : State) : State :=
  { s with rcu := { s.rcu with ocRun := 0, acLow := false } }.rectEnter .starting none
    (some (msTicks s.tables.regulator.tAc))

/-- The refusal of RECT_RESET, R136. -/
def State.rectResetRefusal (s : State) : Option Status :=
  firstFailing
    [(s.rcu.state == .tripped, .state),
      (s.rcu.statusShows fun st => st.ac == .opened && !st.gateFault, .state)]

/-! ### Reports and timers -/

/-- A rectifier status report handled by the state; the AC breaker first, then the gate fault (R128, R131 to
R136, R152; log entry 16). -/
def State.rectHandle (s : State) (st : RectStatus) : State :=
  let t :=
    if s.rcu.adoption then
      match st.ac with
      | .closed => { s with rcu := { s.rcu with adoption := false } }.startRegulating
      | .opened => { s with rcu := { s.rcu with adoption := false } }
      | .travel => s
    else
      match s.rcu.state, st.ac with
      | .starting, .closed => s.startRegulating
      | .regulating, .opened => s.rectEnter .tripped (some .acOpened) none
      | .phaseBack, .opened => s.rectEnter .tripped (some .acOpened) none
      | .stopping, .opened => s.rectEnter .off none none
      | .blocked, .opened => s.rectEnter .tripped s.rcu.cause none
      | _, _ => s
  if st.gateFault && t.rcu.active then t.rectBlock .gateFault else t

/-- A report of the gate driver node, R128. -/
def State.rectReport (s : State) (st : RectStatus) : State :=
  { s with rcu := { s.rcu with status := some st, supervised := true,
                               supTimer := some halfSecond } }.rectHandle st

/-- GATE_DRIVER_SUPERVISION_EXPIRY, R128 and R152. -/
def execGateDriverSupervisionExpiry (s : State) : Result :=
  whenRunning s <|
    if ranOut s.rcu.supTimer = true then
      let t := { s with rcu := { s.rcu with status := none, supervised := false, supTimer := none,
                                            adoption := false } }
      if s.rcu.adoption then t.sendGate else t
    else s

/-- T_AC_EXPIRY, R131. -/
def execTAcExpiry (s : State) : Result :=
  whenRunning s <|
    if s.rcu.state = .starting ∧ ranOut s.rcu.timer = true then
      (s.post .startFail .station none (some (s.tables.regulator.tAc : Int))).rectEnter .off none none
    else s

/-- AC_TIMER_EXPIRY, R132 and R136. -/
def execAcTimerExpiry (s : State) : Result :=
  whenRunning s <|
    if (s.rcu.state = .stopping ∨ s.rcu.state = .blocked) ∧ ranOut s.rcu.timer = true then
      s.rectEnter .tripped (some .acBreakerFail) none
    else s

/-! ### Overcurrent, R134 -/

/-- A delivery of RECT_CURRENT. -/
def State.overcurrent (s : State) (v : Int) (disc : Bool) : State :=
  if s.rcu.active then
    let run :=
      if (s.tables.station.iRectTrip : Int) ≤ v then (if disc then 0 else s.rcu.ocRun) + 1 else 0
    if 2 ≤ run then { s with rcu := { s.rcu with ocRun := 0 } }.rectBlock .overcurrent
    else { s with rcu := { s.rcu with ocRun := run } }
  else s

/-- The loss notice of RECT_CURRENT. -/
def State.overcurrentLoss (s : State) : State := { s with rcu := { s.rcu with ocRun := 0 } }

/-! ### The regulator, R139 to R144 -/

/-- Stages 1 and 2. -/
def vReference (r : RegulatorRec) (iRect : Int) : Int :=
  let base := clampInt ((r.vSet : Int) - ((r.droop : Int) * iRect).tdiv 100) 5000 9500
  if iRect > r.iLim then max 0 (base - r.kLim * (iRect - r.iLim)) else base

/-- A trim within the limit of the record. -/
def clampTrim (r : RegulatorRec) (t : Int) : Int := clampInt t (-(r.trimMax : Int)) r.trimMax

/-- Stage 4: the working trim, with the anti-windup. -/
def trimStep (r : RegulatorRec) (trim lastAlpha e : Int) : Int :=
  let st := ((r.ki : Int) * e).tdiv 1024
  let windup := (lastAlpha = r.alphaMin ∧ st > 0) ∨ (lastAlpha = 9000 ∧ st < 0)
  clampTrim r (if windup then trim else trim + st)

/-- Stage 5. -/
def demand (r : RegulatorRec) (vRef trim iRect : Int) : Int :=
  max 0 (vRef + trim + ((r.rC : Int) * iRect).tdiv 100)

/-- Stage 6. -/
def noLoadVoltage (r : RegulatorRec) (vAc : Int) : Int := ((r.kD0 : Int) * vAc).tdiv 10000

/-- Stage 7. -/
def ratio (u vD0 : Int) : Int := min 4096 ((u * 4096).tdiv vD0)

/-- F[j] as an angle; 0 past the table. -/
def curveAt (tab : Vector Nat 65) (j : Nat) : Int := if h : j < 65 then (tab[j] : Int) else 0

/-- Stage 8. -/
def curveAngle (tab : Vector Nat 65) (d : Int) : Int :=
  let j := d.toNat / 64
  let r := d.toNat % 64
  if j < 64 then curveAt tab j - ((curveAt tab j - curveAt tab (j + 1)) * r).tdiv 64 else curveAt tab 64

/-- Stages 9 and 10. -/
def limitAngle (r : RegulatorRec) (lastAlpha raw : Int) : Int :=
  max (clampInt raw r.alphaMin 9000) (lastAlpha - r.ramp)

/-- A tick that stores no computation: T within the limit, last α at least α_min (R139, R142). -/
def Rcu.hold (r : Rcu) (reg : RegulatorRec) : Rcu :=
  { r with trim := clampTrim reg r.trim, lastAlpha := max r.lastAlpha reg.alphaMin }

/-- The working values of stages 1 to 7 from the measured values. -/
def Rcu.working1 (r : Rcu) (reg : RegulatorRec) (vBus iRect vAc : Int) : Working :=
  let vRef := vReference reg iRect
  let e := vRef - vBus
  let u := demand reg vRef (trimStep reg r.trim r.lastAlpha e) iRect
  let vD0 := noLoadVoltage reg vAc
  { vRef := vRef, e := e, u := u, vD0 := vD0, d := ratio u vD0 }

/-- A computation that reaches its end: T, last α and the working values are stored, the AC low mark cleared. -/
def Rcu.regulated (r : Rcu) (reg : RegulatorRec) (tab : Vector Nat 65) (w : Working) : Rcu :=
  { r with trim := trimStep reg r.trim r.lastAlpha w.e
           lastAlpha := limitAngle reg r.lastAlpha (curveAngle tab w.d)
           acLow := false
           working := some w }

/-- The regulator at a control tick in REGULATING. -/
def State.regulate (s : State) : State :=
  let reg := s.tables.regulator
  if s.lost busPoint || s.lost rectPoint || s.lost acPoint then { s with rcu := s.rcu.hold reg }
  else
    let w := s.rcu.working1 reg (s.last busPoint) (s.last rectPoint) (s.last acPoint)
    if w.vD0 < reg.vD0Min then
      let t := { s with rcu := { s.rcu.hold reg with acLow := true } }
      if s.rcu.acLow then t else t.post .acLow .station none (some w.vD0)
    else { s with rcu := s.rcu.regulated reg s.tables.curve w }

/-- The control tick by the rectifier state, R129 and R139. -/
def State.controlTick (s : State) : State :=
  match s.rcu.state with
  | .regulating => s.regulate.sendGate
  | .starting => s.sendGate
  | .phaseBack => s.sendGate
  | .stopping => s.sendGate
  | .blocked => s.sendGate
  | .off => s
  | .tripped => s

/-- CONTROL_TICK: the control tick that is due (log entry 3). -/
def execControlTick (s : State) : Result :=
  whenRunning s <|
    if 8 ≤ s.clock.control then
      { s with clock := { s.clock with control := s.clock.control - 8 } }.controlTick
    else s

end Sys2Proof.Machine
end

