-- ==== Sys2Proof/Machine/Feeder.lean ====
section
/-!
DEFINITION. The feeder controller (03): trips, the reclose decision, dead time, follow, closing, blindness and the
station trip notice, with the meanings of its reports and timers and of THERMAL_PERIOD_END.
-/

namespace Sys2Proof.Machine
open Sys2Proof

/-! ### Opening and closing -/

/-- Feeder f enters SERVICE: the reclaim timer starts (R57, R58, R61). -/
def State.enterService (s : State) (f : Feeder) : State :=
  s.fctEnter f .service (some (tenthTicks s.tables.feeder[f].reclaim))

/-- Entry to SERVICE with FEEDER_CLOSED, R58, R64, R65, R66, R67, R75. -/
def State.closedToService (s : State) (f : Feeder) : State :=
  ((s.enterService f).post .feederClosed (.feeder f) none (some (s.fct[f].attempts : Int))).blindOnEntry f

/-- Feeder f enters TEST_WAIT and joins the test queue (R58, R64, R80). -/
def State.toTestWait (s : State) (f : Feeder) (operator : Bool) (attempts : Nat) : State :=
  (s.fctSet f fun c =>
      { c.enter .testWait none with opClose := operator, attempts := attempts }).enqueue f

/-- A pending feeder leaves its test or its timer, as FEEDER_OPEN does it (R71). -/
def State.withdrawPending (s : State) (f : Feeder) : State :=
  match s.fct[f].state with
  | .testWait => s.ltuWithdraw f
  | .testing => (s.sendOrder f .testOff).ltuWithdraw f
  | _ => s

/-- TEST_WAIT, TESTING, DEAD_TIME and FOLLOW: the feeders with a reclose or close pending. -/
def isPending (st : FeederState) : Bool :=
  st == .testWait || st == .testing || st == .deadTime || st == .follow

/-- UNKNOWN, SERVICE and CLOSING: the states in which every trip is taken (R60). -/
def tripsFreely (st : FeederState) : Bool := st == .unknown || st == .service || st == .closing

/-! ### The reclose decision, R62 -/

/-- The next state of R62. -/
inductive Decision where
  | lockout (cause : Cause)
  | out
  | follow
  | deadTime (attempts : Nat)
  deriving DecidableEq, Repr

/-- The first row of R62's table that fits. -/
def decideReclose (c : Fct) (r : FeederRec) (coupled : Bool) : Decision :=
  if c.ttFail then .lockout .ttFail
  else if c.openingCause = some .station then .lockout .station
  else if c.openingCause = some .blind then .lockout .blind
  else if c.openingCause = some .command ∨ c.opOpen = true then .out
  else if coupled && !r.testEnd then .follow
  else if c.openingCause = some .thermal then
    .deadTime (if c.attempts < r.attempts then c.attempts + 1 else c.attempts)
  else if c.attempts < r.attempts then .deadTime (c.attempts + 1)
  else .lockout .recloseExhausted

/-- The decision taken, for the opening cause the feeder had. -/
def State.takeDecision (s : State) (f : Feeder) (cause : Option Cause) (d : Decision) : State :=
  match d with
  | .lockout why => s.lockOut f why
  | .out => s.fctOut f
  | .follow => s.fctEnter f .follow (some (tenthTicks s.tables.feeder[f].followTimeout))
  | .deadTime n => s.toDeadTime f n cause

/-- The phase-back request of a feeder is withdrawn when it was raised (R62, R63). -/
def State.dropPhaseBack (s : State) (f : Feeder) : State :=
  if s.fct[f].pbRaised then
    (s.modFct f fun c => { c with pbRaised := false }).phaseBackWithdraw f
  else s

/-- The opening completes, R62. -/
def State.openingCompletes (s : State) (f : Feeder) : State :=
  let cause := s.fct[f].openingCause
  (((s.modFct f fun c => { c with timer := none }).dropPhaseBack f).post .feederOpened (.feeder f) cause
    (some (s.fct[f].attempts : Int))).takeDecision f cause
      (decideReclose s.fct[f] s.tables.feeder[f] s.sco.sect[f].coupled)

/-! ### Trips, R59 and R60 -/

/-- The current at trip, R43. -/
def State.tripCurrent (s : State) (f : Feeder) (report : Option OperateReport) : Int :=
  match report with
  | some r => r.current
  | none => s.last (currentPoint f)

/-- Steps 1 to 4 of R59. -/
def State.tripHands (s : State) (f : Feeder) (cause : Cause) (report : Option OperateReport) : State :=
  let t := ((s.sendOrder f (if s.fct[f].state = .testing then .testOff else .opened)).tripNotice f cause
    report).post .feederTrip (.feeder f) (some cause) (some (s.tripCurrent f report))
  if report.isSome then t.trigger cause (.feeder f) else t

/-- Steps 5 and 6 of R59. -/
def State.tripRequests (s : State) (f : Feeder) (report : Option OperateReport) : State :=
  match report with
  | none => s
  | some r =>
    let t :=
      if r.phaseBack then (s.modFct f fun c => { c with pbRaised := true }).phaseBackRequest f else s
    if r.transfer then t.ttRequest f false else t

/-- A taken trip, R59; in LOCKOUT without a change of state (R60). -/
def State.trip (s : State) (f : Feeder) (cause : Cause) (report : Option OperateReport) : State :=
  let c := s.fct[f]
  let t := s.tripHands f cause report
  if c.state = .lockout then t
  else
    let atOnce := c.state == .testing || c.positionIs .opened
    let u := t.tripRequests f report
    let v := (if c.state = .testing then u.ltuWithdraw f else u).toOpening f cause (!atOnce)
    if atOnce then v.openingCompletes f else v

/-- An operate report by the state, R60. -/
def State.takeOperate (s : State) (f : Feeder) (r : OperateReport) : State :=
  let c := s.fct[f]
  if tripsFreely c.state || (c.state == .lockout && c.notOpen) then s.trip f r.cause (some r) else s

/-- A transfer trip by the state, R60. -/
def State.takeTransfer (s : State) (f : Feeder) : State :=
  if tripsFreely s.fct[f].state || s.fct[f].state == .testing then s.trip f .transfer none else s

/-- A station trip notice by the state, R74. -/
def State.stationNotice (s : State) (f : Feeder) : State :=
  let c := s.fct[f]
  if tripsFreely c.state then s.trip f .station none
  else if c.state = .opening then
    (s.modFct f fun c => { c with openingCause := some .station }).tripNotice f .station none
  else if isPending c.state then (s.withdrawPending f).lockOut f .station
  else if c.state = .lockout ∧ c.notOpen = true then s.sendOrder f .opened
  else s

/-- A station trip notice to every in-use feeder in the order of the numbers (R158, R160). -/
def State.stationNotices (s : State) : State :=
  allFeeders.foldl (fun s f => if s.tables.feeder[f].inUse then s.stationNotice f else s) s

/-! ### Dead time and follow, R64 and R67 -/

/-- The dead time has run out and its end waits for the holds (log entry 24). -/
def Fct.awaitsHolds (c : Fct) : Bool := c.state == .deadTime && c.timer.isNone

/-- The holds of DEAD_TIME are examined. -/
def State.examineHolds (s : State) (f : Feeder) : State :=
  if s.fct[f].awaitsHolds && s.closable f && s.thermalClear f then
    if s.lineLive f && s.coupledFarClosed f then s.toClosing f
    else s.toTestWait f false s.fct[f].attempts
  else s

/-- The close condition of FOLLOW is examined. -/
def State.examineFollow (s : State) (f : Feeder) : State :=
  if s.fct[f].state == .follow && s.lineLive f && s.coupledFarClosed f && s.closable f &&
      s.thermalClear f then s.toClosing f
  else s

/-- The section state of feeder f is reported to its controller, R67. -/
def State.fctSection (s : State) (f : Feeder) : State :=
  if s.fct[f].state = .follow ∧ s.sco.sect[f].coupled = false then s.lockOut f .uncoord
  else s.examineFollow f

/-! ### TT_FAIL, blindness -/

/-- A TT_FAIL report, R68. -/
def State.takeTtFail (s : State) (f : Feeder) : State :=
  let c := s.fct[f]
  if c.state = .opening then s.modFct f fun c => { c with ttFail := true }
  else if isPending c.state then (s.withdrawPending f).lockOut f .ttFail
  else s

/-- The loss notice of FEEDER_CURRENT(f) at the controller, R73. -/
def State.fctLoss (s : State) (f : Feeder) : State :=
  let c := s.fct[f]
  if !s.tables.feeder[f].blindOpen then s
  else if c.state = .service ∨ c.state = .closing then s.openWithoutTrip f .blind
  else if isPending c.state then (s.withdrawPending f).lockOut f .blind
  else s

/-! ### Breaker status, R52, R57 to R67 -/

/-- The position of a report handled by the state. -/
def State.fctPosition (s : State) (f : Feeder) (p : Position) : State :=
  match s.fct[f].state, p with
  | .unknown, .closed =>
    ((s.modFct f fun c => { c with attempts := 0 }).enterService f).blindOnEntry f
  | .unknown, .opened => s.fctEnter f .out none
  | .out, .closed => (s.modFct f fun c => { c with attempts := 0 }).closedToService f
  | .testWait, .closed => (s.withdrawPending f).closedToService f
  | .testing, .closed => (s.withdrawPending f).closedToService f
  | .closing, .closed => s.closedToService f
  | .service, .opened => (s.fctOut f).post .feederOpened (.feeder f) none none
  | .opening, .opened => s.openingCompletes f
  | .deadTime, .closed => s.closedToService f
  | .deadTime, _ => s.examineHolds f
  | .follow, .closed => s.closedToService f
  | .follow, _ => s.examineFollow f
  | _, _ => s

/-- A breaker status report taken by the controller, R52 and R53. -/
def State.fctReport (s : State) (f : Feeder) (st : BreakerStatus) : State :=
  (s.modFct f fun c =>
    { c with status := some st, supervised := true, supTimer := some halfSecond }).fctPosition f
      st.position

/-- A breaker status report of feeder f: the controller, the line test unit's contactor field, then the head
(R52, R81; log entry 15). -/
def State.breakerReport (s : State) (f : Feeder) (st : BreakerStatus) : State :=
  ((s.fctReport f st).ltuContactor s.ltu.slot f st.contactor).examineFor f

/-! ### Reports taken -/

/-- The report comes from the named event of the protection unit (R40). -/
def OperateReport.from (r : OperateReport) (source : ReportSource) : Bool :=
  match source with
  | .periodEnd => r.cause == .thermal
  | .delivery => r.cause != .thermal

/-- OPERATE_REPORT: the oldest report waiting from that event is taken (log entry 4). -/
def execOperateReport (f : Feeder) (source : ReportSource) (s : State) : Result :=
  whenRunning s <|
    match s.fct[f].operateIn.find? fun r => r.from source with
    | some r => (s.modFct f fun c => { c with operateIn := c.operateIn.erase r }).takeOperate f r
    | none => s

/-- TEST_OUTCOME: the oldest outcome waiting is taken. -/
def execTestOutcome (f : Feeder) (s : State) : Result :=
  whenRunning s <|
    match s.fct[f].outcomeIn with
    | o :: rest => (s.modFct f fun c => { c with outcomeIn := rest }).outcomeTaken f o
    | [] => s

/-- TT_FAIL_REPORT. -/
def execTtFailReport (f : Feeder) (s : State) : Result :=
  whenRunning s <|
    if 0 < s.fct[f].ttFailIn then
      (s.modFct f fun c => { c with ttFailIn := c.ttFailIn - 1 }).takeTtFail f
    else s

/-! ### Timers -/

/-- BREAKER_SUPERVISION_EXPIRY, R53; a feeder in test is withdrawn with INCONCLUSIVE, which its controller takes in the
same event (R93, log entry 26). The new head is examined after that taking. DESIGN CHOICE: log entry 18. -/
def execBreakerSupervisionExpiry (f : Feeder) (s : State) : Result :=
  whenRunning s <|
    if ranOut s.fct[f].supTimer = true then
      let t := s.modFct f fun c => { c with status := none, supervised := false, supTimer := none }
      if inTest s.fct[f].state then
        ((t.ltuUnsupervised f).takeOutcome f inconclusive).examineAfter s f
      else t
    else s

/-- The controller's timer has run out in state `st`. -/
def Fct.expired (c : Fct) (st : FeederState) : Bool := c.state == st && ranOut c.timer

/-- T_OPEN_EXPIRY, R63. -/
def execTOpenExpiry (f : Feeder) (s : State) : Result :=
  whenRunning s <|
    if s.fct[f].expired .opening then
      let t := ((((s.dropPhaseBack f).tripNotice f .breakerFail none).post .breakerFail (.feeder f)
        s.fct[f].openingCause (some (s.tables.feeder[f].tOpen : Int))).lockOut f .breakerFail)
      { t with stl := { t.stl with failNotices := t.stl.failNotices ++ [f] } }
    else s

/-- T_CLOSE_EXPIRY, R66. -/
def execTCloseExpiry (f : Feeder) (s : State) : Result :=
  whenRunning s <|
    if s.fct[f].expired .closing then
      ((s.sendOrder f .opened).post .closeFail (.feeder f) none
        (some (s.tables.feeder[f].tClose : Int))).lockOut f .closeFail
    else s

/-- DEAD_TIME_EXPIRY, R64: the timer has run out, and the holds are examined. -/
def execDeadTimeExpiry (f : Feeder) (s : State) : Result :=
  whenRunning s <|
    if s.fct[f].expired .deadTime then
      (s.modFct f fun c => { c with timer := none }).examineHolds f
    else s

/-- RECLAIM_EXPIRY, R61. -/
def execReclaimExpiry (f : Feeder) (s : State) : Result :=
  whenRunning s <|
    if s.fct[f].expired .service then s.modFct f fun c => { c with attempts := 0, timer := none } else s

/-- FOLLOW_TIMEOUT, R67. -/
def execFollowTimeout (f : Feeder) (s : State) : Result :=
  whenRunning s <| if s.fct[f].expired .follow then s.lockOut f .followTimeout else s

/-! ### The thermal period end -/

/-- The protection units at a period end, then the controllers' conditions on θ (R36 to R38, R64, R67). -/
def State.thermalPeriodEnd (s : State) : State :=
  let t := allFeeders.foldl State.fpuPeriodEnd s
  allFeeders.foldl (fun s f => (s.examineHolds f).examineFollow f) t

/-- THERMAL_PERIOD_END: the period end that is due (log entry 3). -/
def execThermalPeriodEnd (s : State) : Result :=
  whenRunning s <|
    if 400 ≤ s.clock.thermal then
      { s with clock := { s.clock with thermal := s.clock.thermal - 400 } }.thermalPeriodEnd
    else s

/-! ### Commands, R70 to R72 -/

/-- The refusal of FEEDER_CLOSE, R70. -/
def State.feederCloseRefusal (s : State) (f : Feeder) : Option Status :=
  firstFailing
    [(s.tables.feeder[f].inUse, .state),
      (!s.stl.lockout, .state),
      (!s.mga.unconfigured, .state),
      (s.fct[f].state == .out, .state),
      (!s.blind f, .blind),
      (s.fct[f].breakerReady, .state)]

/-- FEEDER_OPEN by the state, R71. -/
def State.feederOpens (s : State) (f : Feeder) : State :=
  let c := s.fct[f]
  match c.state with
  | .unknown => s.openWithoutTrip f .command
  | .service => s.openWithoutTrip f .command
  | .closing => s.openWithoutTrip f .command
  | .testWait => (s.withdrawPending f).fctOut f
  | .testing => (s.withdrawPending f).fctOut f
  | .deadTime => (s.withdrawPending f).fctOut f
  | .follow => (s.withdrawPending f).fctOut f
  | .opening => s.modFct f fun c => { c with opOpen := true }
  | .out => s
  | .lockout => if c.notOpen then s.sendOrder f .opened else s

/-- The refusal of FEEDER_RESET, R72. -/
def State.feederResetRefusal (s : State) (f : Feeder) : Option Status :=
  firstFailing
    [(s.tables.feeder[f].inUse, .state),
      (s.fct[f].state == .lockout, .state),
      (!s.stl.lockout, .state),
      (s.fct[f].positionIs .opened, .state)]

/-- The controller when in use of feeder f changes, R51 (log entry 27). -/
def Fct.useChanged (c : Fct) (inUse : Bool) : Fct :=
  if inUse then { Fct.reset with state := .unknown, supTimer := some halfSecond }
  else { Fct.reset with status := c.status, supervised := c.supervised }

end Sys2Proof.Machine
end

