-- ==== Sys2Proof/Machine/Coordination.lean ====
section
/-!
DEFINITION. The section coordinator (05) as it acts on other blocks: accepted frames, a slot going DOWN, the
clearing of a handshake, settings writes, frames sent, with the meanings of LINK_TIMER_EXPIRY, T_TT_EXPIRY and
NEIGHBOUR_FRAME_PERIOD.
-/

namespace Sys2Proof.Machine
open Sys2Proof

/-! ### Feeders of a slot -/

/-- Feeder f holds a section on slot n. -/
def State.onSlot (s : State) (n : Slot) (f : Feeder) : Bool :=
  coordinated s.tables.feeder[f] && slotOf s.tables.feeder[f] == n

/-- Every feeder of slot n in the order of the numbers. -/
def State.eachOnSlot (s : State) (n : Slot) (g : State → Feeder → State) : State :=
  (allFeeders.filter (s.onSlot n)).foldl g s

/-! ### Clearing and reporting -/

/-- The handshake state of a section is cleared, R119. The controller takes the TT_FAIL report in the same
event (log entry 5). -/
def State.clearHandshake (s : State) (f : Feeder) (cause : Cause) : State :=
  let h := s.sco.sect[f].hs
  let t :=
    if h.inFlight && !h.failed then (s.postSection f .ttFail (some cause)).takeTtFail f else s
  t.modHs f fun _ => Handshake.reset

/-- A changed section state is reported to the controller, then to the line test unit (R110). -/
def State.reportSection (s before : State) (f : Feeder) : State :=
  if before.sectionView f ≠ s.sectionView f then (s.fctSection f).ltuSection f else s

/-- T_TT_EXPIRY, R115 (log entry 5). -/
def execTTtExpiry (f : Feeder) (s : State) : Result :=
  whenRunning s <|
    if ranOut s.sco.sect[f].hs.timer && s.sco.sect[f].hs.inFlight then
      ((s.modHs f fun h => { h with failed := true, timer := none }).postSection f .ttFail
        (some .timeout)).takeTtFail f
    else s

/-! ### A slot going DOWN, R104 -/

def State.setFar (s : State) (f : Feeder) (e : Option SectionEntry) : State :=
  s.modSect f fun x => { x with far := e }

/-- Slot n goes DOWN with LINK_DOWN of cause TIMEOUT or SETTINGS; after a write its last frame becomes absent. -/
def State.linkDown (s : State) (n : Slot) (cause : Cause) : State :=
  let id := s.tables.neighbour[n].stationId
  let s1 := s.changing fun s => s.modLink n fun x =>
    { up := false, timer := none, last := if cause = .settings then none else x.last }
  let s2 := s1.eachOnSlot n fun s f => s.clearHandshake f .link
  let s3 := s2.eachOnSlot n fun s f => s.setFar f none
  let s4 := s3.eachOnSlot n State.reevaluate
  let s5 := s4.eachOnSlot n fun t f => t.reportSection s f
  s5.post .linkDown (.slot n) (some cause) (some (id : Int))

/-- LINK_TIMER_EXPIRY, R104. -/
def execLinkTimerExpiry (n : Slot) (s : State) : Result :=
  whenRunning s <|
    if s.sco.link[n].up && ranOut s.sco.link[n].timer then s.linkDown n .timeout else s

/-! ### Frames received, R102, R103, R110 -/

/-- The entry that counts for section number `secNo`: the first among the first ten (R103). -/
def farEntry (fr : NeighbourFrame) (secNo : Nat) : Option SectionEntry :=
  (fr.entries.take 10).find? fun e => e.secNo == secNo

/-- The far TT_REQ of an accepted frame, R116 and R117. Seen far REQ becomes set on an uncoupled section too. DEDUCED:
log entry 35. -/
def State.takeFarReq (s : State) (f : Feeder) (req : Bool) : State :=
  let x := s.sco.sect[f]
  if req then
    if x.hs.seenReq then s
    else if x.coupled then
      ((((s.modHs f fun h => { h with seenReq := true, ttAck := true }).postSection f .ttReceived
        none).takeTransfer f).trigger .transfer (.feeder f))
    else s.modHs f fun h => { h with seenReq := true }
  else s.modHs f fun h => { h with seenReq := false, ttAck := false }

/-- Step 4 of R110 for one section: a report newly present is standing (R118), any other advances the handshake. -/
def State.advance (s before : State) (f : Feeder) : State :=
  match s.sco.sect[f].far with
  | none => s
  | some e =>
    if before.sco.sect[f].far.isNone then s.takeStanding f e
    else (s.takeFarAck f e.ttAck).takeFarReq f e.ttReq

/-- The link state and timer at an accepted frame, R102. -/
def State.linkAccept (s : State) (n : Slot) : State :=
  let t := s.changing fun s => s.modLink n fun x =>
    { x with up := true, timer := some (msTicks s.tables.neighbour[n].tLink) }
  if s.sco.link[n].up then t
  else t.post .linkUp (.slot n) none (some (s.tables.neighbour[n].stationId : Int))

/-- The handshake of a section that is no longer listed is cleared (R110, step 2). -/
def State.clearUnlisted (s before : State) (f : Feeder) : State :=
  if before.sco.sect[f].far.isSome && s.sco.sect[f].far.isNone then s.clearHandshake f .removed else s

/-- An accepted frame for slot n, R110. -/
def State.acceptFrame (s : State) (n : Slot) (fr : NeighbourFrame) : State :=
  let s1 := s.linkAccept n
  let s2 := (s1.modLink n fun x => { x with last := some fr }).eachOnSlot n fun s f =>
    s.setFar f (farEntry fr s.tables.feeder[f].secNo)
  let s3 := s2.eachOnSlot n fun t f => t.clearUnlisted s f
  let s4 := s3.eachOnSlot n State.reevaluate
  let s5 := s4.eachOnSlot n fun t f => t.advance s f
  s5.eachOnSlot n fun t f => t.reportSection s f

/-- The used slot of a link node and channel, R102. -/
def State.slotFor (s : State) (src channel : Nat) : Option Slot :=
  allSlots.find? fun n =>
    neighbourUsed s.tables.neighbour[n] && s.tables.neighbour[n].linkNode == some src &&
      s.tables.neighbour[n].channel == channel

/-- A LINK_IN frame, R102: ignored unless it matches a used slot and carries its station id. -/
def State.linkIn (s : State) (src : Nat) (payload : List Byte) : State :=
  match s.slotFor src (byteAt payload 0) with
  | none => s
  | some n =>
    if u16At payload 1 = s.tables.neighbour[n].stationId then
      s.acceptFrame n (neighbourFrameOf payload s.evr.ms)
    else s

/-! ### Frames sent, R100 and R101 -/

/-- The section entry of feeder f, R101. -/
def State.sectionEntry (s : State) (f : Feeder) : SectionEntry :=
  let r := s.tables.feeder[f]
  { secNo := r.secNo, closed := s.fct[f].state == .service, coupled := r.localCoupled,
    testEnd := r.testEnd, ttReq := s.sco.sect[f].hs.ttReq, ttAck := s.sco.sect[f].hs.ttAck,
    lineLive := s.lineLive f, testActive := s.fct[f].state == .testing }

/-- The neighbour frame of slot n, R100. -/
def State.linkFrame (s : State) (n : Slot) : Frame :=
  let r := s.tables.neighbour[n]
  makeFrame s.rif.node (r.linkNode.getD 0) kindLinkOut
    (linkPayload r.channel s.tables.station.ownId s.rcu.running s.busLive
      ((allFeeders.filter (s.onSlot n)).map s.sectionEntry))

/-- A frame for slot n is handed to the LINK queue when the slot is used. -/
def State.sendLink (s : State) (n : Slot) : State :=
  if neighbourUsed s.tables.neighbour[n] then { s with rif := s.rif.putLink n (s.linkFrame n) } else s

/-- NEIGHBOUR_FRAME_PERIOD: the sending period that is due (log entry 3). The frames of the used slots are handed in
the order of the slot numbers. DESIGN CHOICE: log entry 33. -/
def execNeighbourFramePeriod (s : State) : Result :=
  whenRunning s <|
    if 40 ≤ s.clock.link then
      allSlots.foldl State.sendLink { s with clock := { s.clock with link := s.clock.link - 40 } }
    else s

/-! ### Settings writes, R51, R99, R106 -/

/-- The record of slot n replaced, after the reset of R99 when an identity field of the slot changes. -/
def State.writeNeighbour (s : State) (n : Slot) (r : NeighbourRec) : State :=
  let old := s.tables.neighbour[n]
  let t :=
    if old.stationId = r.stationId ∧ old.linkNode = r.linkNode ∧ old.channel = r.channel then s
    else if s.sco.link[n].up then s.linkDown n .settings
    else
      (s.eachOnSlot n fun s f => s.clearHandshake f .removed).modLink n fun x =>
        { x with last := none }
  { t with tables := { t.tables with neighbour := t.tables.neighbour.set n r } }

/-- The far-end report of feeder f from the last frame of its slot while the slot is UP (R106). -/
def State.freshReport (s : State) (f : Feeder) : Option SectionEntry :=
  let r := s.tables.feeder[f]
  let l := s.sco.link[slotOf r]
  if coordinated r && l.up then l.last.bind fun fr => farEntry fr r.secNo else none

/-- The record of feeder f stored; attempts N below the counter reduces it (R50), and a change of in use moves
the controller and the protection unit (R22, R51). -/
def State.storeFeeder (s : State) (f : Feeder) (r : FeederRec) : State :=
  s.changing fun s =>
    let t := { s with tables := { s.tables with feeder := s.tables.feeder.set f r } }
    if s.tables.feeder[f].inUse = r.inUse then
      t.modFct f fun c => { c with attempts := min c.attempts r.attempts }
    else (t.modFct f fun c => c.useChanged r.inUse).modFpu f Fpu.useChanged

/-- The record of feeder f replaced with its effects on every block, R50, R51, R106. The handshake is cleared
before the record is stored, so TT_FAIL of the write carries the old section number, and BANK_CHANGE the new one. DESIGN
CHOICE: log entry 34. -/
def State.writeFeeder (s : State) (f : Feeder) (r : FeederRec) : State :=
  let old := s.tables.feeder[f]
  let moved := old.secNo != r.secNo || old.slot != r.slot || old.inUse != r.inUse
  let s1 := if moved then s.clearHandshake f .removed else s
  let s2 := s1.storeFeeder f r
  let s3 := if moved then s2.setFar f (s2.freshReport f) else s2
  let s4 :=
    if moved || old.testEnd != r.testEnd || old.localCoupled != r.localCoupled then s3.reevaluate f
    else s3
  let s5 :=
    match moved, s4.sco.sect[f].far with
    | true, some e => s4.takeStanding f e
    | _, _ => s4
  s5.reportSection s f

end Sys2Proof.Machine
end

