-- ==== Sys2Proof/Machine/Station.lean ====
section
/-!
DEFINITION. The station trip logic (07): the leakage element, station trips, EMERGENCY_OPEN's effect and the
station lockout, with the meaning of BREAKER_FAIL_NOTICE.
-/

namespace Sys2Proof.Machine
open Sys2Proof

/-! ### Station trips, R158 to R160 -/

def State.setLockout (s : State) (b : Bool) : State :=
  s.changing fun s => { s with stl := { s.stl with lockout := b } }

/-- Transfer-trip requests of source STATION for every in-use feeder with a section (R158, step 4). -/
def State.stationRequests (s : State) : State :=
  allFeeders.foldl (fun s f => if coordinated s.tables.feeder[f] then s.ttRequest f true else s) s

/-- STATION_TRIP is posted and the recorder triggered (R158, R160, R163). -/
def State.stationReport (s : State) (cause : Cause) (value : Option Int) : State :=
  (s.post .stationTrip .station (some cause) value).trigger cause .station

/-- A station trip, R158. -/
def State.stationTrip (s : State) (cause : Cause) (value : Int) : State :=
  ((((s.setLockout true).stationBlock).stationNotices).stationRequests).stationReport cause (some value)

/-- EMERGENCY_OPEN, R160. -/
def State.emergency (s : State) : State :=
  (s.rectStop.1.stationNotices).stationReport .emergency none

/-- BREAKER_FAIL_NOTICE for feeder f, R157. -/
def execBreakerFailNotice (f : Feeder) (s : State) : Result :=
  whenRunning s <|
    if s.stl.failNotices.contains f then
      { s with stl := { s.stl with failNotices := s.stl.failNotices.erase f } }.stationTrip .breakerFail
        (f.val : Int)
    else s

/-! ### The leakage element, R155 and R156 -/

/-- The element after a delivery, and whether it operates. -/
def leakageStep (l : Leakage) (high : Bool) (k tLeak : Nat) : Leakage × Bool :=
  match l, high with
  | .normal, true => if tLeak ≤ k then (.operated, true) else (.pickup k, false)
  | .normal, false => (.normal, false)
  | .pickup run, true =>
    if tLeak ≤ min 400 (run + k) then (.operated, true) else (.pickup (min 400 (run + k)), false)
  | .pickup _, false => (.normal, false)
  | .operated, true => (.operated, false)
  | .operated, false => (.normal, false)

/-- A delivery of LEAKAGE_CURRENT; a delivery with the discontinuity mark counts with k = 1. -/
def State.leakDeliver (s : State) (v : Int) (k : Nat) (disc : Bool) : State :=
  let r := leakageStep s.stl.leakage (decide (s.tables.station.iLeak ≤ v.natAbs)) (if disc then 1 else k)
    s.tables.station.tLeak
  let t := { s with stl := { s.stl with leakage := r.1 } }
  if r.2 then t.stationTrip .leakage v else t

/-- PICKUP returns to NORMAL (R156, R165). -/
def Leakage.dropPickup : Leakage → Leakage
  | .pickup _ => .normal
  | .normal => .normal
  | .operated => .operated

/-- The loss notice of LEAKAGE_CURRENT. -/
def State.leakLoss (s : State) : State :=
  { s with stl := { s.stl with leakage := s.stl.leakage.dropPickup } }

/-! ### STATION_RESET, R162 -/

/-- The refusal of STATION_RESET. -/
def State.stationResetRefusal (s : State) : Option Status :=
  firstFailing [(s.stl.lockout, .state), (s.stl.leakage != .operated, .state)]

end Sys2Proof.Machine
end

