-- ==== Sys2Proof/Machine/Streams.lean ====
section
/-!
DEFINITION. The stream mapper (01): the stream map, conversion, freshness, deliveries and losses, with the meaning
of POINT_LOSS.
-/

namespace Sys2Proof.Machine
open Sys2Proof

/-! ### The stream map, R5 to R7 -/

/-- What the map gives a sample: its point and its scaling. -/
structure Feed where
  point : Nat
  gain : Nat
  shift : Nat
  offset : Int
  deriving DecidableEq, Repr

def pointEntryFor (t : Tables) (key : Key) : Option MapPoint :=
  (t.mapPoint.toList.filterMap id).find? fun e => e.node == key.1 && e.channel == key.2

def rangeEntryFor (t : Tables) (key : Key) : Option MapRange :=
  (t.mapRange.toList.filterMap id).find? fun e =>
    e.channel == key.2 && decide (e.base ≤ key.1) && decide (key.1 < e.base + e.size)

/-- The lookup of a key: point entries first, then range entries (R7). -/
def lookup (t : Tables) (key : Key) : Option Feed :=
  match pointEntryFor t key with
  | some e => some { point := e.point, gain := e.gain, shift := e.shift, offset := e.offset }
  | none =>
    match rangeEntryFor t key with
    | some e =>
      some { point := e.first + (key.1 - e.base), gain := e.gain, shift := e.shift, offset := e.offset }
    | none => none

/-- The keys that an entry of the map gives to point p. -/
def keysOf (t : Tables) (p : Nat) : List Key :=
  (((t.mapPoint.toList.filterMap id).flatMap mapPointFeeds ++
    (t.mapRange.toList.filterMap id).flatMap mapRangeFeeds).filter fun x => x.1 == p).map Prod.snd

/-- The key that feeds point p under R7, with the scaling applied; none when no entry feeds it (R9, R19). -/
def feedOf (t : Tables) (p : Nat) : Option (Key × Feed) :=
  (keysOf t p).findSome? fun key =>
    match lookup t key with
    | some x => if x.point = p then some (key, x) else none
    | none => none

/-- A map write: the points whose feed changes lose their reference sequence (R9). -/
def State.writeMap (s : State) (t : Tables) : State :=
  { s with
    tables := t
    smp := { s.smp with
      points := ⟨((s.smp.points.toList.zipIdx.map fun x =>
        if feedOf s.tables x.2 = feedOf t x.2 then x.1 else { x.1 with ref := none }).toArray),
        by simp⟩ } }

/-! ### Conversion, R10 and R11 -/

/-- R10: the quotient rounded toward minus infinity, then saturated to the limit of the point's group. -/
def convert (x : Feed) (raw : Int) : Int :=
  let h : Int := if x.shift = 0 then 0 else 2 ^ (x.shift - 1)
  clampInt ((((raw - x.offset) * x.gain + h) / (2 ^ x.shift : Int))) (-pointLimit x.point)
    (pointLimit x.point)

/-- The value of a sample by its quality; none for INVALID (R11). -/
def sampleValue (x : Feed) (raw : Int) (q : Quality) : Option Int :=
  match q with
  | .good => some (convert x raw)
  | .overrange => some (if x.offset ≤ raw then pointLimit x.point else -pointLimit x.point)
  | .invalid => none

/-! ### Freshness, R12 -/

/-- The signed difference of two sample sequence numbers (00_scope.md 7.4). -/
def seqDiff (a b : Nat) : Int :=
  let d := ((a : Int) - b) % 65536
  if d < 32768 then d else d - 65536

/-- How a sample stands to its point. -/
inductive Judged where
  | marked
  | interval (k : Nat)
  | stale
  deriving DecidableEq, Repr

def judge (p : PointRec) (seq : Nat) : Judged :=
  match (if p.sighted then p.ref else none) with
  | none => .marked
  | some ref =>
    let d := seqDiff seq ref
    if d ≤ 0 then .stale else if d ≤ 4 then .interval d.toNat else .marked

/-! ### Deliveries, R3 and R13 -/

/-- The delivery record handed to the consumers of a point. -/
def State.deliver (s : State) (p : Point) (v : Int) (k : Nat) (disc : Bool) : State :=
  match pointRole p with
  | .feederCurrent f => (s.fpuDeliver f v k disc).examineHolds f
  | .lineVoltage f => (s.examineFollow f).ltuLine f v
  | .bus => s.examineHead
  | .rectCurrent => s.overcurrent v disc
  | .acVoltage => s
  | .leakage => s.leakDeliver v k disc

/-- An accepted sample: the freshness record, SIGHTED, then the delivery (R13, R15; log entry 18). -/
def State.accept (s : State) (p : Point) (seq : Nat) (v : Int) (k : Nat) (disc : Bool) : State :=
  let t := s.changing fun s => s.modPoint p fun _ =>
    { sighted := true, ref := some seq, last := v, age := 0, lossDue := false }
  let u :=
    if s.lost p && s.pointInUse p then t.post .sighted (pointSubject p) none (some (p.val : Int)) else t
  u.deliver p v k disc

/-- An unmapped sample, R7. -/
def Smp.noteUnmapped (m : Smp) (key : Key) : Smp :=
  { m with unmappedKey := some (m.unmappedKey.getD key), unmapped := satInc 65535 m.unmapped }

/-- One sample of a frame, R4. -/
def State.takeSample (s : State) (key : Key) (seq : Nat) (raw : Int) (q : Quality) : State :=
  match lookup s.tables key with
  | none => { s with smp := s.smp.noteUnmapped key }
  | some x =>
    match sampleValue x raw q with
    | none => { s with smp := { s.smp with invalid := satInc 65535 s.smp.invalid } }
    | some v =>
      if h : x.point < 24 then
        match judge s.smp.points[x.point] seq with
        | .stale => { s with smp := { s.smp with stale := satInc 65535 s.smp.stale } }
        | .interval k => s.accept ⟨x.point, h⟩ seq v k false
        | .marked => s.accept ⟨x.point, h⟩ seq v 1 true
      else s

/-- The entries of a frame in channel order, R4. -/
def State.takeEntries (s : State) (src seq : Nat) : Nat → List (Int × Quality) → State
  | _, [] => s
  | ch, (raw, q) :: rest => (s.takeSample (src, ch) seq raw q).takeEntries src seq (ch + 1) rest

/-- A SAMPLE frame reaches the mapper, R4. -/
def State.sampleIn (s : State) (src : Nat) (payload : List Byte) : State :=
  s.takeEntries src (u16At payload 0) 0 (sampleChannels payload)

/-! ### Loss, R14 -/

/-- The loss notice handed to the consumers of a point, R3. -/
def State.lossNotice (s : State) (p : Point) : State :=
  match pointRole p with
  | .feederCurrent f => (s.fpuLoss f).fctLoss f
  | .lineVoltage f => s.ltuLoss (· == f)
  | .bus => s.ltuLoss fun _ => true
  | .rectCurrent => s.overcurrentLoss
  | .acVoltage => s
  | .leakage => s.leakLoss

/-- A SIGHTED point becomes LOST. -/
def State.losePoint (s : State) (p : Point) : State :=
  let t := (s.changing fun s => s.modPoint p fun x =>
    { x with sighted := false, ref := none, age := 0, lossDue := false }).lossNotice p
  if s.pointInUse p then t.post .blind (pointSubject p) none (some (p.val : Int)) else t

/-- POINT_LOSS: the loss that a tick has found due (log entry 19). -/
def execPointLoss (p : Point) (s : State) : Result :=
  whenRunning s <|
    if s.smp.points[p].sighted && s.smp.points[p].lossDue then s.losePoint p else s

/-- The freshness record at a tick, R14 and R16. -/
def PointRec.tick (p : PointRec) (lossTime : Nat) : PointRec :=
  if p.sighted then
    let age := min 200 (p.age + 1)
    { p with age := age, lossDue := p.lossDue || decide (lossTime ≤ age) }
  else p

end Sys2Proof.Machine
end

