-- ==== Sys2Proof/Machine/Answers.lean ====
section
/-!
DEFINITION. The data of every answer the management agent gives to a read: settings records (R221), the status
objects of R220 (the content of their fields; their widths are Config.statusValue, log entry 9), the summary, the
events and the record words (R212).
-/

namespace Sys2Proof.Machine
open Sys2Proof

/-! ### Status fields, R221 -/

/-- One field of a status answer: always present, absent where its rule says so, or a group of fields that are
absent together, each part of which may be absent by itself (log entry 9). -/
inductive StatusField where
  | plain (content : List Int)
  | maybe (content : Option (List Int))
  | group (parts : Option (List (Option (List Int))))
  deriving DecidableEq, Repr

/-- A field with its presence byte: 0 and no more for an absent one, 1 and the value for a present one (R221). -/
def presence (value : List Int → List Byte) (content : Option (List Int)) : List Byte :=
  match content with
  | none => [0]
  | some c => 1 :: value c

/-- The bytes of field `place` of status object `obj`. A group that is present has a presence byte of its own before
those of its parts, and part i of it has i before its content (log entry 9). -/
def fieldBytes (obj place : Nat) (x : StatusField) : List Byte :=
  match x with
  | .plain c => presence (Config.statusValue obj place) (some c)
  | .maybe c => presence (Config.statusValue obj place) c
  | .group none => [0]
  | .group (some parts) =>
    1 :: parts.zipIdx.flatMap fun y =>
      presence (fun c => Config.statusValue obj place ((y.2 : Int) :: c)) y.1

def statusBytes (obj : Nat) (fields : List StatusField) : List Byte :=
  fields.zipIdx.flatMap fun x => fieldBytes obj x.2 x.1

/-! ### Numbers of named values -/

def bit (b : Bool) : Int := if b then 1 else 0

/-- Position codes of R212. -/
def Position.code : Position → Int
  | .opened => 0 | .closed => 1 | .travel => 2

def Bank.code : Bank → Int
  | .a => 0 | .b => 1

/-- A part of a group that holds one number, present or not. -/
def optPart (x : Option Int) : Option (List Int) := x.map fun v => [v]

/-- A part of a group that is always present with it. -/
def part (x : Int) : Option (List Int) := some [x]

def causeNum (x : Cause) : Int := x.code

/-- A present field holding one number. -/
def oneNum (x : Option Int) : StatusField := .maybe (x.map fun v => [v])

/-- Remaining time of a timer in milliseconds, truncated (R95, R123, R124, R151). -/
def msField (t : Option Nat) : StatusField := oneNum (t.map fun n => (ticksToMs n : Int))

/-! ### The status objects -/

/-- Mapper status, R18. -/
def State.mapperStatus (s : State) : List StatusField :=
  [.maybe (s.smp.unmappedKey.map fun k => [(k.1 : Int), (k.2 : Int)]), .plain [s.smp.unmapped],
    .plain [s.smp.stale], .plain [s.smp.invalid]]

/-- Point status, R19. -/
def State.pointStatus (s : State) (p : Point) : List StatusField :=
  let x := s.smp.points[p]
  [.plain [bit x.sighted], .plain [x.last], oneNum (x.ref.map Int.ofNat),
    .maybe ((feedOf s.tables p.val).map fun y => [(y.1.1 : Int), (y.1.2 : Int)])]

/-- The fields of a trip context record, R43. -/
def contextParts (c : TripContext) : List (Option (List Int)) :=
  [part (causeNum c.cause), part c.time, part c.bank.code, part c.current, optPart c.delta,
    optPart (c.t.map Int.ofNat), optPart (c.theta.map Int.ofNat), optPart (c.secNo.map Int.ofNat),
    part c.further]

/-- What a running DDL element has latched, R30. -/
def ddlParts (x : DdlRun) : List (Option (List Int)) := [part x.bank.code, part x.base, part x.t, part x.low]

/-- Protection status, R46. The four values that are absent together when DDL is QUIET are one group, and the two marks
two fields. DESIGN CHOICE: log entry 9. -/
def State.protectionStatus (s : State) (f : Feeder) : List StatusField :=
  let p := s.fpu[f]
  [.plain [bit s.tables.feeder[f].inUse], .plain [bit (s.blind f)], .plain [s.sco.sect[f].bank.code],
    .plain [p.imaxRun], .plain [bit p.ddl.run.isSome], oneNum p.ddl.iPrev,
    .group (p.ddl.run.map ddlParts), .plain [p.theta], .plain [bit p.alarmMark], .plain [bit p.tripMark],
    .group (p.context.map contextParts)]

/-- Which timer of the controller runs in a state, in the order of R56: T_close, T_open, dead time, reclaim, follow
timeout. -/
def timerName (st : FeederState) : Int :=
  match st with
  | .closing => 0
  | .opening => 1
  | .deadTime => 2
  | .service => 3
  | .follow => 4
  | _ => 5

/-- The running timer: which it is, and its remaining time in the unit of its setting, truncated (R76). -/
def Fct.timerShown (c : Fct) : Option (List Int) :=
  c.timer.map fun n =>
    [timerName c.state,
      if c.state = .closing ∨ c.state = .opening then ((n / 4 : Nat) : Int) else ((n / 400 : Nat) : Int)]

/-- A mark shown only where it is present. -/
def markField (present mark : Bool) : StatusField := .maybe (if present then some [bit mark] else none)

/-- A breaker status, R52. -/
def breakerParts (x : BreakerStatus) : List (Option (List Int)) :=
  [part x.position.code, part (bit x.ready), part (bit x.localOp), part (bit x.contactor)]

/-- Feeder switching status, R76. Phase-back raised is shown in every state, as no outside OPENING (R76 and R77 show
it so; R56 has it present in OPENING only). DESIGN CHOICE: log entry 9. -/
def State.switchingStatus (s : State) (f : Feeder) : List StatusField :=
  let c := s.fct[f]
  [.plain [c.state.code],
    .group (c.status.map breakerParts),
    .plain [bit c.supervised], .plain [c.attempts], markField (inTest c.state) c.opClose,
    markField (c.state == .opening) c.opOpen, markField (c.state == .opening) c.ttFail,
    oneNum (c.openingCause.map causeNum), oneNum (c.lockCause.map causeNum), .plain [bit c.pbRaised],
    .maybe c.timerShown, .plain [bit (s.closable f)]]

/-- A pending outcome, kind and R_line; in RELEASE with none the field is present and its parts are absent (R95). -/
def pendingParts (o : Option TestOutcome) : List (Option (List Int)) :=
  [optPart (o.map fun x => causeNum x.kind.cause), optPart (o.bind fun x => x.rLine.map Int.ofNat)]

/-- The fields of one slot, R95. -/
def slotFields (ph : TestPhase) : List StatusField :=
  let num (n : Nat) : Option Int := some (n : Int)
  match ph with
  | .free => [.plain [0], oneNum none, msField none, .group none, .group none]
  | .contact f t => [.plain [1], oneNum (num f.val), msField (some t), .group none, .group none]
  | .settle f t => [.plain [2], oneNum (num f.val), msField (some t), .group none, .group none]
  | .window f w n a b =>
    [.plain [3], oneNum (num f.val), msField none, .group (some [part w, part n, part a, part b]), .group none]
  | .release f t p =>
    [.plain [4], oneNum (num f.val), msField (some t), .group none, .group (some (pendingParts p))]

/-- Line test status, R95. -/
def State.lineTestStatus (s : State) : List StatusField :=
  [.plain (s.ltu.queue.map fun f => (f.val : Int)), .plain [s.headWaits]] ++ slotFields s.ltu.slot[0] ++
    slotFields s.ltu.slot[1]

def entryNums (e : SectionEntry) : List Int :=
  [e.secNo, bit e.closed, bit e.coupled, bit e.testEnd, bit e.ttReq, bit e.ttAck, bit e.lineLive,
    bit e.testActive]

/-- A neighbour frame: station id, rectifier running, bus live, acceptance time and the entries (R123). -/
def frameParts (x : NeighbourFrame) : List (Option (List Int)) :=
  [part x.stationId, part (bit x.rectRunning), part (bit x.busLive), part x.acceptedAt,
    some (x.entries.flatMap entryNums)]

/-- Neighbour status, R123. A link node none is shown as 0, as R221 has it in a settings record. The entries are one
value of the answer, the whole list as accepted; responseData keeps the limit of a RESPONSE. -/
def State.neighbourStatus (s : State) (n : Slot) : List StatusField :=
  let r := s.tables.neighbour[n]
  let l := s.sco.link[n]
  [.plain [r.stationId], .plain [(r.linkNode.getD 0 : Nat)], .plain [r.channel], .plain [r.tLink],
    .plain [r.tTt], .plain [bit l.up], msField l.timer,
    .group (l.last.map frameParts)]

/-- Section status, R124. The failed mark is shown always, clear while no request is in flight, reading present (R111)
as set (R114, R119), the remaining time of T_tt stands last, and whether the far-end report is present is a field of its
own before the far-end values. DESIGN CHOICE: log entry 9. -/
def State.sectionStatus (s : State) (f : Feeder) : List StatusField :=
  let r := s.tables.feeder[f]
  let x := s.sco.sect[f]
  [.plain [r.secNo], .plain [r.slot], .plain [bit r.testEnd], .plain [bit r.localCoupled],
    .plain [bit x.far.isSome], .plain [bit x.farCoupled], .plain [bit x.farTestEnd], .plain [bit x.farClosed],
    .plain [bit x.farTesting], .plain [bit x.farLineLive], .plain [bit (s.farBusLive f)],
    .plain [bit x.coupled], .plain [bit x.doubleFed], .plain [x.bank.code], .plain [bit x.hs.ttReq],
    .plain [bit x.hs.pending], .plain [bit x.hs.failed], .plain [bit x.hs.ttAck], .plain [bit x.hs.seenReq],
    .plain [bit x.hs.seenAck], msField x.hs.timer]

/-- The members of the phase-back request set in feeder order. -/
def pbMembers (set : Vector Bool 10) : List Int :=
  (allFeeders.filter fun f => set[f]).map fun f => (f.val : Int)

/-- A rectifier status, R128. -/
def rectStatusParts (x : RectStatus) : List (Option (List Int)) :=
  [part x.ac.code, part (bit x.ready), part (bit x.gateFault)]

/-- The working values of the regulator, R151. -/
def workingParts (w : Working) : List (Option (List Int)) :=
  [part w.vRef, part w.e, part w.u, part w.vD0, part w.d]

/-- Rectifier status, R151. The last status, where it is known, and the working values are one group each, and an
unknown last status is sent as an absent one. The state timer is its remaining time alone: the state says which timer runs
(R127). DESIGN CHOICE: log entry 9. -/
def State.rectifierStatus (s : State) : List StatusField :=
  let r := s.rcu
  [.plain [r.state.code], .plain [bit r.adoption], oneNum (r.cause.map causeNum),
    .group (r.status.map rectStatusParts), .plain [bit r.supervised],
    .plain [r.lastAlpha], .plain [r.trim], .plain (pbMembers r.pbSet), msField r.timer, .plain [bit r.acLow],
    .plain [r.ocRun], .plain [bit (curveValid s.tables.curve)],
    .group (r.working.map workingParts)]

/-- Station trip status, R162. -/
def State.stationTripStatus (s : State) : List StatusField :=
  [.plain [bit s.stl.lockout],
    .plain [match s.stl.leakage with
      | .normal => 0
      | .pickup _ => 1
      | .operated => 2],
    oneNum (match s.stl.leakage with
      | .pickup run => some (run : Int)
      | _ => none),
    .plain [s.tables.station.iLeak], .plain [s.tables.station.tLeak]]

/-- The record in progress, R182 and R196: the header values of R192 (time, cause, subject, P and the point list), the
counts, and the end reason, IN_PROGRESS until the capture has ended. That the point list is one part behind P, unpacked, is
a DESIGN CHOICE: log entry 32. -/
def recordParts (points : List Nat) (r : RecordInProgress) : List (Option (List Int)) :=
  [part r.time, part (causeNum r.cause), part r.subject.code, part points.length,
    some (points.map Int.ofNat), part r.preCount, part r.placed, part r.remaining, part r.words,
    part r.retriggers, part (reasonCode r.reason)]

def descNums (c : ChainDesc) : List Int := [c.start, c.length, bit c.last]

/-- Recorder status: the list of R196, and behind it the write buffer, which R182 calls shown, as the words that wait in
the order placed. DESIGN CHOICE: log entry 32 for its place and form. -/
def State.recorderStatus (s : State) : List StatusField :=
  let setup := s.tables.recorder
  [.plain [s.drc.state.name.code], .plain (setup.points.map Int.ofNat ++ [(setup.postCount : Int), (setup.cap : Int)]),
    .plain (s.tables.chain.flatMap descNums), .plain [chainCapacity s.tables.chain],
    .plain [bit (!s.recArmRefused)], .plain [s.drc.missed],
    oneNum (match s.drc.state with
      | .armed buffer => some (buffer.length : Int)
      | _ => none),
    .group (match s.drc.state with
      | .capturing r => some (recordParts setup.points r)
      | .draining r => some (recordParts setup.points r)
      | _ => none),
    .group (match s.drc.state with
      | .held len reason => some [part len, part reason.code]
      | _ => none),
    .maybe (match s.drc.state with
      | .capturing _ => some s.drc.waitingWords
      | .draining _ => some s.drc.waitingWords
      | _ => none)]

/-- Frames in the transit buffer; one leaving the port keeps its place (R205). -/
def Rif.transitUse (r : Rif) : Nat :=
  r.transit.length +
    match r.port with
    | some x => if x.forwarded then 1 else 0
    | none => 0

/-- Ring status, R211. -/
def State.ringStatus (s : State) : List StatusField :=
  let r := s.rif
  [.plain [r.node], .plain [r.ringErr], .plain [r.windowBad], .plain [r.transitDrop], .plain [r.malformed],
    .plain [r.reportDiscard], .plain [r.orderDiscard], .plain [r.transitUse], .plain [r.orderQ.length],
    .plain [r.linkQ.length], .plain [((r.reportQ.length + r.held : Nat) : Int)]]

/-! ### Indexes -/

def feederAt (n : Nat) : Option Feeder := if h : n < 10 then some ⟨n, h⟩ else none
def slotAt (n : Nat) : Option Slot := if h : n < 4 then some ⟨n, h⟩ else none
def pointAt (n : Nat) : Option Point := if h : n < 24 then some ⟨n, h⟩ else none

/-! ### Answers with a fixed layout, R212 -/

/-- READ_SUMMARY, R177 and R212. -/
def State.summaryAnswer (s : State) : List Byte :=
  summaryBytes s.summary ++ [byteOfBits [s.evr.notice.isSome]] ++ be16 s.evr.nextSeq

/-- READ_EVENTS, R171 and R212. -/
def Evr.eventsAnswer (e : Evr) : List Byte :=
  [BitVec.ofNat 8 (min 6 e.events.length), BitVec.ofNat 8 e.events.length] ++ be16 e.nextSeq ++
    [byteOfBits [e.lost]] ++ (e.events.take 6).flatMap eventBytes

/-- The words of READ_RECORD, four bytes each. -/
def wordBytes (w : Word) : List Byte := be32 w.toNat

/-! ### Reads that have no row of their own (log entry 7) -/

/-- The record of a settings object in the format of R221, with its status: CURVE alone can be refused here
(R145; log entry 23). -/
def State.settingsRead (s : State) (r : Request) : Status × List Byte :=
  let t := s.tables
  match r.obj with
  | 1 => (.ok, encodeStation t.station)
  | 2 => (.ok, encodeMapPoint (t.mapPoint.toList.getD r.index none))
  | 3 => (.ok, encodeMapRange (t.mapRange.toList.getD r.index none))
  | 4 => (.ok, (feederAt r.index).elim [] fun f => encodeFeeder t.feeder[f])
  | 5 => (.ok, (feederAt r.index).elim [] fun f => encodeBank t.bankA[f])
  | 6 => (.ok, (feederAt r.index).elim [] fun f => encodeBank t.bankB[f])
  | 7 => (.ok, (slotAt r.index).elim [] fun n => encodeNeighbour t.neighbour[n])
  | 8 => (.ok, encodeRegulator t.regulator)
  | 9 =>
    let count := byteAt r.data 0
    if 1 ≤ count ∧ count ≤ 16 ∧ r.index + count ≤ 65 then
      (.ok, encodeCurve ((t.curve.toList.drop r.index).take count))
    else (.range, [])
  | 10 => (.ok, encodeRecorder t.recorder)
  | 11 => (.ok, encodeChain t.chain)
  | _ => (.unknown, [])

/-- The fields of the status objects whose read changes nothing. -/
def State.statusRead (s : State) (obj index : Nat) : List StatusField :=
  match obj with
  | 17 => (pointAt index).elim [] s.pointStatus
  | 18 => (feederAt index).elim [] s.protectionStatus
  | 19 => (feederAt index).elim [] s.switchingStatus
  | 20 => s.lineTestStatus
  | 21 => (slotAt index).elim [] s.neighbourStatus
  | 22 => (feederAt index).elim [] s.sectionStatus
  | 23 => s.rectifierStatus
  | 24 => s.stationTripStatus
  | 25 => s.recorderStatus
  | _ => []

/-- The answer to a read of a settings object or of a status object whose read changes nothing. -/
def State.plainRead (s : State) (r : Request) : Status × List Byte :=
  if r.obj ≤ 11 then s.settingsRead r else (.ok, statusBytes r.obj (s.statusRead r.obj r.index))

end Sys2Proof.Machine
end

