-- ==== Sys2Proof/Machine/Power.lean ====
section
/-!
DEFINITION. Power-on, the load of the settings, restart and the time base: the power-on and restart state of every
block, with the meanings of POWER_ON, SETTINGS_LOAD_END, TICK and MILLISECOND_ADVANCE.
-/

namespace Sys2Proof.Machine
open Sys2Proof

/-! ### Power-on, R204 and R213 -/

/-- A strap value of 0 or 255 is a strap fault, R204. -/
def strapFaultOf (straps : Byte) : Bool := straps.toNat = 0 || straps.toNat = 255

/-- The part after the release of its reset pin: the straps are read, the load of the settings begins (log
entry 1). The commands that wait are kept. -/
def State.poweredOn (s : State) (straps : Byte) : State :=
  { State.reset with
    pending := s.pending
    phase := .loading
    rif := { Rif.reset with node := straps.toNat, strapFault := strapFaultOf straps } }

/-- POWER_ON. -/
def execPowerOn (straps : Byte) (s : State) : Result := .next (s.poweredOn straps)

/-! ### The state the blocks take from the loaded objects -/

/-- A feeder controller at power-on and restart, R77 and R78. -/
def fctInitial (inUse : Bool) : Fct :=
  if inUse then { Fct.reset with state := .unknown, supTimer := some halfSecond } else Fct.reset

def fctInitials (t : Tables) : Vector Fct 10 := vmap (fun r => fctInitial r.inUse) t.feeder

/-- The rectifier controller once its supervision timer runs, R152 and R153. -/
def rcuInitial : Rcu := { Rcu.reset with supTimer := some halfSecond }

/-- The periods that begin at the end of the load and at restart (R35, R100, R139). -/
def Clock.newPeriods (x : Clock) : Clock := { x with control := 0, thermal := 0, link := 0 }

/-! ### The load, R227 -/

/-- What the load finds: good with the image, or bad with its cause. -/
inductive LoadResult where
  | good (img : Tables)
  | bad (cause : Cause)
  deriving DecidableEq, Repr

def loadResult (answer : MemoryAnswer) : LoadResult :=
  match answer with
  | .silent => .bad .noMemory
  | .image img check =>
    if check ≠ Config.imageCheck img then .bad .check
    else if imageContentOk img then .good img
    else .bad .content

/-- TEST_OFF to the breaker node of every in-use feeder, R96, in the order of the numbers. DESIGN CHOICE: log entry
33. -/
def State.testOffAll (s : State) : State :=
  allFeeders.foldl (fun s f => if s.tables.feeder[f].inUse then s.sendOrder f .testOff else s) s

/-- Every block takes its power-on state from the loaded objects. -/
def State.loaded (s : State) (t : Tables) (unconfigured : Bool) : State :=
  { s with
    phase := .running
    tables := t
    fct := fctInitials t
    rcu := rcuInitial
    clock := s.clock.newPeriods
    mga := { s.mga with unconfigured := unconfigured } }.testOffAll

/-- SETTINGS_LOAD_END, R227. STORE_BAD takes the next sequence number, which is 0 unless RING_DEGRADED was posted in the
load. DESIGN CHOICE: log entry 20. -/
def execSettingsLoadEnd (answer : MemoryAnswer) (s : State) : Result :=
  .next <|
    if s.phase = .loading then
      match loadResult answer with
      | .good img => s.loaded img false
      | .bad cause => (s.loaded defaultTables true).post .storeBad .station (some cause) none
    else s

/-! ### Restart, R228 -/

/-- TEST_OFF for each slot that is not FREE, R97. -/
def State.restartSlots (s : State) : State :=
  s.eachSlot fun s k =>
    match s.ltu.slot[k] with
    | .free => s
    | .contact f _ => s.sendOrder f .testOff
    | .settle f _ => s.sendOrder f .testOff
    | .window f _ _ _ _ => s.sendOrder f .testOff
    | .release f _ _ => s.sendOrder f .testOff

/-- A point after restart: LOST, its last value kept (R21). -/
def PointRec.restart (p : PointRec) : PointRec :=
  { p with sighted := false, ref := none, age := 0, lossDue := false }

/-- The restart state of every block; the summary's changes are not yet taken. -/
def State.restarted (s : State) : State :=
  { s with
    clock := { s.clock.newPeriods with window := 0 }
    rif := { s.rif with linkQ := [], windowBad := 0 }
    smp := { points := vmap PointRec.restart s.smp.points, unmappedKey := none, unmapped := 0,
             stale := 0, invalid := 0 }
    fpu := vmap Fpu.rest s.fpu
    fct := fctInitials s.tables
    ltu := Ltu.reset
    sco := Sco.reset
    rcu := rcuInitial
    stl := { s.stl with leakage := s.stl.leakage.dropPickup, failNotices := [] }
    drc := s.drc.restart
    evr := { s.evr with notice := none }
    mga := { s.mga with busy := false, storeTimer := none, image := none } }

/-- The restart of the whole part: TEST_OFF orders, the restart states, then the change of the summary (R181,
log entry 17). -/
def State.restart (s : State) : State := s.restartSlots.restarted.noteChange s.summary

/-! ### Ticks -/

/-- A feeder controller's timers at a tick. -/
def Fct.tick (c : Fct) : Fct := { c with supTimer := tickTimer c.supTimer, timer := tickTimer c.timer }

def TestPhase.tick : TestPhase → TestPhase
  | .contact f t => .contact f (t - 1)
  | .settle f t => .settle f (t - 1)
  | .release f t p => .release f (t - 1) p
  | .window f w n a b => .window f w n a b
  | .free => .free

def LinkState.tick (x : LinkState) : LinkState := { x with timer := tickTimer x.timer }

def Section.tick (x : Section) : Section := { x with hs := { x.hs with timer := tickTimer x.hs.timer } }

def Rcu.tick (r : Rcu) : Rcu := { r with supTimer := tickTimer r.supTimer, timer := tickTimer r.timer }

/-- The counts of ticks that run from power-on, whatever the other blocks do (R166, R200). -/
def Clock.tickAlways (x : Clock) : Clock := { x with ms := x.ms + 1, window := x.window + 1 }

/-- All counts of ticks. -/
def Clock.tick (x : Clock) : Clock :=
  { x.tickAlways with control := x.control + 1, thermal := x.thermal + 1, link := x.link + 1 }

/-- Every timer one tick on and every SIGHTED point one tick older (R14, R56, R79, R98, R111, R127, R224). -/
def State.timersTick (s : State) : State :=
  { s with
    clock := s.clock.tick
    smp := { s.smp with points := vmap (fun p => p.tick s.tables.station.lossTime) s.smp.points }
    fct := vmap Fct.tick s.fct
    ltu := { s.ltu with slot := vmap TestPhase.tick s.ltu.slot }
    sco := { link := vmap LinkState.tick s.sco.link, sect := vmap Section.tick s.sco.sect }
    rcu := s.rcu.tick
    mga := { s.mga with storeTimer := tickTimer s.mga.storeTimer } }

/-- The recorder's set at a tick (R186, R191). -/
def State.recorderTick (s : State) : State :=
  s.changing fun s => { s with drc := s.drc.tick s.tables s.takeSet }

/-- TICK: in the load only the counts of R166 and R200 advance (log entry 20). -/
def execTick (s : State) : Result :=
  .next <|
    match s.phase with
    | .held => s
    | .loading => { s with clock := s.clock.tickAlways }
    | .running => s.timersTick.recorderTick

/-- MILLISECOND_ADVANCE: the millisecond that is due, R166 (log entry 3). -/
def execMillisecondAdvance (s : State) : Result :=
  .next <|
    if s.phase ≠ .held ∧ 4 ≤ s.clock.ms then
      { s with clock := { s.clock with ms := s.clock.ms - 4 }
               evr := { s.evr with ms := (s.evr.ms + 1) % 4294967296 } }
    else s

end Sys2Proof.Machine
end

