-- ==== Sys2Proof/Machine/Requests.lean ====
section
/-!
DEFINITION. The management agent's service of the request list (11): the checks of R216, responses, and the reads
without a row of their own.
-/

namespace Sys2Proof.Machine
open Sys2Proof

/-! ### Checks, R216 -/

/-- STORE and RESTART. -/
def isStoreOrRestart (r : Request) : Bool := r.op == opCommand && (r.obj == 49 || r.obj == 50)

/-- Checks 1 to 6 of R216. -/
def State.agentRefusal (s : State) (r : Request) : Option Status :=
  firstFailing
    [(opDefined r.op r.obj, .unknown),
      ((s.roleOf r.src).isSome, .access),
      ((s.roleOf r.src).any fun role => admits r.op r.obj role, .access),
      (!(r.op == opCommand && isSwitching r.obj) || (s.roleOf r.src).any (modeAdmits s.mga.mode), .mode),
      (!(s.mga.busy && (r.op == opWrite || isStoreOrRestart r)), .busy),
      (decide (r.index < indexCount r.obj) && lengthFits r.op r.obj r.data, .range)]

/-! ### Responses, R209, R212, R215 -/

/-- The data of a RESPONSE: at most 117 bytes (R212). What is sent of a longer answer is a free value. DESIGN CHOICE: log
entry 9. -/
def responseData (data : List Byte) : List Byte :=
  if data.length ≤ 117 then data else (Config.longAnswer data).take 117

/-- The RESPONSE frame of a request. -/
def State.responseFrame (s : State) (r : Request) (st : Status) (data : List Byte) : Frame :=
  makeFrame s.rif.node r.src kindResponse (be16 r.tag ++ BitVec.ofNat 8 st.code :: responseData data)

/-- Places a response in the place held for it. -/
def State.respond (s : State) (r : Request) (st : Status) (data : List Byte) : State :=
  { s with rif := s.rif.putResponse (s.responseFrame r st data) }

/-- A refusal carries no data (R216). -/
def State.refuse (s : State) (r : Request) (st : Status) : State := s.respond r st []

/-- The request at the head of the list leaves it. -/
def State.popRequest (s : State) : State :=
  { s with mga := { s.mga with requests := s.mga.requests.drop 1 } }

/-! ### Requests without a row (log entry 7) -/

/-- The request has a row of its own in the table: a write, a command, or one of the five reads named there. -/
def hasRow (r : Request) : Bool :=
  opDefined r.op r.obj &&
    (r.op == opWrite || r.op == opCommand || [16, 26, 27, 28, 29].contains r.obj)

/-- Serves a request without a row. -/
def State.servePlain (s : State) (r : Request) : State :=
  match s.agentRefusal r with
  | some st => s.refuse r st
  | none =>
    match s.plainRead r with
    | (.ok, data) => s.respond r .ok data
    | (st, _) => s.refuse r st

/-- Serves every request without a row that stands before the first request with one; `n` bounds the list. -/
def State.servePlains : Nat → State → State
  | 0, s => s
  | n + 1, s =>
    match s.mga.requests with
    | r :: _ => if hasRow r then s else State.servePlains n (s.popRequest.servePlain r)
    | [] => s

/-- The list is served up to its first request with a row; it holds at most 7 (R215). -/
def State.settle (s : State) : State := s.servePlains 7

/-! ### One request with a row -/

/-- What the owning block did with a request that passed the agent's checks: the part afterwards, the status,
and the data of the answer. -/
structure Service where
  after : State
  status : Status
  data : List Byte
  deriving DecidableEq, Repr

/-- A request of the named operation on an object that `objs` admits. -/
def Request.isOf (r : Request) (op : Nat) (objs : List Nat) : Bool := r.op == op && objs.contains r.obj

/-- Serves the request at the head when it is of the row's kind: the checks of R216, the owning block, the
response, and the requests without a row behind it (log entry 6). -/
def State.serve (s : State) (op : Nat) (objs : List Nat) (act : State → Request → Service) : State :=
  match s.mga.requests with
  | [] => s
  | r :: _ =>
    if r.isOf op objs then
      (match s.agentRefusal r with
        | some st => s.popRequest.refuse r st
        | none =>
          let done := act s.popRequest r
          done.after.respond r done.status done.data).settle
    else s

/-- An owning block's refusal. -/
def Service.refused (s : State) (st : Status) : Service := { after := s, status := st, data := [] }

/-- An owning block's acceptance without data. -/
def Service.done (s : State) : Service := { after := s, status := .ok, data := [] }

/-- Refused by the first failing check, else done. -/
def Service.checked (s : State) (refusal : Option Status) (t : State) : Service :=
  match refusal with
  | some st => .refused s st
  | none => .done t

/-! ### Accepted writes, R222 -/

/-- The role of a served request as the cause of SETTINGS_CHANGED. -/
def State.roleCause (s : State) (r : Request) : Cause :=
  match s.roleOf r.src with
  | some role => role.cause
  | none => .panel

/-- SETTINGS_CHANGED with the requester's role and the object and index. -/
def State.settingsChanged (s : State) (cause : Cause) (obj index : Nat) : State :=
  s.post .settingsChanged .station (some cause) (some ((obj * 256 + index : Nat) : Int))

/-- A write refused by the first failing check, else stored and reported; the role is the one the request was
served with. -/
def State.written (s : State) (r : Request) (refusal : Option Status) (t : State) : Service :=
  .checked s refusal (t.settingsChanged (s.roleCause r) r.obj r.index)

/-! ### The notice handshake, R176 to R178 -/

/-- The acknowledgement of the outstanding notice, R176. -/
def State.ackNotice (s : State) : State :=
  match s.evr.notice with
  | none => s
  | some copy =>
    let t := { s with evr := { s.evr with notice := none } }
    t.notify (copy != t.summary && t.canNotify)

/-- The handshake at a change of the control gateway node, R178. -/
def State.gatewayChanged (s : State) : State :=
  let t := { s with evr := { s.evr with notice := none } }
  if t.canNotify then t.notify true
  else { t with rif := t.rif.dropNotice }

end Sys2Proof.Machine
end

