-- ==== Sys2Proof/Machine/Commands.lean ====
section
/-!
DEFINITION. The management commands of section 11.4, but for STORE (Writes.lean): feeder, rectifier, station,
event and recorder commands, and RESTART.
-/

namespace Sys2Proof.Machine
open Sys2Proof

/-- A command whose index is a feeder. -/
def State.onFeeder (s : State) (r : Request) (act : Feeder → Service) : Service :=
  match feederAt r.index with
  | some f => act f
  | none => .refused s .range

/-! ### Feeder commands, R45, R70 to R72 -/

def State.serveFeederOpen (s : State) (r : Request) : Service :=
  s.onFeeder r fun f =>
    .checked s (firstFailing [(s.tables.feeder[f].inUse, .state)]) (s.feederOpens f)

/-- FEEDER_OPEN. -/
def execFeederOpen (s : State) : Result :=
  whenRunning s (s.serve opCommand [32] State.serveFeederOpen)

def State.serveFeederClose (s : State) (r : Request) : Service :=
  s.onFeeder r fun f => .checked s (s.feederCloseRefusal f) (s.toTestWait f true 0)

/-- FEEDER_CLOSE. -/
def execFeederClose (s : State) : Result :=
  whenRunning s (s.serve opCommand [33] State.serveFeederClose)

def State.serveFeederReset (s : State) (r : Request) : Service :=
  s.onFeeder r fun f => .checked s (s.feederResetRefusal f) (s.fctOut f)

/-- FEEDER_RESET. -/
def execFeederReset (s : State) : Result :=
  whenRunning s (s.serve opCommand [34] State.serveFeederReset)

def State.serveClearContext (s : State) (r : Request) : Service :=
  s.onFeeder r fun f => .done (s.emptyContext f)

/-- CLEAR_CONTEXT. -/
def execClearContext (s : State) : Result :=
  whenRunning s (s.serve opCommand [35] State.serveClearContext)

/-! ### Rectifier commands, R130, R132, R136, R149 -/

def State.serveRectStart (s : State) (_ : Request) : Service :=
  .checked s s.rectStartRefusal s.rectStarts

/-- RECT_START. -/
def execRectStart (s : State) : Result :=
  whenRunning s (s.serve opCommand [36] State.serveRectStart)

def State.serveRectStop (s : State) (_ : Request) : Service :=
  { after := s.rectStop.1, status := s.rectStop.2, data := [] }

/-- RECT_STOP. -/
def execRectStop (s : State) : Result :=
  whenRunning s (s.serve opCommand [37] State.serveRectStop)

def State.serveRectReset (s : State) (_ : Request) : Service :=
  .checked s s.rectResetRefusal (s.rectEnter .off none none)

/-- RECT_RESET. -/
def execRectReset (s : State) : Result :=
  whenRunning s (s.serve opCommand [38] State.serveRectReset)

/-- V_set of the REGULATOR record. -/
def State.setVSet (s : State) (v : Nat) : State :=
  { s with tables := { s.tables with regulator := { s.tables.regulator with vSet := v } } }

/-- SET_SETPOINT: the value clamped to V_set_min..V_set_max, R149 and R222. -/
def State.serveSetpoint (s : State) (r : Request) : Service :=
  let v := s32At r.data 0
  if -40000 ≤ v ∧ v ≤ 40000 then
    let w := clampInt v s.tables.station.vSetMin s.tables.station.vSetMax
    { after := (s.setVSet w.toNat).settingsChanged (s.roleCause r) 8 0
      status := if w = v then .ok else .clamped
      data := [] }
  else .refused s .range

/-- SET_SETPOINT. -/
def execSetSetpoint (s : State) : Result :=
  whenRunning s (s.serve opCommand [39] State.serveSetpoint)

/-! ### Station commands, R160, R162, R219 -/

def State.serveStationReset (s : State) (_ : Request) : Service :=
  .checked s s.stationResetRefusal (s.setLockout false)

/-- STATION_RESET. -/
def execStationReset (s : State) : Result :=
  whenRunning s (s.serve opCommand [40] State.serveStationReset)

def State.serveEmergency (s : State) (_ : Request) : Service := .done s.emergency

/-- EMERGENCY_OPEN. -/
def execEmergencyOpen (s : State) : Result :=
  whenRunning s (s.serve opCommand [41] State.serveEmergency)

/-- 0 LOCAL, 1 REMOTE; another value is outside the range (log entry 23). -/
def modeOf (n : Nat) : Option ControlMode :=
  match n with
  | 0 => some .localMode
  | 1 => some .remote
  | _ => none

def State.serveSetMode (s : State) (r : Request) : Service :=
  match modeOf (byteAt r.data 0) with
  | some m => .done (s.changing fun s => { s with mga := { s.mga with mode := m } })
  | none => .refused s .range

/-- SET_MODE. -/
def execSetMode (s : State) : Result :=
  whenRunning s (s.serve opCommand [42] State.serveSetMode)

/-! ### Time, events and notices, R167, R172, R176 -/

/-- The counter is loaded, R167. -/
def State.loadTime (s : State) (ms : Nat) : State := { s with evr := { s.evr with ms := ms } }

def State.serveSetTime (s : State) (r : Request) : Service := .done (s.loadTime (u32At r.data 0))

/-- SET_TIME. -/
def execSetTime (s : State) : Result :=
  whenRunning s (s.serve opCommand [43] State.serveSetTime)

/-- The place of sequence number `n` in the queue, 0 for the oldest; none when it is not there (R170). -/
def Evr.placeOf (e : Evr) (n : Nat) : Option Nat :=
  match e.events with
  | [] => none
  | x :: _ =>
    let d := (n + 65536 - x.seq % 65536) % 65536
    if d < e.events.length then some d else none

/-- ACK_EVENTS, R172. The changes of events pending and of events lost are taken as one change of the summary. DESIGN
CHOICE: log entry 17. -/
def State.serveAckEvents (s : State) (r : Request) : Service :=
  match s.evr.placeOf (u16At r.data 0) with
  | none => .refused s .notFound
  | some d =>
    .done (s.changing fun s =>
      { s with evr := { s.evr with events := s.evr.events.drop (d + 1), lost := false } })

/-- ACK_EVENTS. -/
def execAckEvents (s : State) : Result :=
  whenRunning s (s.serve opCommand [44] State.serveAckEvents)

def State.serveAckNotice (s : State) (_ : Request) : Service := .done s.ackNotice

/-- ACK_NOTICE. -/
def execAckNotice (s : State) : Result :=
  whenRunning s (s.serve opCommand [45] State.serveAckNotice)

/-! ### Recorder commands, R187, R188, R193 -/

def State.serveRecArm (s : State) (_ : Request) : Service :=
  .checked s (firstFailing [(!s.recArmRefused, .state)]) s.arm

/-- REC_ARM. -/
def execRecArm (s : State) : Result :=
  whenRunning s (s.serve opCommand [46] State.serveRecArm)

def State.serveRecDisarm (s : State) (_ : Request) : Service :=
  { after := s.disarm.1, status := s.disarm.2, data := [] }

/-- REC_DISARM. -/
def execRecDisarm (s : State) : Result :=
  whenRunning s (s.serve opCommand [47] State.serveRecDisarm)

def State.serveRecTrigger (s : State) (_ : Request) : Service := .done (s.trigger .command .station)

/-- REC_TRIGGER. -/
def execRecTrigger (s : State) : Result :=
  whenRunning s (s.serve opCommand [48] State.serveRecTrigger)

/-! ### RESTART, R228 -/

/-- RESTART: the response is placed, then the part restarts; the requests behind it are served after it. -/
def State.restartRequest (s : State) : State :=
  match s.mga.requests with
  | [] => s
  | r :: _ =>
    if r.isOf opCommand [50] then
      (match s.agentRefusal r with
        | some st => s.popRequest.refuse r st
        | none => (s.popRequest.respond r .ok []).restart).settle
    else s

/-- RESTART. -/
def execRestart (s : State) : Result := whenRunning s s.restartRequest

end Sys2Proof.Machine
end

