-- ==== Sys2Proof/Machine/Reads.lean ====
section
/-!
DEFINITION. The reads with a row of their own: MAPPER_STATUS_READ, RING_STATUS_READ, READ_SUMMARY, READ_EVENTS and
READ_RECORD (R18, R171, R177, R195, R211).
-/

namespace Sys2Proof.Machine
open Sys2Proof

/-- The mapper status is returned and cleared, R18. -/
def State.serveMapperStatus (s : State) (r : Request) : Service :=
  { after := { s with smp := { s.smp with unmappedKey := none, unmapped := 0, stale := 0, invalid := 0 } }
    status := .ok
    data := statusBytes r.obj s.mapperStatus }

/-- MAPPER_STATUS_READ. -/
def execMapperStatusRead (s : State) : Result :=
  whenRunning s (s.serve opRead [16] State.serveMapperStatus)

/-- The ring status is returned and its five counts cleared, R211. -/
def State.serveRingStatus (s : State) (r : Request) : Service :=
  { after := { s with rif := { s.rif with ringErr := 0, transitDrop := 0, malformed := 0,
                                          reportDiscard := 0, orderDiscard := 0 } }
    status := .ok
    data := statusBytes r.obj s.ringStatus }

/-- RING_STATUS_READ. -/
def execRingStatusRead (s : State) : Result :=
  whenRunning s (s.serve opRead [26] State.serveRingStatus)

/-- The acknowledge option counts for the control gateway node in the role CONTROL (R177, R179). -/
def State.acknowledges (s : State) (r : Request) : Bool :=
  bitAt r.data 0 0 && s.roleOf r.src == some .control

/-- READ_SUMMARY: the answer, then the acknowledgement (R177). The response takes its turn in the REPORT queue
before a notice that the acknowledgement brings. -/
def State.readSummary (s : State) : State :=
  match s.mga.requests with
  | [] => s
  | r :: _ =>
    if r.isOf opRead [27] then
      (match s.agentRefusal r with
        | some st => s.popRequest.refuse r st
        | none =>
          let t := s.popRequest.respond r .ok s.popRequest.summaryAnswer
          if s.acknowledges r then t.ackNotice else t).settle
    else s

/-- READ_SUMMARY. -/
def execReadSummary (s : State) : Result := whenRunning s s.readSummary

/-- The oldest events, R171. -/
def State.serveEvents (s : State) (_ : Request) : Service :=
  { after := s, status := .ok, data := s.evr.eventsAnswer }

/-- READ_EVENTS. -/
def execReadEvents (s : State) : Result := whenRunning s (s.serve opRead [28] State.serveEvents)

/-- Words of the held record, R195 (order of the refusals: log entry 23). -/
def State.serveRecord (s : State) (r : Request) : Service :=
  let offset := u16At r.data 0
  let count := byteAt r.data 2
  if offset ≤ 32767 ∧ 1 ≤ count ∧ count ≤ 24 then
    match s.drc.state with
    | .held len _ =>
      { after := s, status := .ok, data := (s.recordWords len offset count).flatMap wordBytes }
    | _ => .refused s .state
  else .refused s .range

/-- READ_RECORD. -/
def execReadRecord (s : State) : Result := whenRunning s (s.serve opRead [29] State.serveRecord)

end Sys2Proof.Machine
end

