-- ==== Sys2Proof/Machine/Ring.lean ====
section
/-!
DEFINITION. The station ring interface (10): checks and disposition of arriving frames, the transit buffer, the
arbiter and the error windows, with the meanings of the frame rows, ARBITER_TAKE, FRAME_SEND_END and
RING_WINDOW_END.
-/

namespace Sys2Proof.Machine
open Sys2Proof

/-- The ring interface acts from power-on, whatever the state of the other blocks (R213). -/
def whenPowered (s t : State) : Result := .next (if s.phase = .held then s else t)

/-! ### Bad frames, R199 and R200 -/

/-- A bad frame is dropped and counted; the 17th of a window posts RING_DEGRADED, during the load too (R169, R200).
One posted in the load takes the sequence number before STORE_BAD's (R180, R227). DESIGN CHOICE: log entry 20. -/
def State.badFrame (s : State) : State :=
  let t := { s with rif := { s.rif with ringErr := satInc 65535 s.rif.ringErr,
                                        windowBad := satInc 65535 s.rif.windowBad } }
  if s.rif.windowBad = 16 then
    t.post .ringDegraded .station none (some (t.rif.ringErr : Int))
  else t

/-! ### The transit buffer, R205 -/

/-- A frame joins the buffer, or is dropped when two frames hold it. -/
def Rif.forward (r : Rif) (fr : Frame) : Rif :=
  if r.transitUse < 2 then { r with transit := r.transit ++ [fr] }
  else { r with transitDrop := satInc 65535 r.transitDrop }

def State.forward (s : State) (fr : Frame) : State := { s with rif := s.rif.forward fr }

/-- The malformed count increases, R201 to R203. -/
def State.malformed (s : State) : State :=
  { s with rif := { s.rif with malformed := satInc 65535 s.rif.malformed } }

/-! ### Readers, R202 -/

/-- The in-use feeder whose breaker node is `src`, R52. -/
def State.feederOfNode (s : State) (src : Nat) : Option Feeder :=
  allFeeders.find? fun f => s.tables.feeder[f].inUse && s.tables.feeder[f].breakerNode == some src

/-- A TIME frame, R167. -/
def State.timeIn (s : State) (src : Nat) (payload : List Byte) : State :=
  if s.tables.station.gateway = some src then s.loadTime (u32At payload 0) else s

/-- A BREAKER_STATUS frame, R52. -/
def State.breakerIn (s : State) (src : Nat) (payload : List Byte) : State :=
  match s.feederOfNode src with
  | some f => s.breakerReport f (breakerStatusOf payload)
  | none => s

/-- A RECT_STATUS frame, R128. -/
def State.rectIn (s : State) (src : Nat) (payload : List Byte) : State :=
  if s.tables.regulator.gateNode = some src then s.rectReport (rectStatusOf payload) else s

/-- A consumed REQUEST: a place is held and the agent takes it while fewer than seven frames and held places
stand; otherwise it is discarded and counted (R209). -/
def State.requestIn (s : State) (fr : Frame) : State :=
  if s.rif.reportQ.length + s.rif.held < 7 then
    { s with
      rif := { s.rif with held := s.rif.held + 1 }
      mga := { s.mga with requests := s.mga.requests ++ [requestOf fr] } }.settle
  else { s with rif := { s.rif with reportDiscard := satInc 65535 s.rif.reportDiscard } }

/-- A frame whose payload fits, handed to the reader of its kind. -/
def State.readBy (s : State) (fr : Frame) : State :=
  match fr.kind.toNat with
  | 1 => s.sampleIn fr.src.toNat fr.payload
  | 2 => s.timeIn fr.src.toNat fr.payload
  | 3 => s.breakerIn fr.src.toNat fr.payload
  | 5 => s.rectIn fr.src.toNat fr.payload
  | 7 => s.linkIn fr.src.toNat fr.payload
  | 9 => s.requestIn fr
  | _ => s

/-- A frame handed to its reader when its payload fits, and counted as malformed otherwise (R203). During the
load frames are handed to no reader, and a REQUEST has no count (R227). -/
def State.hand (s : State) (fr : Frame) : State :=
  if payloadFits fr.kind.toNat fr.payload then (if s.phase = .running then s.readBy fr else s)
  else if s.phase ≠ .running ∧ fr.kind.toNat = kindRequest then s
  else s.malformed

/-- A consumed frame, R202. -/
def State.consume (s : State) (fr : Frame) : State :=
  if [1, 2, 3, 5, 7, 9].contains fr.kind.toNat then s.hand fr
  else if [4, 6, 8, 10, 11].contains fr.kind.toNat then s
  else s.malformed

/-- The part's copy of a broadcast frame, R202. -/
def State.readBroadcast (s : State) (fr : Frame) : State :=
  if [1, 2, 3, 5, 7].contains fr.kind.toNat then s.hand fr else s

/-! ### Disposition, R201 and R204 -/

def State.dispose (s : State) (fr : Frame) : State :=
  if s.rif.strapFault then s.forward fr
  else if fr.src.toNat = s.rif.node then s
  else if fr.src.toNat = 0 ∨ fr.src.toNat = 255 then s.malformed
  else if fr.dest.toNat = s.rif.node then s.consume fr
  else if fr.dest.toNat = 255 then (s.forward fr).readBroadcast fr
  else s.forward fr

/-- An arriving frame of a kind, R199 and R201. -/
def State.receive (s : State) (kind : Byte) (fr : RxFrame) : State :=
  if frameGood kind fr then s.dispose (rxToFrame kind fr) else s.badFrame

/-- An arriving frame as its bytes; fewer than six are no frame. -/
def State.receiveBytes (s : State) (bytes : List Byte) : State :=
  match splitFrame bytes with
  | some x => s.receive x.1 x.2
  | none => s.badFrame

/-- RING_FRAME_RECEIVED. -/
def execRingFrameReceived (bytes : List Byte) (s : State) : Result :=
  whenPowered s (s.receiveBytes bytes)

/-- SAMPLE_FRAME. -/
def execSampleFrame (fr : RxFrame) (s : State) : Result := whenPowered s (s.receive 1 fr)

/-- TIME_FRAME. -/
def execTimeFrame (fr : RxFrame) (s : State) : Result := whenPowered s (s.receive 2 fr)

/-- BREAKER_STATUS_FRAME. -/
def execBreakerStatusFrame (fr : RxFrame) (s : State) : Result := whenPowered s (s.receive 3 fr)

/-- RECT_STATUS_FRAME. -/
def execRectStatusFrame (fr : RxFrame) (s : State) : Result := whenPowered s (s.receive 5 fr)

/-- LINK_IN_FRAME. -/
def execLinkInFrame (fr : RxFrame) (s : State) : Result := whenPowered s (s.receive 7 fr)

/-- REQUEST_FRAME. -/
def execRequestFrame (fr : RxFrame) (s : State) : Result := whenPowered s (s.receive 9 fr)

/-! ### The arbiter, R210 -/

/-- The frame the arbiter takes: transit, ORDER, LINK, REPORT, the oldest turn of the first that waits. -/
def Rif.take (r : Rif) : Rif :=
  match r.port, r.transit, r.orderQ, r.linkQ, r.reportQ with
  | some _, _, _, _, _ => r
  | none, x :: rest, _, _, _ => { r with transit := rest, port := some { forwarded := true, frame := x } }
  | none, [], x :: rest, _, _ =>
    { r with orderQ := rest, port := some { forwarded := false, frame := x.frame } }
  | none, [], [], x :: rest, _ =>
    { r with linkQ := rest, port := some { forwarded := false, frame := x.frame } }
  | none, [], [], [], x :: rest =>
    { r with reportQ := rest, port := some { forwarded := false, frame := x.frame } }
  | none, [], [], [], [] => r

/-- ARBITER_TAKE. -/
def execArbiterTake (s : State) : Result := whenPowered s { s with rif := s.rif.take }

/-- FRAME_SEND_END: the last byte has left and the port is free (R205, R210). -/
def execFrameSendEnd (s : State) : Result := whenPowered s { s with rif := { s.rif with port := none } }

/-! ### Windows, R200 -/

/-- RING_WINDOW_END: the window end that is due (log entry 3). -/
def execRingWindowEnd (s : State) : Result :=
  whenPowered s <|
    if 4000 ≤ s.clock.window then
      { s with clock := { s.clock with window := s.clock.window - 4000 }
               rif := { s.rif with windowBad := 0 } }
    else s

end Sys2Proof.Machine
end

