-- ==== Sys2Proof/Machine/Writes.lean ====
section
/-!
DEFINITION. The eleven settings writes (R222 and the rules R216 names for each object) and the settings store
(R224 to R226), with the meanings of the write rows, STORE, STORE_CONFIRM and STORE_TIMER_EXPIRY.
-/

namespace Sys2Proof.Machine
open Sys2Proof

/-! ### STATION, R223 -/

/-- V_set within the limits of a STATION record, R138. -/
def clampSet (r : StationRec) (v : Nat) : Nat :=
  if v < r.vSetMin then r.vSetMin else if r.vSetMax < v then r.vSetMax else v

/-- An accepted STATION write: the record, V_set clamped, the notice handshake (R138, R178, R223). -/
def State.storeStation (s : State) (r : StationRec) : State :=
  let t := { s with tables := { s.tables with
    station := r
    regulator := { s.tables.regulator with vSet := clampSet r s.tables.regulator.vSet } } }
  if s.tables.station.gateway = r.gateway then t else t.gatewayChanged

def State.serveStation (s : State) (r : Request) : Service :=
  let x := decodeStation r.data
  s.written r (checkStation s.tables x) (s.storeStation x)

/-- STATION_WRITE. -/
def execStationWrite (s : State) : Result :=
  whenRunning s (s.serve opWrite [1] State.serveStation)

/-! ### MAP_POINT and MAP_RANGE, R8 and R9 -/

def State.serveMapPoint (s : State) (r : Request) : Service :=
  match decodeMapPoint r.data with
  | none => .refused s .range
  | some e =>
    s.written r (checkMapPoint s.tables r.index e)
      (s.writeMap { s.tables with mapPoint := s.tables.mapPoint.setIfInBounds r.index e })

/-- MAP_POINT_WRITE. -/
def execMapPointWrite (s : State) : Result :=
  whenRunning s (s.serve opWrite [2] State.serveMapPoint)

def State.serveMapRange (s : State) (r : Request) : Service :=
  match decodeMapRange r.data with
  | none => .refused s .range
  | some e =>
    s.written r (checkMapRange s.tables r.index e)
      (s.writeMap { s.tables with mapRange := s.tables.mapRange.setIfInBounds r.index e })

/-- MAP_RANGE_WRITE. -/
def execMapRangeWrite (s : State) : Result :=
  whenRunning s (s.serve opWrite [3] State.serveMapRange)

/-! ### FEEDER, R50, R51, R106 -/

/-- The feeder is OUT or LOCKOUT, the states in which its identity fields may be written (R50). -/
def identityFree (st : FeederState) : Bool := st == .out || st == .lockout

def State.serveFeeder (s : State) (r : Request) : Service :=
  match feederAt r.index, decodeFeeder r.data with
  | some f, some x =>
    s.written r (checkFeeder s.tables f x (identityFree s.fct[f].state)) (s.writeFeeder f x)
  | _, _ => .refused s .range

/-- FEEDER_WRITE. -/
def execFeederWrite (s : State) : Result :=
  whenRunning s (s.serve opWrite [4] State.serveFeeder)

/-! ### BANK_A and BANK_B, R26 -/

/-- The bank record named by the object code replaced. -/
def State.storeBank (s : State) (obj : Nat) (f : Feeder) (x : BankRec) : State :=
  { s with tables :=
    if obj = 5 then { s.tables with bankA := s.tables.bankA.set f x }
    else { s.tables with bankB := s.tables.bankB.set f x } }

def State.serveBank (s : State) (r : Request) : Service :=
  match feederAt r.index, decodeBank r.data with
  | some f, some x => s.written r (checkBank x) (s.storeBank r.obj f x)
  | _, _ => .refused s .range

/-- BANK_WRITE. -/
def execBankWrite (s : State) : Result :=
  whenRunning s (s.serve opWrite [5, 6] State.serveBank)

/-! ### NEIGHBOUR, R99 -/

def State.serveNeighbour (s : State) (r : Request) : Service :=
  match slotAt r.index with
  | some n =>
    let x := decodeNeighbour r.data
    s.written r (checkNeighbour s.tables n x) (s.writeNeighbour n x)
  | none => .refused s .range

/-- NEIGHBOUR_WRITE. -/
def execNeighbourWrite (s : State) : Result :=
  whenRunning s (s.serve opWrite [7] State.serveNeighbour)

/-! ### REGULATOR and CURVE, R138 and R145 -/

/-- OFF with no adoption pending. -/
def Rcu.offAdopted (r : Rcu) : Bool := r.state == .off && !r.adoption

/-- OFF or TRIPPED with no adoption pending (R138). -/
def Rcu.gateFree (r : Rcu) : Bool := (r.state == .off || r.state == .tripped) && !r.adoption

/-- An accepted REGULATOR write; a new gate driver node is unsupervised with its status unknown (R138). -/
def State.storeRegulator (s : State) (x : RegulatorRec) : State :=
  { s with
    tables := { s.tables with regulator := x }
    rcu :=
      if s.tables.regulator.gateNode = x.gateNode then s.rcu
      else { s.rcu with status := none, supervised := false, supTimer := some halfSecond } }

def State.serveRegulator (s : State) (r : Request) : Service :=
  let x := decodeRegulator r.data
  s.written r (checkRegulator s.tables x s.rcu.gateFree) (s.storeRegulator x)

/-- REGULATOR_WRITE. -/
def execRegulatorWrite (s : State) : Result :=
  whenRunning s (s.serve opWrite [8] State.serveRegulator)

/-- The entries of a list replace F[start] onward. -/
def curveWith (tab : Vector Nat 65) : Nat → List Nat → Vector Nat 65
  | _, [] => tab
  | start, a :: rest => curveWith (tab.setIfInBounds start a) (start + 1) rest

def State.serveCurve (s : State) (r : Request) : Service :=
  let entries := decodeCurve r.data
  s.written r (checkCurve r.index entries s.rcu.offAdopted)
    { s with tables := { s.tables with curve := curveWith s.tables.curve r.index entries } }

/-- CURVE_WRITE. -/
def execCurveWrite (s : State) : Result :=
  whenRunning s (s.serve opWrite [9] State.serveCurve)

/-! ### RECORDER and CHAIN, R183 and R185 -/

def State.serveRecorder (s : State) (r : Request) : Service :=
  let x := decodeRecorder r.data
  s.written r (checkRecorder x s.drc.state.writable) { s with tables := { s.tables with recorder := x } }

/-- RECORDER_WRITE. -/
def execRecorderWrite (s : State) : Result :=
  whenRunning s (s.serve opWrite [10] State.serveRecorder)

/-- An accepted CHAIN write; in HELD it ends the held record (R185). -/
def State.storeChain (s : State) (c : List ChainDesc) : State :=
  s.changing fun s => { s with
    tables := { s.tables with chain := c }
    drc := { s.drc with state :=
      match s.drc.state with
      | .held _ _ => .idle
      | st => st } }

def State.serveChain (s : State) (r : Request) : Service :=
  let c := decodeChain r.data
  s.written r (checkChain c s.drc.state.writable) (s.storeChain c)

/-- CHAIN_WRITE. -/
def execChainWrite (s : State) : Result :=
  whenRunning s (s.serve opWrite [11] State.serveChain)

/-! ### The settings store, R224 to R226 -/

/-- The store timer: 2 s in ticks. -/
def storeTicks : Nat := 8000

/-- STORE takes the image and its check value, R225. -/
def State.beginStore (s : State) : State :=
  s.changing fun s => { s with mga := { s.mga with
    busy := true, storeTimer := some storeTicks
    image := some (s.tables, Config.imageCheck s.tables) } }

def State.serveStore (s : State) (_ : Request) : Service := .done s.beginStore

/-- STORE. -/
def execStore (s : State) : Result :=
  whenRunning s (s.serve opCommand [49] State.serveStore)

/-- The store ends; a good end clears the unconfigured flag (R226). The changes of store busy and of unconfigured are
taken as one change of the summary. DESIGN CHOICE: log entry 17. -/
def State.endStore (s : State) (good : Bool) : State :=
  let t := s.changing fun s => { s with mga := { s.mga with
    busy := false, storeTimer := none, image := none
    unconfigured := s.mga.unconfigured && !good } }
  if good then t.post .storeDone .station none none
  else t.post .storeBad .station (some .writeFailed) none

/-- STORE_CONFIRM with the check value read back (log entry 12). -/
def execStoreConfirm (readBack : Nat) (s : State) : Result :=
  whenRunning s <|
    match s.mga.image with
    | some (_, check) => if s.mga.busy then s.endStore (decide (readBack = check)) else s
    | none => s

/-- STORE_TIMER_EXPIRY. -/
def execStoreTimerExpiry (s : State) : Result :=
  whenRunning s <| if s.mga.busy && ranOut s.mga.storeTimer then s.endStore false else s

end Sys2Proof.Machine
end

