-- ==== Sys2Proof/Machine/Dispatch.lean ====
section
/-!
DEFINITION. One arm per command: the meaning it calls.
-/

namespace Sys2Proof.Machine
open Sys2Proof

def exec (i : Instr) (s : State) : Host.Outcome State Fault Refusal :=
  match i with
  | .powerOn straps => Sys2Proof.Machine.execPowerOn straps s
  | .settingsLoadEnd answer => Sys2Proof.Machine.execSettingsLoadEnd answer s
  | .tick => Sys2Proof.Machine.execTick s
  | .millisecondAdvance => Sys2Proof.Machine.execMillisecondAdvance s
  | .pointLoss p => Sys2Proof.Machine.execPointLoss p s
  | .controlTick => Sys2Proof.Machine.execControlTick s
  | .thermalPeriodEnd => Sys2Proof.Machine.execThermalPeriodEnd s
  | .neighbourFramePeriod => Sys2Proof.Machine.execNeighbourFramePeriod s
  | .ringWindowEnd => Sys2Proof.Machine.execRingWindowEnd s
  | .ringFrameReceived bytes => Sys2Proof.Machine.execRingFrameReceived bytes s
  | .sampleFrame fr => Sys2Proof.Machine.execSampleFrame fr s
  | .timeFrame fr => Sys2Proof.Machine.execTimeFrame fr s
  | .breakerStatusFrame fr => Sys2Proof.Machine.execBreakerStatusFrame fr s
  | .rectStatusFrame fr => Sys2Proof.Machine.execRectStatusFrame fr s
  | .linkInFrame fr => Sys2Proof.Machine.execLinkInFrame fr s
  | .requestFrame fr => Sys2Proof.Machine.execRequestFrame fr s
  | .arbiterTake => Sys2Proof.Machine.execArbiterTake s
  | .frameSendEnd => Sys2Proof.Machine.execFrameSendEnd s
  | .operateReport f source => Sys2Proof.Machine.execOperateReport f source s
  | .testOutcome f => Sys2Proof.Machine.execTestOutcome f s
  | .ttFailReport f => Sys2Proof.Machine.execTtFailReport f s
  | .breakerFailNotice f => Sys2Proof.Machine.execBreakerFailNotice f s
  | .breakerSupervisionExpiry f => Sys2Proof.Machine.execBreakerSupervisionExpiry f s
  | .tOpenExpiry f => Sys2Proof.Machine.execTOpenExpiry f s
  | .tCloseExpiry f => Sys2Proof.Machine.execTCloseExpiry f s
  | .deadTimeExpiry f => Sys2Proof.Machine.execDeadTimeExpiry f s
  | .reclaimExpiry f => Sys2Proof.Machine.execReclaimExpiry f s
  | .followTimeout f => Sys2Proof.Machine.execFollowTimeout f s
  | .contactorTimerExpiry k => Sys2Proof.Machine.execContactorTimerExpiry k s
  | .settleTimerExpiry k => Sys2Proof.Machine.execSettleTimerExpiry k s
  | .releaseTimerExpiry k => Sys2Proof.Machine.execReleaseTimerExpiry k s
  | .linkTimerExpiry n => Sys2Proof.Machine.execLinkTimerExpiry n s
  | .tTtExpiry f => Sys2Proof.Machine.execTTtExpiry f s
  | .gateDriverSupervisionExpiry => Sys2Proof.Machine.execGateDriverSupervisionExpiry s
  | .tAcExpiry => Sys2Proof.Machine.execTAcExpiry s
  | .acTimerExpiry => Sys2Proof.Machine.execAcTimerExpiry s
  | .tPbExpiry => Sys2Proof.Machine.execTPbExpiry s
  | .storeTimerExpiry => Sys2Proof.Machine.execStoreTimerExpiry s
  | .storeConfirm readBack => Sys2Proof.Machine.execStoreConfirm readBack s
  | .drainingEnd => Sys2Proof.Machine.execDrainingEnd s
  | .stationWrite => Sys2Proof.Machine.execStationWrite s
  | .mapPointWrite => Sys2Proof.Machine.execMapPointWrite s
  | .mapRangeWrite => Sys2Proof.Machine.execMapRangeWrite s
  | .feederWrite => Sys2Proof.Machine.execFeederWrite s
  | .bankWrite => Sys2Proof.Machine.execBankWrite s
  | .neighbourWrite => Sys2Proof.Machine.execNeighbourWrite s
  | .regulatorWrite => Sys2Proof.Machine.execRegulatorWrite s
  | .curveWrite => Sys2Proof.Machine.execCurveWrite s
  | .recorderWrite => Sys2Proof.Machine.execRecorderWrite s
  | .chainWrite => Sys2Proof.Machine.execChainWrite s
  | .mapperStatusRead => Sys2Proof.Machine.execMapperStatusRead s
  | .ringStatusRead => Sys2Proof.Machine.execRingStatusRead s
  | .readSummary => Sys2Proof.Machine.execReadSummary s
  | .readEvents => Sys2Proof.Machine.execReadEvents s
  | .readRecord => Sys2Proof.Machine.execReadRecord s
  | .feederOpen => Sys2Proof.Machine.execFeederOpen s
  | .feederClose => Sys2Proof.Machine.execFeederClose s
  | .feederReset => Sys2Proof.Machine.execFeederReset s
  | .clearContext => Sys2Proof.Machine.execClearContext s
  | .rectStart => Sys2Proof.Machine.execRectStart s
  | .rectStop => Sys2Proof.Machine.execRectStop s
  | .rectReset => Sys2Proof.Machine.execRectReset s
  | .setSetpoint => Sys2Proof.Machine.execSetSetpoint s
  | .stationReset => Sys2Proof.Machine.execStationReset s
  | .emergencyOpen => Sys2Proof.Machine.execEmergencyOpen s
  | .setMode => Sys2Proof.Machine.execSetMode s
  | .setTime => Sys2Proof.Machine.execSetTime s
  | .ackEvents => Sys2Proof.Machine.execAckEvents s
  | .ackNotice => Sys2Proof.Machine.execAckNotice s
  | .recArm => Sys2Proof.Machine.execRecArm s
  | .recDisarm => Sys2Proof.Machine.execRecDisarm s
  | .recTrigger => Sys2Proof.Machine.execRecTrigger s
  | .store => Sys2Proof.Machine.execStore s
  | .restart => Sys2Proof.Machine.execRestart s

end Sys2Proof.Machine
end

