-- ==== Sys2Proof/Safety.lean ====
section
/-!
DEFINITION. The terms claims use: the bounds and forms the rules give the part's queues, buffers and flags, the
invariant made of them, and what a command leaves as it stands beside the events and notices it brings.
-/

namespace Sys2Proof.Machine
open Sys2Proof

/-! ### Invariants of the parts of the state -/

/-- R170: at most 128 events, whose sequence numbers run consecutively, modulo 65536, up to the next sequence
number. -/
def EventQueueOk (e : Evr) : Prop :=
  e.events.length ≤ 128 ∧ e.nextSeq < 65536 ∧
    ∀ i (h : i < e.events.length), (e.events[i].seq + (e.events.length - i)) % 65536 = e.nextSeq

/-- R207: the ORDER queue never holds two orders for the same breaker node or two gate orders, and at most 16. -/
def OrderQueueOk (r : Rif) : Prop := (r.orderQ.map OrderEntry.place).Nodup ∧ r.orderQ.length ≤ 16

/-- R208: one place for each neighbour slot. -/
def LinkQueueOk (r : Rif) : Prop := (r.linkQ.map LinkEntry.slot).Nodup

/-- R175 and R209: frames and held places together take at most eight places, at most one notice stands, and the
places without it are at most seven, so that a notice finds a place. -/
def ReportQueueOk (r : Rif) : Prop :=
  r.reportQ.length + r.held ≤ 8 ∧ (r.reportQ.filter ReportEntry.isNotice).length ≤ 1 ∧
    (r.reportQ.filter fun x => !x.isNotice).length + r.held ≤ 7

/-- R205: the transit buffer holds at most two frames. -/
def TransitOk (r : Rif) : Prop := r.transitUse ≤ 2

/-- R186 and R189: the pre-trigger buffer holds at most 256 sets and the write buffer at most 16 words; record
memory is in canonical form. -/
def RecorderOk (d : Drc) : Prop :=
  memWf d.mem = true ∧ d.writeBuf.length ≤ 16 ∧ ∀ b, d.state = .armed b → b.length ≤ 256

/-- R111: TT_REQ and pending are not set together; the failed mark is present, and T_tt runs, only while a
request is in flight. -/
def HandshakeOk (h : Handshake) : Prop :=
  ¬(h.ttReq = true ∧ h.pending = true) ∧ (h.failed = true → h.inFlight = true) ∧
    (h.timer.isSome = true → h.inFlight = true)

/-- R147: the rectifier is in PHASE_BACK only while its phase-back request set is not empty. -/
def PhaseBackOk (r : Rcu) : Prop := r.state = .phaseBack → pbEmpty r.pbSet = false

/-- The feeder that a slot holds TESTING: CONTACT, SETTLE, WINDOW, or RELEASE with a pending outcome (R79). -/
def heldFeeder (ph : TestPhase) : Option Feeder :=
  match ph with
  | .free => none
  | .contact f _ => some f
  | .settle f _ => some f
  | .window f _ _ _ _ => some f
  | .release f _ (some _) => some f
  | .release _ _ none => none

/-- A feeder's test as a slot runs it, or the release that follows it. -/
def slotFeeder (ph : TestPhase) : Option Feeder :=
  match ph with
  | .free => none
  | .contact f _ => some f
  | .settle f _ => some f
  | .window f _ _ _ _ => some f
  | .release f _ _ => some f

/-- R79 and R80: the queue holds feeders in TEST_WAIT, each once; a slot holds a feeder that is TESTING, a RELEASE
with none one that is not, and the two slots different ones; a feeder in TESTING is held by a slot, and one in TEST_WAIT
is queued or has the outcome of a dead bus waiting for its row (R83, log entry 26); at most two feeders are TESTING; and
no test stands before the part runs. -/
structure TestsOk (s : State) : Prop where
  queuedOnce : s.ltu.queue.Nodup
  queued : ∀ f ∈ s.ltu.queue, s.fct[f].state = .testWait ∧ s.fct[f].outcomeIn = []
  held : ∀ (k : TestSlot) (f : Feeder), heldFeeder s.ltu.slot[k] = some f →
    s.fct[f].state = .testing ∧ s.fct[f].outcomeIn = []
  released : ∀ (k : TestSlot) (f : Feeder) (n : Nat), s.ltu.slot[k] = .release f n none →
    s.fct[f].state ≠ .testing
  apart : ∀ f : Feeder, slotFeeder s.ltu.slot[0] = some f → slotFeeder s.ltu.slot[1] ≠ some f
  waiting : ∀ f : Feeder, s.fct[f].state = .testWait → f ∈ s.ltu.queue ∨ s.fct[f].outcomeIn ≠ []
  testing : ∀ f : Feeder, s.fct[f].state = .testing →
    ∃ k : TestSlot, heldFeeder s.ltu.slot[k] = some f
  handed : ∀ f : Feeder, s.fct[f].outcomeIn ≠ [] →
    s.fct[f].state = .testWait ∧ s.fct[f].outcomeIn.length = 1
  atMostTwo : (allFeeders.countP fun f => decide (s.fct[f].state = .testing)) ≤ 2
  atRest : s.phase ≠ .running → s.ltu.queue = [] ∧ ∀ k : TestSlot, s.ltu.slot[k] = .free

/-- The invariant: every queue, buffer and flag in the form its rule gives, at least as many places held in the
REPORT queue as requests waiting (R215), and the tests of R79. -/
structure Inv (s : State) : Prop where
  events : EventQueueOk s.evr
  orders : OrderQueueOk s.rif
  links : LinkQueueOk s.rif
  reports : ReportQueueOk s.rif
  transit : TransitOk s.rif
  requests : s.mga.requests.length ≤ s.rif.held
  recorder : RecorderOk s.drc
  handshakes : ∀ f : Feeder, HandshakeOk s.sco.sect[f].hs
  phaseBack : PhaseBackOk s.rcu
  tests : TestsOk s

/-! ### What a command leaves as it stands -/

/-- t is u but for what reporting brings: records and a notice copy in the event queue's block, and a notice in
the REPORT queue. Every other field, record memory included, is u's. -/
def SameButReports (u t : State) : Prop :=
  t = { u with evr := t.evr, rif := { u.rif with reportQ := t.rif.reportQ } }

/-- The event queue of t is that of e, but for the carried copy of a notice. -/
def QueueIs (t : State) (e : Evr) : Prop := t.evr = { e with notice := t.evr.notice }

/-- The NOTICE frame of the copy `m` with the counter `ms` and the next sequence number `seq`, sent by u to node `n`
(R175, R212). -/
def noticeTo (u : State) (n : Nat) (m : Summary) (ms seq : Nat) : Frame :=
  makeFrame u.rif.node n 11 (summaryBytes m ++ be32 ms ++ be16 seq)

/-- The notice copy and the REPORT queue of t are those of u, or one notice has been built: none was outstanding, the
control gateway node is set and no strap fault stands, the copy is kept and the frame that carries it takes the
notice's place (R174, R175, R209). -/
def OneNoticeAtMost (u t : State) : Prop :=
  (t.evr.notice = u.evr.notice ∧ t.rif.reportQ = u.rif.reportQ) ∨
    (u.evr.notice = none ∧ u.rif.strapFault = false ∧ ∃ (n : Nat) (copy : Summary) (seq : Nat),
      u.tables.station.gateway = some n ∧ t.evr.notice = some copy ∧
      t.rif.reportQ = (u.rif.putNotice (noticeTo u n copy u.evr.ms seq)).reportQ)

/-- t is u but for what reporting brings, with these events taken in this order (kind, subject, cause, value),
nothing else in the event queue, and one notice at most. -/
def Reports (u t : State) (posts : List (EventKind × Subject × Option Cause × Option Int)) : Prop :=
  SameButReports u t ∧
    QueueIs t (posts.foldl (fun e x => e.take x.1 x.2.1 x.2.2.1 x.2.2.2) u.evr) ∧ OneNoticeAtMost u t

/-- t is u after the change of the summary from `old` has been taken: no more when it did not change, while a notice is
outstanding, without a control gateway node or in a strap fault; otherwise the notice of u's summary, with the counter
and the next sequence number of u (R174, R175). -/
def Noticed (old : Summary) (u t : State) : Prop :=
  (old = u.summary ∨ u.evr.notice ≠ none ∨ u.tables.station.gateway = none ∨ u.rif.strapFault = true → t = u) ∧
    (∀ n, old ≠ u.summary → u.evr.notice = none → u.tables.station.gateway = some n →
      u.rif.strapFault = false → t = { u with
        evr := { u.evr with notice := some u.summary }
        rif := u.rif.putNotice (noticeTo u n u.summary u.evr.ms u.evr.nextSeq) })

/-- s and t differ at most in what reports, deliveries, timers and notices of the blocks act on: the phase, the
waiting commands, the counts of ticks, the settings, the mapper, the agent, the link states, the millisecond counter
and the ring interface but for the ORDER and REPORT queues are as they stood. -/
structure Untouched (s t : State) : Prop where
  phase : t.phase = s.phase
  pending : t.pending = s.pending
  clock : t.clock = s.clock
  tables : t.tables = s.tables
  smp : t.smp = s.smp
  mga : t.mga = s.mga
  link : t.sco.link = s.sco.link
  ms : t.evr.ms = s.evr.ms
  rif : t.rif = { s.rif with orderQ := t.rif.orderQ, reportQ := t.rif.reportQ,
                             orderDiscard := t.rif.orderDiscard }

/-- The newest record of the event queue is this event, stamped with the counter as it stands (R168, R169). -/
def Newest (t : State) (kind : EventKind) (subject : Subject) (cause : Option Cause)
    (value : Option Int) : Prop :=
  ∃ seq, t.evr.events.getLast? = some { seq := seq, time := t.evr.ms, kind := kind, subject := subject,
                                        cause := cause, value := value }

/-! ### The controller's record on entry to a state (R56: what is not present for the state is absent) -/

def serviceRecord (c : Fct) (r : FeederRec) : Fct :=
  { c with state := .service, timer := some (400 * r.reclaim), opClose := false, openingCause := none,
           opOpen := false, ttFail := false, pbRaised := false, lockCause := none, outcomeIn := [] }

def outRecord (c : Fct) : Fct :=
  { c with state := .out, attempts := 0, timer := none, opClose := false, openingCause := none,
           opOpen := false, ttFail := false, pbRaised := false, lockCause := none, outcomeIn := [] }

def lockoutRecord (c : Fct) (cause : Cause) : Fct :=
  { c with state := .lockout, lockCause := some cause, timer := none, opClose := false,
           openingCause := none, opOpen := false, ttFail := false, pbRaised := false, outcomeIn := [] }

def openingRecord (c : Fct) (r : FeederRec) (cause : Cause) : Fct :=
  { c with state := .opening, openingCause := some cause, timer := some (4 * r.tOpen), opClose := false,
           opOpen := false, ttFail := false, lockCause := none, outcomeIn := [] }

def closingRecord (c : Fct) (r : FeederRec) : Fct :=
  { c with state := .closing, timer := some (4 * r.tClose), opClose := false, opOpen := false,
           ttFail := false, pbRaised := false, lockCause := none, outcomeIn := [] }

def deadTimeRecord (c : Fct) (r : FeederRec) (attempts : Nat) : Fct :=
  { c with state := .deadTime, attempts := attempts, timer := some (400 * r.deadTime), opClose := false,
           opOpen := false, ttFail := false, pbRaised := false, lockCause := none, outcomeIn := [] }

def followRecord (c : Fct) (r : FeederRec) : Fct :=
  { c with state := .follow, timer := some (400 * r.followTimeout), opClose := false, opOpen := false,
           ttFail := false, pbRaised := false, lockCause := none, outcomeIn := [] }

def testWaitRecord (c : Fct) (operator : Bool) (attempts : Nat) : Fct :=
  { c with state := .testWait, attempts := attempts, timer := none, opClose := operator, opOpen := false,
           ttFail := false, pbRaised := false, lockCause := none }

/-- A trip context record after a trip notice that would write `x` (R44). -/
def contextAfter (old : Option TripContext) (x : TripContext) : Option TripContext :=
  match old with
  | none => some x
  | some o => some { o with further := min 255 (o.further + 1) }

/-- The last position a controller holds; none while the status is unknown (R52). -/
def lastPosition (c : Fct) : Option Position := c.status.map BreakerStatus.position

/-! ### The end of the load, R227 -/

/-- What every block takes from the tables `img` at the end of the load: the feeders in use UNKNOWN with their
supervision timers running (R77), the rectifier OFF with adoption pending (R152), TEST_OFF handed for every in-use
feeder with a breaker node (R96), new periods (log entry 20), and nothing else. -/
def LoadedFrom (s t : State) (img : Tables) (unconfigured : Bool) : Prop :=
  (∀ f : Feeder, t.fct[f] =
    if img.feeder[f].inUse then { Fct.reset with state := .unknown, supTimer := some 2000 } else Fct.reset) ∧
  t = { s with
    phase := .running
    tables := img
    fct := t.fct
    rcu := { Rcu.reset with supTimer := some 2000 }
    clock := { s.clock with control := 0, thermal := 0, link := 0 }
    mga := { s.mga with unconfigured := unconfigured }
    rif := allFeeders.foldl (fun r f =>
      match img.feeder[f].inUse, img.feeder[f].breakerNode with
      | true, some m => r.putOrder (.breaker m) (makeFrame r.node m 4 [4])
      | _, _ => r) s.rif }

/-! ### The rectifier's gate orders and states (R129, R150) -/

/-- s with a gate order handed under the gate place: none while adoption is pending or the gate driver node is none
(R129). -/
def gateSent (s : State) (alpha : Int) (block acClosed : Bool) : State :=
  { s with rif :=
    match s.tables.regulator.gateNode with
    | none => s.rif
    | some m =>
      if s.rcu.adoption = true then s.rif
      else s.rif.putOrder .gate (makeFrame s.rif.node m 6
        (gatePayload { alpha := alpha, block := block, acClosed := acClosed })) }

/-- t is u after the rectifier has entered a state: the cause and the state timer of that state, the overcurrent run
at 0 in OFF, BLOCKED and TRIPPED (R134), last α 9000 and the AC low mark clear in REGULATING (R131, R142, R148),
RECT_STATE, and the gate order of entry (R129). -/
def RectEntered (u t : State) (st : RectState) (cause : Option Cause) (timer : Option Nat) : Prop :=
  Reports (gateSent { u with rcu := { u.rcu with
      state := st
      cause := cause
      timer := timer
      ocRun := if st ∈ [.off, .blocked, .tripped] then 0 else u.rcu.ocRun
      lastAlpha := if st = .regulating then 9000 else u.rcu.lastAlpha
      acLow := if st = .regulating then false else u.rcu.acLow } }
      (if st = .phaseBack then (u.tables.regulator.alphaPb : Int) else 9000)
      (decide (st ∉ [.regulating, .phaseBack])) (decide (st ∈ [.starting, .regulating, .phaseBack])))
    t [(.rectState, .station, cause, some (st.code : Int))]

/-! ### A station trip notice, R74 -/

/-- What the controller of an in-use feeder g of s shows in t after a station trip notice. -/
def StationNoticed (s t : State) (g : Feeder) : Prop :=
  match s.fct[g].state with
  | .out => t.fct[g].state = .out
  | .lockout => t.fct[g].state = .lockout ∧ t.fct[g].lockCause = s.fct[g].lockCause
  | .opening => t.fct[g].state = .opening ∧ t.fct[g].openingCause = some .station ∧
      t.fct[g].timer = s.fct[g].timer
  | .testWait => t.fct[g].state = .lockout ∧ t.fct[g].lockCause = some .station
  | .testing => t.fct[g].state = .lockout ∧ t.fct[g].lockCause = some .station
  | .deadTime => t.fct[g].state = .lockout ∧ t.fct[g].lockCause = some .station
  | .follow => t.fct[g].state = .lockout ∧ t.fct[g].lockCause = some .station
  | _ =>
    if lastPosition s.fct[g] = some .opened then
      t.fct[g].state = .lockout ∧ t.fct[g].lockCause = some .station
    else t.fct[g].state = .opening ∧ t.fct[g].openingCause = some .station ∧
      t.fct[g].timer = some (4 * s.tables.feeder[g].tOpen)

/-! ### Leaving a test, R92, R93 -/

/-- u is s after feeder f has left its place: it is in the queue no more, a test that runs for it in a slot ends in a
RELEASE with none of 200 ms, a release loses its pending outcome, and no outcome waits for it (log entry 26). -/
def LeftPlace (s u : State) (f : Feeder) : Prop :=
  u = { s with
    fct := s.fct.set f { s.fct[f] with outcomeIn := [] }
    ltu := { queue := s.ltu.queue.filter (fun g => decide (g ≠ f)), slot := u.ltu.slot } } ∧
  ∀ k : TestSlot, u.ltu.slot[k] = match s.ltu.slot[k] with
    | .free => .free
    | .contact g n => if g = f then .release f 800 none else .contact g n
    | .settle g n => if g = f then .release f 800 none else .settle g n
    | .window g w n a b => if g = f then .release f 800 none else .window g w n a b
    | .release g n o => if g = f then .release f n none else .release g n o

/-- t is u after an examination of the head when `due`, and u otherwise (R81). -/
def ExaminedIf (due : Prop) (u t : State) : Prop := (due → t = u.examineHead) ∧ (¬ due → t = u)

/-! ### The conditions of reclosing, R54, R64, R67 -/

/-- The feeder is closable and its thermal hold has passed (R54, R64, R67). -/
def MayClose (s : State) (f : Feeder) : Prop :=
  s.fct[f].supervised = true ∧ (∃ b, s.fct[f].status = some b ∧ b.ready = true ∧ b.localOp = false) ∧
    s.smp.points[f.val].sighted = true ∧
    (s.fct[f].openingCause = some .thermal → s.fpu[f].theta < s.tables.feeder[f].thetaAlarm)

/-- The line is live and the coupled far end reports its feeder closed (R64, R67). -/
def FarHolds (s : State) (f : Feeder) : Prop :=
  s.smp.points[f.val + 10].sighted = true ∧
    (s.tables.feeder[f].vLive : Int) ≤ s.smp.points[f.val + 10].last ∧ s.sco.sect[f].coupled = true ∧
    ∃ e, s.sco.sect[f].far = some e ∧ e.closed = true

/-- t is s after the close order of feeder f and its entry to CLOSING (R66). -/
def ClosingBegun (s t : State) (f : Feeder) : Prop :=
  Reports { s.sendOrder f .close with
    fct := s.fct.set f (closingRecord s.fct[f] s.tables.feeder[f]) } t []

/-- t is s after the holds of DEAD_TIME are examined: nothing while the dead time runs or a hold stands, CLOSING on a live
line whose far end is closed, and otherwise TEST_WAIT at the tail of the test queue (R64, R80). -/
def HoldsExamined (s t : State) (f : Feeder) : Prop :=
  (¬ (s.fct[f].state = .deadTime ∧ s.fct[f].timer = none ∧ MayClose s f) → t = s) ∧
    (s.fct[f].state = .deadTime → s.fct[f].timer = none → MayClose s f →
      (FarHolds s f → ClosingBegun s t f) ∧
      (¬ FarHolds s f → ∃ u : State, Reports { s with
          fct := s.fct.set f (testWaitRecord s.fct[f] false s.fct[f].attempts)
          ltu := { s.ltu with queue := s.ltu.queue ++ [f] } } u [] ∧
        ExaminedIf ((s.ltu.queue ++ [f]).head? = some f) u t))

/-- t is s after the close condition of FOLLOW is examined (R67). -/
def FollowExamined (s t : State) (f : Feeder) : Prop :=
  (¬ (s.fct[f].state = .follow ∧ FarHolds s f ∧ MayClose s f) → t = s) ∧
    (s.fct[f].state = .follow → FarHolds s f → MayClose s f → ClosingBegun s t f)

/-! ### Loss notices, R73 and R90 -/

/-- t is s after slot k has taken the loss notice of point p, a line voltage or the bus voltage: a running test of a feeder
that uses the point ends INCONCLUSIVE with TEST_OFF (R88, R90). -/
def TestLost (s t : State) (p : Point) (k : TestSlot) : Prop :=
  (∀ f : Feeder, s.ltu.slot[k].testing = some f → (p.val = 20 ∨ p.val = f.val + 10) →
    t = State.sendOrder { s with ltu := { s.ltu with slot :=
      (s.ltu.slot.set k (.release f 800 (some { kind := .inconclusive, rLine := none }))) } } f .testOff) ∧
  ((∀ f : Feeder, s.ltu.slot[k].testing = some f → p.val ≠ 20 ∧ p.val ≠ f.val + 10) → t = s)

/-- t is s after the controller of feeder f has taken the loss of its current point by its blind action and its state
(R73): with OPEN it opens without a trip from SERVICE and CLOSING, and locks a pending feeder out, withdrawn as by
FEEDER_OPEN. -/
def BlindActed (s t : State) (f : Feeder) : Prop :=
  let c : Fct := s.fct[f]
  let acts : Prop := s.tables.feeder[f].blindOpen = true
  (¬ acts ∨ c.state ∈ [.unknown, .opening, .out, .lockout] → t = s) ∧
  (acts → c.state ∈ [.service, .closing] → Reports { s.sendOrder f .opened with
    fct := s.fct.set f (openingRecord c s.tables.feeder[f] .blind) } t []) ∧
  (acts → c.state ∈ [.testWait, .testing, .deadTime, .follow] → ∃ u : State,
    u = (if c.state = .testWait then s.ltuWithdraw f
      else if c.state = .testing then (s.sendOrder f .testOff).ltuWithdraw f else s) ∧
    Reports { u with fct := u.fct.set f (lockoutRecord c .blind) } t
      [(.lockout, .feeder f, some .blind, some (c.attempts : Int))])

/-! ### A breaker status report, R52, R57 to R67, R73, R84 to R88 -/

/-- t is s after feeder f enters SERVICE with this attempt counter and posts these events, and after the blind action
when its current point is LOST and its record says OPEN (R73). -/
def ServiceEntered (s t : State) (f : Feeder) (attempts : Nat)
    (posts : List (EventKind × Subject × Option Cause × Option Int)) : Prop :=
  let c : Fct := { serviceRecord s.fct[f] s.tables.feeder[f] with attempts := attempts }
  (s.smp.points[f.val].sighted = true ∨ s.tables.feeder[f].blindOpen = false →
    Reports { s with fct := s.fct.set f c } t posts) ∧
  (s.smp.points[f.val].sighted = false → s.tables.feeder[f].blindOpen = true →
    Reports { s.sendOrder f .opened with
      fct := s.fct.set f (openingRecord c s.tables.feeder[f] .blind) } t posts)

/-- t is s after the controller of feeder f has taken a position by its state; s holds the report already (R52). -/
def PositionTaken (s t : State) (f : Feeder) (p : Position) : Prop :=
  let c : Fct := s.fct[f]
  let closed (n : Nat) : EventKind × Subject × Option Cause × Option Int :=
    (.feederClosed, .feeder f, none, some (n : Int))
  match p with
  | .closed =>
    (c.state = .unknown → ServiceEntered s t f 0 []) ∧
    (c.state = .out → ServiceEntered s t f 0 [closed 0]) ∧
    (c.state ∈ [.closing, .deadTime, .follow] → ServiceEntered s t f c.attempts [closed c.attempts]) ∧
    (c.state ∈ [.testWait, .testing] → ∃ u : State,
      u = (if c.state = .testing then (s.sendOrder f .testOff).ltuWithdraw f else s.ltuWithdraw f) ∧
      ServiceEntered u t f c.attempts [closed c.attempts]) ∧
    (c.state ∈ [.service, .opening, .lockout] → t = s)
  | .opened =>
    (c.state = .unknown → Reports { s with fct := s.fct.set f { outRecord c with attempts := c.attempts } } t []) ∧
    (c.state = .service → Reports { s with fct := s.fct.set f (outRecord c) } t
      [(.feederOpened, .feeder f, none, none)]) ∧
    (c.state = .opening → t = s.openingCompletes f) ∧
    (c.state = .deadTime → HoldsExamined s t f) ∧
    (c.state = .follow → FollowExamined s t f) ∧
    (c.state ∈ [.out, .testWait, .testing, .closing, .lockout] → t = s)
  | .travel =>
    (c.state = .deadTime → HoldsExamined s t f) ∧
    (c.state = .follow → FollowExamined s t f) ∧
    (c.state ∉ [.deadTime, .follow] → t = s)

/-- t is s after these events and the taking of outcome o by the controller of feeder f: no change of its state outside
TEST_WAIT and TESTING, and there what R65 gives the kind it counts, with the event of that. PASS and LIVE count while the
current point is SIGHTED, LIVE while the section is coupled and the far end reports its feeder closed too. -/
def OutcomeTaken (s t : State) (f : Feeder) (o : TestOutcome)
    (first : List (EventKind × Subject × Option Cause × Option Int)) : Prop :=
  let c : Fct := s.fct[f]
  let r : FeederRec := s.tables.feeder[f]
  let live : Prop := s.sco.sect[f].coupled = true ∧ s.sco.sect[f].far.any SectionEntry.closed = true
  let closes : Prop := s.smp.points[f.val].sighted = true ∧ (o.kind = .pass ∨ (o.kind = .live ∧ live))
  let ends (after : Fct) (post : EventKind × Subject × Option Cause × Option Int) : Prop :=
    Reports { s with fct := s.fct.set f after } t (first ++ [post])
  (c.state ∉ [.testWait, .testing] → Reports s t first) ∧
  (c.state ∈ [.testWait, .testing] →
    (closes → Reports { s.sendOrder f .close with fct := s.fct.set f (closingRecord c r) } t first) ∧
    (¬ closes → ∀ why : Cause, why = (if o.kind = .fail then .fail else .inconclusive) →
      (c.opClose = true → ends { outRecord c with attempts := c.attempts } (.testFail, .feeder f, some why,
        if o.kind = .fail then o.rLine.map (fun n => (n : Int)) else none)) ∧
      (c.opClose = false → c.attempts < r.attempts → ends (deadTimeRecord c r (c.attempts + 1))
        (.recloseStart, .feeder f, some why, some ((c.attempts + 1 : Nat) : Int))) ∧
      (c.opClose = false → r.attempts ≤ c.attempts → ends (lockoutRecord c .recloseExhausted)
        (.lockout, .feeder f, some .recloseExhausted, some (c.attempts : Int)))))

/-- t is s after slot k becomes FREE and its pending outcome, when there is one, is handed with LINE_TEST_RESULT and taken
by the controller, before the head is examined (R65, R88, R94; log entry 26). -/
def SlotFreed (s t : State) (k : TestSlot) (f : Feeder) (pending : Option TestOutcome) : Prop :=
  let u : State := { s with ltu := { s.ltu with slot := s.ltu.slot.set k .free } }
  (pending = none → t = u) ∧
  (∀ o, pending = some o → OutcomeTaken u t f o [(.lineTestResult, .feeder f, some (match o.kind with
      | .pass => .pass
      | .fail => .fail
      | .live => .live
      | .inconclusive => .inconclusive), o.rLine.map fun n => (n : Int))])

/-- t is s after slot k has taken the test contactor field of a report of feeder f (R84 to R88); `before` is the slot as
the report found it (log entry 15). -/
def ContactorTaken (s t : State) (before : TestPhase) (f : Feeder) (on : Bool) (k : TestSlot) : Prop :=
  let slot (ph : TestPhase) : State := { s with ltu := { s.ltu with slot := s.ltu.slot.set k ph } }
  (∀ n, s.ltu.slot[k] = .contact f n → on = true → t = slot (.settle f (4 * s.tables.feeder[f].settle))) ∧
  (((∃ n, s.ltu.slot[k] = .settle f n) ∨ ∃ w n a b, s.ltu.slot[k] = .window f w n a b) → on = false →
    t = (slot (.release f 800 (some { kind := .inconclusive, rLine := none }))).sendOrder f .testOff) ∧
  (∀ n o, s.ltu.slot[k] = .release f n o → on = false →
    ((∃ m x, before = .release f m x) → ∃ u : State, SlotFreed s u k f o ∧ t = u.examineHead) ∧
    ((∀ m x, before ≠ .release f m x) → t = s)) ∧
  (slotFeeder s.ltu.slot[k] ≠ some f ∨
    (on = true ∧ ∀ n, s.ltu.slot[k] ≠ .contact f n) ∨ (on = false ∧ ∃ n, s.ltu.slot[k] = .contact f n) → t = s)

/-! ### The section state and its readers, R67, R81, R91, R104, R110 -/

/-- The feeders with a section on slot n, in the order of their numbers. -/
def sectionsOf (s : State) (n : Slot) : List Feeder :=
  allFeeders.filter fun f => s.tables.feeder[f].inUse && decide (s.tables.feeder[f].secNo ≠ 0) &&
    decide (slotOf s.tables.feeder[f] = n)

/-- What R110 reports of a section: coupled, double fed and bank, and its far-end values. -/
def reportedSection (s : State) (f : Feeder) : Bool × Bool × Bank × List Bool :=
  let x := s.sco.sect[f]
  (x.coupled, x.doubleFed, x.bank,
    [x.far.any SectionEntry.coupled, x.far.any SectionEntry.testEnd, x.far.any SectionEntry.closed,
      x.far.any SectionEntry.testActive, x.far.any SectionEntry.lineLive,
      x.far.isSome && s.sco.link[slotOf s.tables.feeder[f]].last.any NeighbourFrame.busLive])

/-- s after the section state of feeder f has been reported to its controller and then to the line test unit, when it
differs from that of `old` (R110). -/
def reportedFrom (old s : State) (f : Feeder) : State :=
  if reportedSection old f = reportedSection s f then s else (s.fctSection f).ltuSection f

/-- t is s after slot k has yielded its running test of feeder f (R91): a RELEASE with none, TEST_OFF, TEST_WAIT at the
tail of the queue, and LINE_TEST_RESULT with cause YIELDED. -/
def YieldTaken (s t : State) (f : Feeder) (k : TestSlot) : Prop :=
  (s.ltu.slot[k].testing ≠ some f → t = s) ∧
  (s.ltu.slot[k].testing = some f → ∃ u v : State, Reports { s.sendOrder f .testOff with
      fct := (s.fct.set f (testWaitRecord s.fct[f] s.fct[f].opClose s.fct[f].attempts))
      ltu := { queue := s.ltu.queue ++ [f], slot := s.ltu.slot.set k (.release f 800 none) } } u [] ∧
    ExaminedIf ((s.ltu.queue ++ [f]).head? = some f) u v ∧
    Reports v t [(.lineTestResult, .feeder f, some .yielded, none)])

/-- t is s after slot n has gone DOWN (R104): the handshakes of its sections cleared with cause LINK, their far-end
reports absent, coupling, double feed and bank evaluated anew, the changed section states reported, and LINK_DOWN. -/
def SlotDown (s t : State) (n : Slot) (cause : Cause) (last : Option NeighbourFrame) : Prop :=
  ∃ s1 s2 s3 : State,
    Reports { s with sco := { s.sco with
      link := s.sco.link.set n { up := false, timer := none, last := last } } } s1 [] ∧
    s2 = (sectionsOf s n).foldl (fun x f => x.clearHandshake f .link) s1 ∧
    s3 = { s2 with sco := { s2.sco with sect := s3.sco.sect } } ∧
    (∀ f : Feeder, s3.sco.sect[f] =
      if f ∈ sectionsOf s n then { s2.sco.sect[f] with far := none } else s2.sco.sect[f]) ∧
    Reports ((sectionsOf s n).foldl (fun x f => reportedFrom s x f)
      ((sectionsOf s n).foldl (fun x f => x.reevaluate f) s3)) t
      [(.linkDown, .slot n, some cause, some (s.tables.neighbour[n].stationId : Int))]

/-! ### What a station trip hands each feeder, R74 -/

/-- t is s after the controller of feeder f has taken a station trip notice: by the state, a trip of cause STATION with
its orders, its event and its context record, the opening cause, the withdrawal to LOCKOUT, or OPEN sent again. -/
def StationNoticeTaken (s t : State) (f : Feeder) : Prop :=
  let c : Fct := s.fct[f]
  let noted : Vector Fpu 10 := s.fpu.set f { s.fpu[f] with context := (contextAfter s.fpu[f].context
    { cause := .station, time := s.evr.ms, bank := s.sco.sect[f].bank, current := s.smp.points[f.val].last
      delta := none, t := none, theta := none, secNo := none, further := 0 }) }
  (c.state ∈ [.unknown, .service, .closing] → ∃ u w : State,
    Reports { s.sendOrder f .opened with fpu := noted } u
      [(.feederTrip, .feeder f, some .station, some s.smp.points[f.val].last)] ∧
    Reports { u with fct := (u.fct.set f { openingRecord u.fct[f] s.tables.feeder[f] .station with
      timer := if lastPosition c = some .opened then none else some (4 * s.tables.feeder[f].tOpen) }) } w [] ∧
    t = (if lastPosition c = some .opened then w.openingCompletes f else w)) ∧
  (c.state = .opening →
    Reports { s with fct := s.fct.set f { c with openingCause := some .station }, fpu := noted } t []) ∧
  (c.state ∈ [.testWait, .testing, .deadTime, .follow] → ∃ u : State,
    u = (if c.state = .testWait then s.ltuWithdraw f
      else if c.state = .testing then (s.sendOrder f .testOff).ltuWithdraw f else s) ∧
    Reports { u with fct := u.fct.set f (lockoutRecord c .station) } t
      [(.lockout, .feeder f, some .station, some (c.attempts : Int))]) ∧
  (c.state = .lockout →
    t = (if lastPosition c = some .closed ∨ lastPosition c = some .travel then s.sendOrder f .opened else s)) ∧
  (c.state = .out → t = s)

/-- s after a station trip notice to every in-use feeder in the order of the numbers (R158, R160). -/
def noticesGiven (s : State) : State :=
  allFeeders.foldl (fun x f => if s.tables.feeder[f].inUse then x.stationNotice f else x) s

/-! ### Frames and requests as the statements meet them -/

/-- The rows that stand for an arriving frame of a kind, each with its kind code. -/
def frameRows (fr : RxFrame) : List (Instr × Byte) :=
  [(.sampleFrame fr, 1), (.timeFrame fr, 2), (.breakerStatusFrame fr, 3), (.rectStatusFrame fr, 5),
    (.linkInFrame fr, 7), (.requestFrame fr, 9)]

/-- The arriving frame of a frame row, with its kind code; none for bytes fewer than six and for other rows. -/
def frameOf (c : Instr) : Option (Byte × RxFrame) :=
  match c with
  | .sampleFrame fr => some (1, fr)
  | .timeFrame fr => some (2, fr)
  | .breakerStatusFrame fr => some (3, fr)
  | .rectStatusFrame fr => some (5, fr)
  | .linkInFrame fr => some (7, fr)
  | .requestFrame fr => some (9, fr)
  | .ringFrameReceived bytes => splitFrame bytes
  | _ => none

/-- The frame fails a test of R199: a length field above 120, a number of bytes that is not 6 plus the length field, or
a check that is not the computed one. -/
def isBad (kind : Byte) (fr : RxFrame) : Prop :=
  120 < fr.len.toNat ∨ fr.payload.length ≠ fr.len.toNat ∨
    fr.check ≠ frameCheck fr.dest fr.src kind fr.len fr.payload

/-- s with the frame forwarded as received: in the transit buffer, or dropped and counted when two frames hold it
(R205). -/
def forwarded (s : State) (kind : Byte) (fr : RxFrame) : State :=
  { s with rif :=
    if s.rif.transitUse < 2 then
      { s.rif with transit := s.rif.transit ++
        [{ dest := fr.dest, src := fr.src, kind := kind, payload := fr.payload, check := fr.check }] }
    else { s.rif with transitDrop := satInc 65535 s.rif.transitDrop } }

/-- The malformed count one higher, up to 65535 (R201 to R203). -/
def countedMalformed (s : State) : State :=
  { s with rif := { s.rif with malformed := satInc 65535 s.rif.malformed } }

/-- The rows that serve a request, each with its operation and its object codes (R220, section 11.4). -/
def requestRows : List (Instr × Nat × List Nat) :=
  [(.stationWrite, 2, [1]), (.mapPointWrite, 2, [2]), (.mapRangeWrite, 2, [3]), (.feederWrite, 2, [4]),
    (.bankWrite, 2, [5, 6]), (.neighbourWrite, 2, [7]), (.regulatorWrite, 2, [8]), (.curveWrite, 2, [9]),
    (.recorderWrite, 2, [10]), (.chainWrite, 2, [11]), (.mapperStatusRead, 1, [16]),
    (.ringStatusRead, 1, [26]), (.readSummary, 1, [27]), (.readEvents, 1, [28]), (.readRecord, 1, [29]),
    (.feederOpen, 3, [32]), (.feederClose, 3, [33]), (.feederReset, 3, [34]), (.clearContext, 3, [35]),
    (.rectStart, 3, [36]), (.rectStop, 3, [37]), (.rectReset, 3, [38]), (.setSetpoint, 3, [39]),
    (.stationReset, 3, [40]), (.emergencyOpen, 3, [41]), (.setMode, 3, [42]), (.setTime, 3, [43]),
    (.ackEvents, 3, [44]), (.ackNotice, 3, [45]), (.recArm, 3, [46]), (.recDisarm, 3, [47]),
    (.recTrigger, 3, [48]), (.store, 3, [49]), (.restart, 3, [50])]

/-- A good frame of a kind whose payload fits arrives while the part runs without a strap fault, and it is
addressed to the part by another node (R199, R201, R203). -/
structure ForPart (s : State) (kind : Byte) (fr : RxFrame) : Prop where
  running : s.phase = .running
  straps : s.rif.strapFault = false
  good : frameGood kind fr = true
  own : fr.src.toNat ≠ s.rif.node
  source : fr.src.toNat ≠ 0 ∧ fr.src.toNat ≠ 255
  dest : fr.dest.toNat = s.rif.node
  fits : payloadFits kind.toNat fr.payload = true

/-- The request at the head of the list is r, of this operation on this object, and it passes the agent's checks
(R216) while the part runs. -/
structure Granted (s : State) (r : Request) (op obj : Nat) : Prop where
  running : s.phase = .running
  head : s.mga.requests.head? = some r
  op : r.op = op
  obj : r.obj = obj
  passes : s.agentRefusal r = none

/-- s with the request at the head taken off the list. -/
def popped (s : State) : State := { s with mga := { s.mga with requests := s.mga.requests.drop 1 } }

/-- The command serves r: the response carries this status and data and takes the place held for it, u is the part
before the response is placed, with r off the list, and the list is then served up to its next request with a row
(R215; log entry 7). -/
def Serves (c : Instr) (s : State) (r : Request) (st : Status) (data : List Byte) (u : State) : Prop :=
  exec c s = .next (u.respond r st data).settle

/-- The role that a served write or setpoint is reported with (R217, R222). -/
def writerOf (s : State) (r : Request) : Cause :=
  if s.mga.unconfigured then .panel
  else if s.tables.station.panel = some r.src then .panel
  else .control

/-- A write served: refused with the status of the first failing check and no effect, or accepted, with v what the
blocks leave, these tables, and SETTINGS_CHANGED with the requester's role and the object and index (R222). -/
def Written (c : Instr) (s : State) (r : Request) (refusal : Option Status) (tables : Tables)
    (leaves : State → Prop) : Prop :=
  (∀ st, refusal = some st → Serves c s r st [] (popped s)) ∧
    (refusal = none → ∃ v u : State, leaves v ∧ v.tables = tables ∧ Serves c s r .ok [] u ∧
      Reports v u [(.settingsChanged, .station, some (writerOf s r), some ((r.obj * 256 + r.index : Nat) : Int))])

/-! ### The answers of plain reads, R221 and section 11.3 (log entry 9) -/

/-- A yes/no, set/clear or raised field as a number: 1 for yes. -/
def flagNum (b : Bool) : Int := if b then 1 else 0

/-- The fields of point status, R19. -/
def pointFields (s : State) (p : Point) : List StatusField :=
  let x := s.smp.points[p]
  [.plain [flagNum x.sighted], .plain [x.last], .maybe (x.ref.map fun n => [(n : Int)]),
    .maybe ((feedOf s.tables p.val).map fun y => [(y.1.1 : Int), (y.1.2 : Int)])]

/-- The fields of protection status, R46, the trip context record in the order of R43. -/
def protectionFields (s : State) (f : Feeder) : List StatusField :=
  let p := s.fpu[f]
  [.plain [flagNum s.tables.feeder[f].inUse], .plain [flagNum (!s.smp.points[f.val].sighted)],
    .plain [match s.sco.sect[f].bank with
      | .a => 0
      | .b => 1],
    .plain [(p.imaxRun : Int)], .plain [flagNum p.ddl.run.isSome], .maybe (p.ddl.iPrev.map fun i => [i]),
    .group (p.ddl.run.map fun r => [some [match r.bank with
      | .a => 0
      | .b => 1], some [r.base], some [(r.t : Int)], some [(r.low : Int)]]),
    .plain [(p.theta : Int)], .plain [flagNum p.alarmMark], .plain [flagNum p.tripMark],
    .group (p.context.map fun x => [some [(x.cause.code : Int)], some [(x.time : Int)],
      some [match x.bank with
        | .a => 0
        | .b => 1],
      some [x.current], x.delta.map fun d => [d], x.t.map fun n => [(n : Int)],
      x.theta.map fun n => [(n : Int)], x.secNo.map fun n => [(n : Int)], some [(x.further : Int)]])]

/-- A breaker position as a number: 0 OPEN, 1 CLOSED, 2 TRAVEL (R212). -/
def positionNum (p : Position) : Int :=
  match p with
  | .opened => 0
  | .closed => 1
  | .travel => 2

/-- The fields of feeder switching status, R76: a mark only in the states that have it (R56), the timer's name with its
rest in the unit of its setting, and whether the feeder is closable (R54). -/
def switchingFields (s : State) (f : Feeder) : List StatusField :=
  let c := s.fct[f]
  [.plain [(c.state.code : Int)],
    .group (c.status.map fun x => [some [positionNum x.position], some [flagNum x.ready],
      some [flagNum x.localOp], some [flagNum x.contactor]]),
    .plain [flagNum c.supervised], .plain [(c.attempts : Int)],
    .maybe (if c.state = .testWait ∨ c.state = .testing then some [flagNum c.opClose] else none),
    .maybe (if c.state = .opening then some [flagNum c.opOpen] else none),
    .maybe (if c.state = .opening then some [flagNum c.ttFail] else none),
    .maybe (c.openingCause.map fun x => [(x.code : Int)]), .maybe (c.lockCause.map fun x => [(x.code : Int)]),
    .plain [flagNum c.pbRaised],
    .maybe (c.timer.map fun n => match c.state with
      | .closing => [0, ((n / 4 : Nat) : Int)]
      | .opening => [1, ((n / 4 : Nat) : Int)]
      | .deadTime => [2, ((n / 400 : Nat) : Int)]
      | .service => [3, ((n / 400 : Nat) : Int)]
      | .follow => [4, ((n / 400 : Nat) : Int)]
      | _ => [5, ((n / 400 : Nat) : Int)]),
    .plain [flagNum (c.supervised && c.status.any (fun b => b.ready && !b.localOp) &&
      s.smp.points[f.val].sighted)]]

/-- The fields of one test slot, R95: phase, feeder, rest of its timer in milliseconds, the window's counts and sums, the
pending outcome. -/
def slotStatus (ph : TestPhase) : List StatusField :=
  match ph with
  | .free => [.plain [0], .maybe none, .maybe none, .group none, .group none]
  | .contact f n =>
    [.plain [1], .maybe (some [(f.val : Int)]), .maybe (some [((n / 4 : Nat) : Int)]), .group none, .group none]
  | .settle f n =>
    [.plain [2], .maybe (some [(f.val : Int)]), .maybe (some [((n / 4 : Nat) : Int)]), .group none, .group none]
  | .window f w n a b =>
    [.plain [3], .maybe (some [(f.val : Int)]), .maybe none,
      .group (some [some [(w : Int)], some [(n : Int)], some [a], some [b]]), .group none]
  | .release f n o =>
    [.plain [4], .maybe (some [(f.val : Int)]), .maybe (some [((n / 4 : Nat) : Int)]), .group none,
      .group (some [o.map fun x => [match x.kind with
          | .pass => 14
          | .fail => 15
          | .live => 16
          | .inconclusive => 17],
        (o.bind TestOutcome.rLine).map fun n => [(n : Int)]])]

/-- What the head waits for, R95, by its place in the list of that rule: 0 for nothing or an empty queue. -/
def WaitsFor (s : State) (n : Nat) : Prop :=
  (s.ltu.queue = [] → n = 0) ∧
  (∀ f rest, s.ltu.queue = f :: rest →
    let released : Prop := ∃ (k : TestSlot) (m : Nat) (o : Option TestOutcome), s.ltu.slot[k] = .release f m o
    let full : Prop := s.ltu.slot[0] ≠ .free ∧ s.ltu.slot[1] ≠ .free
    let far : Prop := s.sco.sect[f].far.any SectionEntry.testActive = true
    let lost : Prop := s.smp.points[20].sighted = false
    (far → n = 1) ∧ (¬ far → lost → n = 2) ∧ (¬ far → ¬ lost → released → n = 3) ∧
      (¬ far → ¬ lost → ¬ released → full → n = 4) ∧ (¬ far → ¬ lost → ¬ released → ¬ full → n = 0))

/-- The fields of neighbour status, R123. -/
def neighbourFields (s : State) (n : Slot) : List StatusField :=
  let r := s.tables.neighbour[n]
  let l := s.sco.link[n]
  [.plain [(r.stationId : Int)], .plain [((r.linkNode.getD 0 : Nat) : Int)], .plain [(r.channel : Int)],
    .plain [(r.tLink : Int)], .plain [(r.tTt : Int)], .plain [flagNum l.up],
    .maybe (l.timer.map fun n => [((n / 4 : Nat) : Int)]),
    .group (l.last.map fun x => [some [(x.stationId : Int)], some [flagNum x.rectRunning],
      some [flagNum x.busLive], some [(x.acceptedAt : Int)],
      some (x.entries.flatMap fun e => [(e.secNo : Int), flagNum e.closed, flagNum e.coupled, flagNum e.testEnd,
        flagNum e.ttReq, flagNum e.ttAck, flagNum e.lineLive, flagNum e.testActive])])]

/-- The fields of section status, R124. -/
def sectionFields (s : State) (f : Feeder) : List StatusField :=
  let r := s.tables.feeder[f]
  let x := s.sco.sect[f]
  [.plain [(r.secNo : Int)], .plain [(r.slot : Int)], .plain [flagNum r.testEnd], .plain [flagNum r.localCoupled],
    .plain [flagNum x.far.isSome], .plain [flagNum (x.far.any SectionEntry.coupled)],
    .plain [flagNum (x.far.any SectionEntry.testEnd)], .plain [flagNum (x.far.any SectionEntry.closed)],
    .plain [flagNum (x.far.any SectionEntry.testActive)], .plain [flagNum (x.far.any SectionEntry.lineLive)],
    .plain [flagNum (x.far.isSome && s.sco.link[slotOf r].last.any NeighbourFrame.busLive)],
    .plain [flagNum x.coupled], .plain [flagNum x.doubleFed],
    .plain [match x.bank with
      | .a => 0
      | .b => 1],
    .plain [flagNum x.hs.ttReq], .plain [flagNum x.hs.pending], .plain [flagNum x.hs.failed],
    .plain [flagNum x.hs.ttAck], .plain [flagNum x.hs.seenReq], .plain [flagNum x.hs.seenAck],
    .maybe (x.hs.timer.map fun n => [((n / 4 : Nat) : Int)])]

/-- The fields of rectifier status, R151; `valid` says whether the firing curve table is valid (R143). -/
def rectifierFields (s : State) (valid : Bool) : List StatusField :=
  let r := s.rcu
  [.plain [(r.state.code : Int)], .plain [flagNum r.adoption], .maybe (r.cause.map fun x => [(x.code : Int)]),
    .group (r.status.map fun x => [some [positionNum x.ac], some [flagNum x.ready], some [flagNum x.gateFault]]),
    .plain [flagNum r.supervised], .plain [r.lastAlpha], .plain [r.trim],
    .plain ((allFeeders.filter fun f => r.pbSet[f]).map fun f => (f.val : Int)),
    .maybe (r.timer.map fun n => [((n / 4 : Nat) : Int)]), .plain [flagNum r.acLow], .plain [(r.ocRun : Int)],
    .plain [flagNum valid],
    .group (r.working.map fun w => [some [w.vRef], some [w.e], some [w.u], some [w.vD0], some [w.d]])]

/-- The fields of station trip status, R162. -/
def stationFields (s : State) : List StatusField :=
  [.plain [flagNum s.stl.lockout],
    .plain [match s.stl.leakage with
      | .normal => 0
      | .pickup _ => 1
      | .operated => 2],
    .maybe (match s.stl.leakage with
      | .pickup run => some [(run : Int)]
      | .normal => none
      | .operated => none),
    .plain [(s.tables.station.iLeak : Int)], .plain [(s.tables.station.tLeak : Int)]]

/-- The content of a record in progress, R182: its header values with the point count and the point list, its counts, and
its end reason, 0 for IN_PROGRESS (R192, R212). -/
def inProgress (points : List Nat) (x : RecordInProgress) : List (Option (List Int)) :=
  [some [(x.time : Int)], some [(x.cause.code : Int)], some [(x.subject.code : Int)], some [(points.length : Int)],
    some (points.map fun p => (p : Int)), some [(x.preCount : Int)], some [(x.placed : Int)],
    some [(x.remaining : Int)], some [(x.words : Int)], some [(x.retriggers : Int)],
    some [match x.reason with
      | none => 0
      | some .complete => 1
      | some .capped => 2
      | some .short => 3
      | some .aborted => 4]]

/-- The fields of recorder status, R196, and the write buffer, R182 (log entry 32); `armable` says whether REC_ARM would be accepted (R187). -/
def recorderFields (s : State) (armable : Bool) : List StatusField :=
  let x := s.tables.recorder
  [.plain [match s.drc.state with
      | .idle => 0
      | .armed _ => 1
      | .capturing _ => 2
      | .draining _ => 3
      | .held _ _ => 4],
    .plain (x.points.map (fun p => (p : Int)) ++ [(x.postCount : Int), (x.cap : Int)]),
    .plain (s.tables.chain.flatMap fun c => [(c.start : Int), (c.length : Int), flagNum c.last]),
    .plain [((s.tables.chain.map fun c => if c.length = 0 then 4096 else c.length).sum : Int)],
    .plain [flagNum armable], .plain [(s.drc.missed : Int)],
    .maybe (match s.drc.state with
      | .armed b => some [(b.length : Int)]
      | _ => none),
    .group (match s.drc.state with
      | .capturing y => some (inProgress x.points y)
      | .draining y => some (inProgress x.points y)
      | _ => none),
    .group (match s.drc.state with
      | .held len reason => some [some [(len : Int)], some [(reason.code : Int)]]
      | _ => none),
    .maybe (match s.drc.state with
      | .capturing _ => some (s.drc.writeBuf.map fun w => (w.2.toNat : Int))
      | .draining _ => some (s.drc.writeBuf.map fun w => (w.2.toNat : Int))
      | _ => none)]

/-- The answer to a plain read that the agent accepts: the settings record in the format of R221, with RANGE for a READ of
CURVE outside 1..16 entries or past entry 64 (R145, log entry 23), or the fields of a status object 17 to 25. -/
def PlainAnswer (s : State) (r : Request) (st : Status) (data : List Byte) : Prop :=
  (r.obj = 1 → st = .ok ∧ data = encodeStation s.tables.station) ∧
  (∀ i (h : i < 32), r.obj = 2 → r.index = i → st = .ok ∧ data = encodeMapPoint s.tables.mapPoint[i]) ∧
  (∀ i (h : i < 4), r.obj = 3 → r.index = i → st = .ok ∧ data = encodeMapRange s.tables.mapRange[i]) ∧
  (∀ f : Feeder, r.index = f.val →
    (r.obj = 4 → st = .ok ∧ data = encodeFeeder s.tables.feeder[f]) ∧
    (r.obj = 5 → st = .ok ∧ data = encodeBank s.tables.bankA[f]) ∧
    (r.obj = 6 → st = .ok ∧ data = encodeBank s.tables.bankB[f]) ∧
    (r.obj = 18 → st = .ok ∧ data = statusBytes 18 (protectionFields s f)) ∧
    (r.obj = 19 → st = .ok ∧ data = statusBytes 19 (switchingFields s f)) ∧
    (r.obj = 22 → st = .ok ∧ data = statusBytes 22 (sectionFields s f))) ∧
  (∀ n : Slot, r.index = n.val →
    (r.obj = 7 → st = .ok ∧ data = encodeNeighbour s.tables.neighbour[n]) ∧
    (r.obj = 21 → st = .ok ∧ data = statusBytes 21 (neighbourFields s n))) ∧
  (r.obj = 8 → st = .ok ∧ data = encodeRegulator s.tables.regulator) ∧
  (∀ count : Nat, r.obj = 9 → count = (r.data.getD 0 0).toNat →
    (count = 0 ∨ 16 < count ∨ 65 < r.index + count → st = .range ∧ data = []) ∧
    (1 ≤ count → count ≤ 16 → r.index + count ≤ 65 → st = .ok ∧ ∃ entries : List Nat, entries.length = count ∧
      (∀ i (h : i < 65) (hc : i - r.index < entries.length), r.index ≤ i →
        entries[i - r.index] = s.tables.curve[i]) ∧ data = encodeCurve entries)) ∧
  (r.obj = 10 → st = .ok ∧ data = encodeRecorder s.tables.recorder) ∧
  (r.obj = 11 → st = .ok ∧ data = encodeChain s.tables.chain) ∧
  (∀ p : Point, r.obj = 17 → r.index = p.val → st = .ok ∧ data = statusBytes 17 (pointFields s p)) ∧
  (r.obj = 20 → st = .ok ∧ ∃ n, WaitsFor s n ∧ data = statusBytes 20
    ([.plain (s.ltu.queue.map fun f => (f.val : Int)), .plain [(n : Int)]] ++ slotStatus s.ltu.slot[0] ++
      slotStatus s.ltu.slot[1])) ∧
  (r.obj = 23 → st = .ok ∧ ∃ valid : Bool, (valid = true ↔ (s.tables.curve[0] = 9000 ∧ s.tables.curve[64] = 0 ∧
    ∀ j (h : j < 64), s.tables.curve[j + 1] ≤ s.tables.curve[j])) ∧
    data = statusBytes 23 (rectifierFields s valid)) ∧
  (r.obj = 24 → st = .ok ∧ data = statusBytes 24 (stationFields s)) ∧
  (r.obj = 25 → st = .ok ∧ ∃ armable : Bool, (armable = true ↔ ((s.drc.state = .idle ∨
      ∃ n x, s.drc.state = .held n x) ∧ s.tables.chain ≠ [] ∧ 8 + s.tables.recorder.points.length ≤
      (s.tables.chain.map fun c => if c.length = 0 then 4096 else c.length).sum)) ∧
    data = statusBytes 25 (recorderFields s armable))

/-! ### The checks of settings writes, R8, R25, R26, R50, R99, R106, R138, R185, R223 -/

/-- `r` is the status of the first of these conditions that holds, and none when none does. -/
def FirstOf (conditions : List (Prop × Status)) (r : Option Status) : Prop :=
  match conditions with
  | [] => r = none
  | (p, st) :: rest => (p → r = some st) ∧ (¬ p → FirstOf rest r)

/-- A node field is none or 1..254. -/
def NodeInRange (n : Option Nat) : Prop := ∀ k ∈ n, 1 ≤ k ∧ k ≤ 254

/-- Node k is the breaker node of an in-use feeder. -/
def UsedBreakerNode (t : Tables) (k : Nat) : Prop :=
  ∃ f : Feeder, t.feeder[f].inUse = true ∧ t.feeder[f].breakerNode = some k

/-- Node k is the panel node or the control gateway node. -/
def StationNode (t : Tables) (k : Nat) : Prop := t.station.panel = some k ∨ t.station.gateway = some k

/-- The ranges of R223. -/
def StationInRange (x : StationRec) : Prop :=
  1 ≤ x.ownId ∧ x.ownId ≤ 4095 ∧ NodeInRange x.panel ∧ NodeInRange x.gateway ∧ 4 ≤ x.lossTime ∧
    x.lossTime ≤ 200 ∧ 500 ≤ x.vBusMin ∧ x.vBusMin ≤ 9000 ∧ 5000 ≤ x.vSetMin ∧ x.vSetMin ≤ 9500 ∧
    5000 ≤ x.vSetMax ∧ x.vSetMax ≤ 9500 ∧ 1000 ≤ x.iRectTrip ∧ x.iRectTrip ≤ 60000 ∧ 10 ≤ x.iLeak ∧
    x.iLeak ≤ 1000 ∧ 4 ≤ x.tLeak ∧ x.tLeak ≤ 400 ∧ x.vSetMin ≤ x.vSetMax

/-- The conflicts of R223. -/
def StationConflict (t : Tables) (x : StationRec) : Prop :=
  (∃ k ∈ x.panel, x.gateway = some k) ∨
    (∃ k : Nat, (x.panel = some k ∨ x.gateway = some k) ∧ (UsedBreakerNode t k ∨
      t.regulator.gateNode = some k ∨
      ∃ n : Slot, t.neighbour[n].stationId ≠ 0 ∧ t.neighbour[n].linkNode = some k)) ∨
    ∃ n : Slot, t.neighbour[n].stationId ≠ 0 ∧ t.neighbour[n].stationId = x.ownId

/-- The ranges of R5. -/
def MapPointInRange (e : MapPoint) : Prop :=
  1 ≤ e.node ∧ e.node ≤ 254 ∧ e.channel ≤ 15 ∧ e.point ≤ 23 ∧ 1 ≤ e.gain ∧ e.gain ≤ 65535 ∧ e.shift ≤ 15 ∧
    -32768 ≤ e.offset ∧ e.offset ≤ 32767

/-- The ranges of R6 and the sizes of R8. -/
def MapRangeInRange (e : MapRange) : Prop :=
  e.base ≤ 254 ∧ e.size ∈ [2, 4, 8, 16] ∧ e.channel ≤ 15 ∧ e.first ≤ 23 ∧ 1 ≤ e.gain ∧ e.gain ≤ 65535 ∧
    e.shift ≤ 15 ∧ -32768 ≤ e.offset ∧ e.offset ≤ 32767

/-- Key k feeds point p by an entry of the map other than point entry i and range entry j (R8). -/
def PointFed (t : Tables) (i j p : Nat) (k : Nat × Nat) : Prop :=
  (∃ a : Fin 32, a.val ≠ i ∧ ∃ o ∈ t.mapPoint[a], o.point = p ∧ k = (o.node, o.channel)) ∨
    ∃ a : Fin 4, a.val ≠ j ∧ ∃ o ∈ t.mapRange[a], ∃ m < o.size, o.first + m = p ∧ k = (o.base + m, o.channel)

/-- The ranges of R25 and R50. -/
def FeederInRange (x : FeederRec) : Prop :=
  x.iDb ≤ 500 ∧ 100 ≤ x.iTh ∧ x.iTh ≤ 5000 ∧ 100 ≤ x.tauT ∧ x.tauT ≤ 36000 ∧ 1 ≤ x.thetaAlarm ∧
    x.thetaAlarm < x.thetaTrip ∧ x.thetaTrip ≤ 65535 ∧ NodeInRange x.breakerNode ∧ 100 ≤ x.rTest ∧
    x.rTest ≤ 10000 ∧ 500 ≤ x.vLive ∧ x.vLive ≤ 9000 ∧ 10 ≤ x.rMin ∧ x.rMin ≤ 10000 ∧ 10 ≤ x.settle ∧
    x.settle ≤ 1000 ∧ 16 ≤ x.window ∧ x.window ≤ 4000 ∧ x.attempts ≤ 5 ∧ 5 ≤ x.deadTime ∧
    x.deadTime ≤ 6000 ∧ 10 ≤ x.reclaim ∧ x.reclaim ≤ 6000 ∧ 10 ≤ x.followTimeout ∧
    x.followTimeout ≤ 6000 ∧ 20 ≤ x.tClose ∧ x.tClose ≤ 500 ∧ 20 ≤ x.tOpen ∧ x.tOpen ≤ 200 ∧
    x.secNo ≤ 1023 ∧ x.slot ≤ 3

/-- The conflicts of R50 and R106 of an in-use feeder. -/
def FeederConflict (t : Tables) (f : Feeder) (x : FeederRec) : Prop :=
  (∃ k ∈ x.breakerNode, (∃ g : Feeder, g ≠ f ∧ t.feeder[g].inUse = true ∧ t.feeder[g].breakerNode = some k) ∨
      t.regulator.gateNode = some k ∨ StationNode t k) ∨
    (x.secNo ≠ 0 ∧ ∃ g : Feeder, g ≠ f ∧ t.feeder[g].inUse = true ∧ t.feeder[g].secNo = x.secNo ∧
      t.feeder[g].slot = x.slot)

/-- The ranges of R26. -/
abbrev BankInRange (x : BankRec) : Prop :=
  500 ≤ x.iMax ∧ x.iMax ≤ 40000 ∧ 1 ≤ x.confirm ∧ x.confirm ≤ 4 ∧ 1 ≤ x.diStart ∧
    x.diStart ≤ 2000 ∧ x.diReset < x.diStart ∧ 200 ≤ x.deltaTrip ∧ x.deltaTrip ≤ 20000 ∧
    x.tMin ≤ 400 ∧ 4 ≤ x.tMax ∧ x.tMax ≤ 4000 ∧ 1 ≤ x.tReset ∧ x.tReset ≤ 400 ∧ x.tMin ≤ x.tMax

/-- The ranges of R98. -/
def NeighbourInRange (x : NeighbourRec) : Prop :=
  x.stationId ≤ 4095 ∧ NodeInRange x.linkNode ∧ x.channel ≤ 3 ∧ 20 ≤ x.tLink ∧ x.tLink ≤ 500 ∧ 10 ≤ x.tTt ∧
    x.tTt ≤ 200

/-- The conflicts of R99 of a used slot. -/
def NeighbourConflict (t : Tables) (n : Slot) (x : NeighbourRec) : Prop :=
  (∃ m : Slot, m ≠ n ∧ t.neighbour[m].stationId ≠ 0 ∧
      ((x.linkNode ≠ none ∧ t.neighbour[m].linkNode = x.linkNode ∧ t.neighbour[m].channel = x.channel) ∨
        t.neighbour[m].stationId = x.stationId)) ∨
    (∃ k ∈ x.linkNode, StationNode t k) ∨ x.stationId = t.station.ownId

/-- The ranges of R138. -/
def RegulatorInRange (t : Tables) (x : RegulatorRec) : Prop :=
  NodeInRange x.gateNode ∧ t.station.vSetMin ≤ x.vSet ∧ x.vSet ≤ t.station.vSetMax ∧ x.droop ≤ 100 ∧
    500 ≤ x.iLim ∧ x.iLim ≤ 20000 ∧ x.kLim ≤ 1000 ∧ x.ki ≤ 1024 ∧ x.trimMax ≤ 2000 ∧ x.rC ≤ 100 ∧
    10000 ≤ x.kD0 ∧ x.kD0 ≤ 40000 ∧ 500 ≤ x.vD0Min ∧ x.vD0Min ≤ 5000 ∧ 300 ≤ x.alphaMin ∧
    x.alphaMin ≤ 3000 ∧ 1 ≤ x.ramp ∧ x.ramp ≤ 500 ∧ 9000 ≤ x.alphaPb ∧ x.alphaPb ≤ 15000 ∧ 10 ≤ x.tPb ∧
    x.tPb ≤ 500 ∧ 100 ≤ x.tAc ∧ x.tAc ≤ 2000

/-- The number of descriptors and the ranges of R184. -/
def ChainInRange (c : List ChainDesc) : Prop :=
  1 ≤ c.length ∧ c.length ≤ 16 ∧ ∀ d ∈ c, d.start ≤ 32767 ∧ d.length ≤ 4095

/-- The words of a region: a length of 0 is 4096 (R184). -/
def regionWords (d : ChainDesc) : Nat := if d.length = 0 then 4096 else d.length

/-! ### What each check refuses, in the order of the checks -/

/-- STATION: R223. -/
def stationFaults (t : Tables) (x : StationRec) : List (Prop × Status) :=
  [(¬ StationInRange x, .range), (StationConflict t x, .conflict)]

/-- MAP_POINT: R8. -/
def mapPointFaults (t : Tables) (i : Nat) (e : MapPoint) : List (Prop × Status) :=
  [(¬ MapPointInRange e, .range),
    (∃ j : Fin 32, j.val ≠ i ∧ ∃ o ∈ t.mapPoint[j], o.node = e.node ∧ o.channel = e.channel, .duplicate),
    (∃ k : Nat × Nat, PointFed t i 4 e.point k ∧ k ≠ (e.node, e.channel), .conflict)]

/-- MAP_RANGE: R8. -/
def mapRangeFaults (t : Tables) (i : Nat) (e : MapRange) : List (Prop × Status) :=
  [(¬ MapRangeInRange e, .range), (¬ e.size ∣ e.base, .align),
    (¬ (e.first + e.size ≤ 10 ∨ (10 ≤ e.first ∧ e.first + e.size ≤ 20)), .range),
    (∃ j : Fin 4, j.val ≠ i ∧ ∃ o ∈ t.mapRange[j], o.channel = e.channel ∧
      o.base < e.base + e.size ∧ e.base < o.base + o.size, .overlap),
    (∃ (n : Nat) (k : Nat × Nat), n < e.size ∧ PointFed t 32 i (e.first + n) k ∧
      k ≠ (e.base + n, e.channel), .conflict)]

/-- FEEDER: R25, R50 and R106; `idle` is the feeder being OUT or LOCKOUT (log entry 14). -/
def feederFaults (t : Tables) (f : Feeder) (x : FeederRec) (idle : Bool) : List (Prop × Status) :=
  [(¬ FeederInRange x, .range),
    (idle = false ∧ (x.inUse ≠ t.feeder[f].inUse ∨ x.breakerNode ≠ t.feeder[f].breakerNode ∨
      x.secNo ≠ t.feeder[f].secNo ∨ x.slot ≠ t.feeder[f].slot ∨ x.testEnd ≠ t.feeder[f].testEnd), .state),
    (x.inUse = true ∧ x.breakerNode = none, .range), (x.inUse = true ∧ FeederConflict t f x, .conflict)]

/-- NEIGHBOUR: R99. -/
def neighbourFaults (t : Tables) (n : Slot) (x : NeighbourRec) : List (Prop × Status) :=
  [(¬ NeighbourInRange x ∨ (x.stationId ≠ 0 ∧ x.linkNode = none), .range),
    (x.stationId ≠ 0 ∧ NeighbourConflict t n x, .conflict)]

/-- REGULATOR: R138; `idle` is the rectifier being OFF or TRIPPED without an adoption pending (log entry 14). -/
def regulatorFaults (t : Tables) (x : RegulatorRec) (idle : Bool) : List (Prop × Status) :=
  [(¬ RegulatorInRange t x, .range), (idle = false ∧ x.gateNode ≠ t.regulator.gateNode, .state),
    (∃ k ∈ x.gateNode, UsedBreakerNode t k ∨ t.station.panel = some k ∨ t.station.gateway = some k, .conflict)]

/-- CHAIN: R185; `free` is the recorder being IDLE or HELD. -/
def chainFaults (regions : List ChainDesc) (free : Bool) : List (Prop × Status) :=
  [(free = false, .busy), (¬ ChainInRange regions, .range),
    (¬ ∃ front final, regions = front ++ [final] ∧ final.last = true ∧ ∀ d ∈ front, d.last = false, .range),
    (∃ d ∈ regions, 32768 < d.start + regionWords d, .range),
    (∃ d ∈ regions, d.start / 4096 ≠ (d.start + regionWords d - 1) / 4096, .align),
    (∃ (i j : Nat) (hj : j < regions.length) (hi : i < j),
      regions[i].start < regions[j].start + regionWords regions[j] ∧
      regions[j].start < regions[i].start + regionWords regions[i], .overlap)]

/-- None of these conditions holds. -/
def NoneOf (conditions : List (Prop × Status)) : Prop := ∀ x ∈ conditions, ¬ x.1

/-- R227: every record of the image passes the checks of a write of it beside the other records of the image, without the
STATE and BUSY refusals; a chain of no descriptors passes. -/
structure ImageGood (t : Tables) : Prop where
  station : NoneOf (stationFaults t t.station)
  points : ∀ (i : Fin 32) (e : MapPoint), t.mapPoint[i] = some e → NoneOf (mapPointFaults t i e)
  ranges : ∀ (i : Fin 4) (e : MapRange), t.mapRange[i] = some e → NoneOf (mapRangeFaults t i e)
  feeders : ∀ f : Feeder, NoneOf (feederFaults t f t.feeder[f] true)
  banks : ∀ f : Feeder, BankInRange t.bankA[f] ∧ BankInRange t.bankB[f]
  neighbours : ∀ n : Slot, NoneOf (neighbourFaults t n t.neighbour[n])
  regulator : NoneOf (regulatorFaults t t.regulator true)
  curve : ∀ (j : Nat) (h : j < 65), t.curve[j] ≤ 9000
  recorder : 1 ≤ t.recorder.points.length ∧ t.recorder.points.length ≤ 8 ∧
    (∀ q ∈ t.recorder.points, q ≤ 23) ∧ 1 ≤ t.recorder.postCount ∧ t.recorder.postCount ≤ 4096 ∧
    256 ≤ t.recorder.cap ∧ t.recorder.cap ≤ 16384 ∧ t.recorder.points.Nodup
  chain : t.chain = [] ∨ NoneOf (chainFaults t.chain true)

/-! ### The station summary, R173 and R212 -/

/-- The summary m has the fields of R173, each from the state of its owner in s. -/
structure SummaryShows (s : State) (m : Summary) : Prop where
  unconfigured : m.unconfigured = s.mga.unconfigured
  lockout : m.lockout = s.stl.lockout
  mode : m.mode = s.mga.mode
  rect : m.rect = s.rcu.state
  feeders : m.feeders.length = 10 ∧ ∀ f : Feeder, m.feeders[f.val]? = some
    { state := s.fct[f].state, contextHeld := s.fpu[f].context.isSome
      blind := !s.smp.points[f.val].sighted, bank := s.sco.sect[f].bank }
  links : m.links.length = 4 ∧ ∀ n : Slot, m.links[n.val]? = some s.sco.link[n].up
  pending : m.eventsPending = true ↔ s.evr.events ≠ []
  lost : m.eventsLost = s.evr.lost
  recorder : m.recorder = (match s.drc.state with
    | .idle => .idle
    | .armed _ => .armed
    | .capturing _ => .capturing
    | .draining _ => .draining
    | .held _ _ => .held)
  storeBusy : m.storeBusy = s.mga.busy

/-- The state code of a feeder, R212. -/
def feederStateNum (st : FeederState) : Nat :=
  match st with
  | .unknown => 0
  | .out => 1
  | .testWait => 2
  | .testing => 3
  | .closing => 4
  | .service => 5
  | .opening => 6
  | .deadTime => 7
  | .follow => 8
  | .lockout => 9

/-- The bytes b are the summary of s in the layout of R212. -/
structure SummaryLaidOut (s : State) (b : List Byte) : Prop where
  length : b.length = 13
  station : ∃ x : Byte, b[0]? = some x ∧ x.toNat < 64 ∧ x.getLsbD 0 = s.mga.unconfigured ∧
    x.getLsbD 1 = s.stl.lockout ∧ (x.getLsbD 2 = true ↔ s.mga.mode = .remote) ∧
    (x.getLsbD 3 = true ↔ s.evr.events ≠ []) ∧ x.getLsbD 4 = s.evr.lost ∧ x.getLsbD 5 = s.mga.busy
  feeders : ∀ f : Feeder, ∃ x : Byte, b[1 + f.val]? = some x ∧ x.toNat < 128 ∧
    x.toNat % 16 = feederStateNum s.fct[f].state ∧ x.getLsbD 4 = s.fpu[f].context.isSome ∧
    x.getLsbD 5 = !s.smp.points[f.val].sighted ∧ (x.getLsbD 6 = true ↔ s.sco.sect[f].bank = .b)
  rectifier : ∃ x : Byte, b[11]? = some x ∧ x.toNat = s.rcu.state.code + 16 * (match s.drc.state with
    | .idle => 0
    | .armed _ => 1
    | .capturing _ => 2
    | .draining _ => 3
    | .held _ _ => 4)
  links : ∃ x : Byte, b[12]? = some x ∧ x.toNat < 16 ∧ ∀ n : Slot, x.getLsbD n.val = s.sco.link[n].up

/-! ### Record words, R184, R189, R192, R212 -/

/-- Word w of a record lies at address a: in the first region whose words and those before it are more than w, as far
from its start as w is beyond the regions before (R184). -/
def LiesAt (chain : List ChainDesc) (w a : Nat) : Prop :=
  ∃ (i : Nat) (h : i < chain.length) (before : Nat), before = ((chain.take i).map regionWords).sum ∧
    before ≤ w ∧ w < before + regionWords chain[i] ∧ a = chain[i].start + (w - before)

/-- d' is d after word n of the record is placed with the value x: at its address in the write buffer, the oldest word of
a full buffer reaching record memory first; a word beyond the chain is not placed (R184, R189). -/
def WordPlaced (d d' : Drc) (chain : List ChainDesc) (n : Nat) (x : Word) : Prop :=
  ((∀ a, ¬ LiesAt chain n a) → d' = d) ∧
  (∀ a, LiesAt chain n a →
    (d.writeBuf.length < 16 → d' = { d with writeBuf := d.writeBuf ++ [(a, x)] }) ∧
    (∀ y rest, d.writeBuf = y :: rest → 16 ≤ d.writeBuf.length →
      d' = { d with writeBuf := rest ++ [(a, x)], mem := memStore d.mem y.1 y.2 }))

/-- The header words of a record at entry to CAPTURING (R192), the point list packed as R212 has it: the number of points
in bits 31..28 of word 3, four points in words 3 and 4 each, 0 in an unused place. -/
structure HeaderLaidOut (points : List Nat) (x : RecordInProgress) (words : List Word) : Prop where
  length : words.length = 8
  trigger : words[0]? = some (BitVec.ofNat 32 x.time) ∧ words[1]? = some (BitVec.ofNat 32 x.cause.code) ∧
    words[2]? = some (BitVec.ofNat 32 x.subject.code)
  list : points.length ≤ 8 → (∀ q ∈ points, q ≤ 23) → ∃ v w : Word, words[3]? = some v ∧ words[4]? = some w ∧
    v.toNat / 268435456 = points.length ∧ v.toNat / 16777216 % 16 = 0 ∧ w.toNat < 16777216 ∧
    ∀ j : Fin 4, v.toNat / 64 ^ (3 - j.val) % 64 = points.getD j.val 0 ∧
      w.toNat / 64 ^ (3 - j.val) % 64 = points.getD (4 + j.val) 0
  counts : words[5]? = some (BitVec.ofNat 32 x.preCount) ∧ words[6]? = some 0 ∧ words[7]? = some 0

/-! ### What a FEEDER write does, R50, R51, R106 -/

/-- t is s after an accepted write of the record x of feeder f: the handshake cleared when the section number, the slot
or in use changes; the record stored, with the attempts within their new limit, or the controller and the protection
unit moved into or out of use (R22, R51; log entry 27); the far-end report taken afresh and coupling, double feed and
bank evaluated anew; the flags of a report newly present taken as standing; and a changed section state reported. -/
def FeederWritten (s t : State) (f : Feeder) (x : FeederRec) : Prop :=
  let old : FeederRec := s.tables.feeder[f]
  let moved : Prop := x.secNo ≠ old.secNo ∨ x.slot ≠ old.slot ∨ x.inUse ≠ old.inUse
  let tables : Tables := { s.tables with feeder := s.tables.feeder.set f x }
  let link : LinkState := s.sco.link[slotOf x]
  let fresh : Option SectionEntry :=
    if x.inUse = true ∧ x.secNo ≠ 0 ∧ link.up = true then
      link.last.bind fun fr => (fr.entries.take 10).find? fun e => decide (e.secNo = x.secNo)
    else none
  ∃ s1 s2 s3 s4 s5 : State,
    (moved → s1 = s.clearHandshake f .removed) ∧ (¬ moved → s1 = s) ∧
    (x.inUse = old.inUse → Reports { s1 with
      tables := tables
      fct := s1.fct.set f { s1.fct[f] with attempts := min s1.fct[f].attempts x.attempts } } s2 []) ∧
    (x.inUse ≠ old.inUse → Reports { s1 with
      tables := tables
      fct := (s1.fct.set f (if x.inUse = true then { Fct.reset with state := .unknown, supTimer := some 2000 }
        else { Fct.reset with status := s1.fct[f].status, supervised := s1.fct[f].supervised }))
      fpu := s1.fpu.set f { s1.fpu[f] with imaxRun := 0, ddl := { iPrev := none, run := none }, sum := 0
                                           count := 0, theta := 0, alarmMark := false, tripMark := false } }
      s2 []) ∧
    (moved → s3 = { s2 with sco := { s2.sco with sect := s2.sco.sect.set f { s2.sco.sect[f] with far := fresh } } }) ∧
    (¬ moved → s3 = s2) ∧
    (moved ∨ x.testEnd ≠ old.testEnd ∨ x.localCoupled ≠ old.localCoupled → s4 = s3.reevaluate f) ∧
    (¬ (moved ∨ x.testEnd ≠ old.testEnd ∨ x.localCoupled ≠ old.localCoupled) → s4 = s3) ∧
    (∀ e, moved → fresh = some e → s5 = s4.takeStanding f e) ∧
    (¬ moved ∨ fresh = none → s5 = s4) ∧
    t = reportedFrom s s5 f

end Sys2Proof.Machine
end

