-- ==== Sys2Proof/Certificates/Slice0/Obligations.lean ====
section
/-!
DEFINITION. The statements about the model. Each names the rules of spec/ it formalises; OBLIGATIONS.json gives each its
tier and its grounds.
-/

section
open Sys2Proof Sys2Proof.Machine

/-! ### The queue of commands and the invariant -/

/-- A step takes the command at the front of the queue and runs it with the queue's rest. -/
def Obligations.StepRunsFrontCommand : Prop :=
  ∀ (c : Instr) (s : State), step { s with pending := c :: s.pending } = exec c s

/-- The model's choice (log entry 2): every command answers a next state and neither adds to the waiting commands nor
takes from them, and with no command waiting the block idles. -/
def Obligations.EveryCommandKeepsQueue : Prop :=
  (∀ (c : Instr) (s : State), ∃ t : State, exec c s = .next t ∧ t.pending = s.pending) ∧
    ∀ s : State, s.pending = [] → step s = .next s

/-- Every step keeps the invariant: the event queue holds at most 128 records with consecutive sequence numbers
(R170); the ORDER queue one order per place and at most 16 (R207); the LINK queue one frame per slot (R208); the
REPORT queue at most eight frames and held places together, one notice, and a place for it (R175, R209); the transit
buffer two frames (R205); a held place for every request waiting (R215); the recorder's buffers in their bounds and
record memory in canonical form (R186, R189); the flags of every handshake (R111); PHASE_BACK only with its set not
empty (R147); the test queue and the two slots with the feeders they hold, at most two of them TESTING (R79, R80; log
entry 26 for the outcome of a dead bus that waits). -/
def Obligations.InvariantKeptByEveryStep : Prop :=
  ∀ s t : State, Inv s → step s = .next t → Inv t

/-- The invariant holds at reset. -/
def Obligations.InvariantAtReset : Prop := Inv State.reset

/-! ### Power-on, load, restart, time base -/

/-- POWER_ON in every state, R204 and R213 with R20, R47, R77, R96, R125, R152, R164, R180, R197 and R229: the straps
are read, every block is at its power-on state, the load of the settings begins, and the waiting commands are kept.
The model's choice until the load ends (log entry 1): the tables stand at their defaults, so no feeder is in use, the
unconfigured flag is set, and the supervision timer of the gate driver stands still. The model's choice too: record
memory, which R197 leaves undefined, is empty and reads as 0 (log entry 11). -/
def Obligations.PowerOnState : Prop :=
  ∀ (straps : Byte) (s : State), ∃ t : State, exec (.powerOn straps) s = .next t ∧
    t.phase = .loading ∧ t.pending = s.pending ∧ t.tables = defaultTables ∧
    t.rif = { node := straps.toNat, strapFault := decide (straps.toNat = 0 ∨ straps.toNat = 255),
              transit := [], orderQ := [], linkQ := [], reportQ := [], held := 0, port := none, ringErr := 0,
              windowBad := 0, transitDrop := 0, malformed := 0, reportDiscard := 0, orderDiscard := 0 } ∧
    t.clock = { ms := 0, control := 0, thermal := 0, link := 0, window := 0 } ∧
    (∀ p : Point, t.smp.points[p] =
      { sighted := false, ref := none, last := 0, age := 0, lossDue := false }) ∧
    t.smp.unmappedKey = none ∧ t.smp.unmapped = 0 ∧ t.smp.stale = 0 ∧ t.smp.invalid = 0 ∧
    (∀ f : Feeder, t.fpu[f].imaxRun = 0 ∧ t.fpu[f].ddl.run = none ∧ t.fpu[f].ddl.iPrev = none ∧
      t.fpu[f].sum = 0 ∧ t.fpu[f].count = 0 ∧ t.fpu[f].theta = 0 ∧ t.fpu[f].alarmMark = false ∧
      t.fpu[f].tripMark = false ∧ t.fpu[f].context = none) ∧
    (∀ f : Feeder, t.tables.feeder[f].inUse = false ∧ t.fct[f] =
      { state := .out, status := none, supervised := false, supTimer := none, attempts := 0, opClose := false
        openingCause := none, opOpen := false, ttFail := false, pbRaised := false, lockCause := none
        timer := none, operateIn := [], outcomeIn := [], ttFailIn := 0 }) ∧
    t.ltu.queue = [] ∧ t.ltu.slot[0] = .free ∧ t.ltu.slot[1] = .free ∧
    (∀ n : Slot, t.sco.link[n] = { up := false, timer := none, last := none }) ∧
    (∀ f : Feeder, t.sco.sect[f] =
      { far := none, coupled := false, doubleFed := false, bank := .b
        hs := { ttReq := false, pending := false, timer := none, failed := false, ttAck := false
                seenReq := false, seenAck := false, fromStation := false } }) ∧
    t.rcu = { state := .off, adoption := true, cause := none, status := none, supervised := false
              supTimer := none, lastAlpha := 9000, trim := 0, pbSet := Vector.replicate 10 false
              timer := none, acLow := false, ocRun := 0, working := none } ∧
    t.stl = { leakage := .normal, lockout := false, failNotices := [] } ∧
    t.evr = { ms := 0, events := [], nextSeq := 0, lost := false, notice := none } ∧
    t.drc = { state := .idle, missed := 0, writeBuf := [], mem := [] } ∧
    t.mga = { requests := [], mode := .localMode, unconfigured := true, busy := false, storeTimer := none
              image := none }

/-- SETTINGS_LOAD_END, R227 with R77, R96 and R152: a good store gives the whole image with the unconfigured flag
clear and no event; a bad one the defaults whole with the flag set, and STORE_BAD with the cause of the first case
that holds. The content of an image is good when every record of it passes the RANGE, ALIGN, DUPLICATE, OVERLAP and
CONFLICT checks of a write of it beside the other records of the image, a chain of no descriptors passing. TEST_OFF
goes to the in-use feeders in the order of their numbers (log entry 33). What the image's check value covers is a
free value (log entry 8). -/
def Obligations.SettingsLoadEnds : Prop :=
  (∀ (s : State) (img : Tables) (check : Nat), s.phase = .loading → check = Config.imageCheck img →
    imageContentOk img = true →
    ∃ t : State, exec (.settingsLoadEnd (.image img check)) s = .next t ∧ LoadedFrom s t img false) ∧
  (∀ (s : State) (answer : MemoryAnswer) (cause : Cause), s.phase = .loading →
    ((answer = .silent ∧ cause = .noMemory) ∨
      (∃ img check, answer = .image img check ∧ check ≠ Config.imageCheck img ∧ cause = .check) ∨
      (∃ img check, answer = .image img check ∧ check = Config.imageCheck img ∧
        imageContentOk img = false ∧ cause = .content)) →
    ∃ u t : State, exec (.settingsLoadEnd answer) s = .next t ∧ LoadedFrom s u defaultTables true ∧
      Reports u t [(.storeBad, .station, some cause, none)]) ∧
  ∀ img : Tables, imageContentOk img = true ↔ ImageGood img

/-- TICK. While the part runs: every count of ticks, every timer and every SIGHTED point one tick on, the ages up to
200 (R14, R16, R56, R79, R98, R111, R127, R200, R224), the loss of a point found due (log entry 19), and the
recorder's set by its state (R186), in CAPTURING placed after the words already placed, and the end of the capture by
the first condition that holds (R189, R191); the notice of the summary this changes (R174), and the rest as it
stands. The model's choices: a timer that has run out stands at 0 until its expiry is taken (log entry 3), the write
buffer empties at the tick before the set is placed (log entry 22), and during the load of the settings only the
counts of the millisecond and of the ring window advance (log entry 20). -/
def Obligations.TickAdvancesTimers : Prop :=
  (∀ s : State, s.phase = .held → exec .tick s = .next s) ∧
  (∀ s : State, s.phase = .loading → exec .tick s = .next { s with
    clock := { s.clock with ms := s.clock.ms + 1, window := s.clock.window + 1 } }) ∧
  ∀ s : State, s.phase = .running → ∃ t : State, exec .tick s = .next t ∧
    t.clock = { ms := s.clock.ms + 1, control := s.clock.control + 1, thermal := s.clock.thermal + 1,
                link := s.clock.link + 1, window := s.clock.window + 1 } ∧
    (∀ p : Point, t.smp.points[p] =
      if s.smp.points[p].sighted then
        { s.smp.points[p] with
          age := min 200 (s.smp.points[p].age + 1)
          lossDue := s.smp.points[p].lossDue ||
            decide (s.tables.station.lossTime ≤ min 200 (s.smp.points[p].age + 1)) }
      else s.smp.points[p]) ∧
    (∀ f : Feeder, t.fct[f] = { s.fct[f] with supTimer := s.fct[f].supTimer.map (· - 1),
                                              timer := s.fct[f].timer.map (· - 1) }) ∧
    (∀ k : TestSlot, t.ltu.slot[k] =
      match s.ltu.slot[k] with
      | .contact f n => .contact f (n - 1)
      | .settle f n => .settle f (n - 1)
      | .release f n p => .release f (n - 1) p
      | ph => ph) ∧
    (∀ n : Slot, t.sco.link[n] = { s.sco.link[n] with timer := s.sco.link[n].timer.map (· - 1) }) ∧
    (∀ f : Feeder, t.sco.sect[f] = { s.sco.sect[f] with
      hs := { s.sco.sect[f].hs with timer := s.sco.sect[f].hs.timer.map (· - 1) } }) ∧
    t.rcu = { s.rcu with supTimer := s.rcu.supTimer.map (· - 1), timer := s.rcu.timer.map (· - 1) } ∧
    t.mga = { s.mga with storeTimer := s.mga.storeTimer.map (· - 1) } ∧
    (match s.drc.state with
      | .armed b =>
        t.drc = { s.drc with state := (.armed ((if b.length < 256 then b else b.drop 1) ++
          [s.tables.recorder.points.map s.lastOf])) }
      | .capturing r =>
        let chain := s.tables.chain
        let points := s.tables.recorder.points
        let r' : RecordInProgress := { r with placed := r.placed + 1, remaining := r.remaining - 1
                                              words := r.words + points.length }
        let d : Drc := ({ s.drc with writeBuf := [], mem := (s.drc.writeBuf.foldl
          (fun m y => memStore m y.1 y.2) s.drc.mem) } : Drc).placeFrom chain r.words
            (points.map fun q => BitVec.ofInt 32 (s.lastOf q))
        t.drc = if r'.remaining = 0 then d.drain chain r' .complete
          else if r'.placed = s.tables.recorder.cap then d.drain chain r' .capped
          else if chainCapacity chain - r'.words < points.length then d.drain chain r' .short
          else { d with state := .capturing r' }
      | _ => t.drc = s.drc) ∧
    Noticed s.summary { s with clock := t.clock, smp := { s.smp with points := t.smp.points }, fct := t.fct,
                               ltu := { s.ltu with slot := t.ltu.slot }, sco := t.sco, rcu := t.rcu,
                               mga := t.mga, drc := t.drc } t

/-- MILLISECOND_ADVANCE and RING_WINDOW_END, R166 and R200: at the millisecond that is due the counter advances by
one and wraps after 4294967295 to 0, four ticks being spent; at the window end that is due the number of bad frames
returns to 0; before their ends neither has an effect (the model's choice, log entry 3). -/
def Obligations.MillisecondAndWindow : Prop :=
  ∀ s : State, s.phase ≠ .held →
    (4 ≤ s.clock.ms → exec .millisecondAdvance s = .next { s with
      clock := { s.clock with ms := s.clock.ms - 4 }
      evr := { s.evr with ms := if s.evr.ms % 4294967296 = 4294967295 then 0
                                else s.evr.ms % 4294967296 + 1 } }) ∧
    (4000 ≤ s.clock.window → exec .ringWindowEnd s = .next { s with
      clock := { s.clock with window := s.clock.window - 4000 }
      rif := { s.rif with windowBad := 0 } }) ∧
    (s.clock.ms < 4 → exec .millisecondAdvance s = .next s) ∧
    (s.clock.window < 4000 → exec .ringWindowEnd s = .next s)

/-- RESTART, R228 with R21, R48, R78, R97, R126, R153, R165, R181, R198, R214 and R229. The response OK is placed
first and then TEST_OFF for each test slot that is not FREE, slot 0 first (log entry 33); every block takes its
restart state; the tables, the waiting commands, both held queues, the frames in transit, the counts and what each
chapter keeps are kept; no event is posted. A recorder that is not HELD becomes IDLE with the words placed in record
memory, in DRAINING without the final header words, and failure notices not yet taken are discarded (both log entry
21). The summary changes once, and the requests behind are served after it (log entry 17). -/
def Obligations.RestartState : Prop :=
  ∀ (s : State) (r : Request), Granted s r 3 50 → ∃ q base u : State,
    exec .restart s = .next u.settle ∧ Noticed s.summary base u ∧
    (let off (x : State) (ph : TestPhase) : State := match slotFeeder ph with
      | some f => x.sendOrder f .testOff
      | none => x
     q = off (off ((popped s).respond r .ok []) s.ltu.slot[0]) s.ltu.slot[1]) ∧
    (∀ p : Point, base.smp.points[p] =
      { sighted := false, ref := none, last := s.smp.points[p].last, age := 0, lossDue := false }) ∧
    (∀ f : Feeder, base.fpu[f] = { s.fpu[f] with imaxRun := 0, ddl := { iPrev := none, run := none },
                                                 sum := 0, count := 0 }) ∧
    (∀ f : Feeder, base.fct[f] = if s.tables.feeder[f].inUse then
      { Fct.reset with state := .unknown, supTimer := some 2000 } else Fct.reset) ∧
    (∀ n : Slot, base.sco.link[n] = { up := false, timer := none, last := none }) ∧
    (∀ f : Feeder, base.sco.sect[f] =
      { far := none, coupled := false, doubleFed := false, bank := .b, hs := Handshake.reset }) ∧
    (let words (buffer : List (Nat × Word)) : RecordMemory :=
      buffer.foldl (fun m y => memStore m y.1 y.2) s.drc.mem
     match s.drc.state with
      | .held _ _ => base.drc = s.drc
      | .draining _ => base.drc = { state := .idle, missed := s.drc.missed, writeBuf := []
                                    mem := words (s.drc.writeBuf.take (s.drc.writeBuf.length - 3)) }
      | _ => base.drc = { state := .idle, missed := s.drc.missed, writeBuf := [], mem := words s.drc.writeBuf }) ∧
    base = { s with
      clock := { s.clock with control := 0, thermal := 0, link := 0, window := 0 }
      rif := { q.rif with linkQ := [], windowBad := 0 }
      smp := { points := base.smp.points, unmappedKey := none, unmapped := 0, stale := 0, invalid := 0 }
      fpu := base.fpu
      fct := base.fct
      ltu := { queue := [], slot := Vector.replicate 2 .free }
      sco := base.sco
      rcu := { Rcu.reset with supTimer := some 2000 }
      stl := { lockout := s.stl.lockout, failNotices := [], leakage := match s.stl.leakage with
        | .pickup _ => .normal
        | .normal => .normal
        | .operated => .operated }
      evr := { s.evr with notice := none }
      drc := base.drc
      mga := { s.mga with requests := s.mga.requests.drop 1, busy := false, storeTimer := none, image := none } } ∧
    q.rif.held = s.rif.held - 1 ∧
    (s.rif.strapFault = false → q.rif.reportQ = s.rif.reportQ ++
      [{ isNotice := false, frame := s.responseFrame r .ok [] }])

/-! ### The ring interface -/

/-- A bad frame of any row, R199 and R200 with R169: dropped, the two counts increased up to 65535, and RING_DEGRADED
at the 17th of a window, during the load of the settings too (log entry 20). -/
def Obligations.BadFrameDropped : Prop :=
  ∀ (s : State) (c : Instr), s.phase ≠ .held →
    ((∃ bytes, c = .ringFrameReceived bytes ∧ bytes.length < 6) ∨
      ∃ kind fr, frameOf c = some (kind, fr) ∧ isBad kind fr) →
    ∃ t : State, exec c s = .next t ∧
      Reports { s with rif := { s.rif with ringErr := satInc 65535 s.rif.ringErr
                                           windowBad := satInc 65535 s.rif.windowBad } } t
        (if s.rif.windowBad = 16 then
          [(.ringDegraded, .station, none, some (satInc 65535 s.rif.ringErr : Int))] else [])

/-- The disposition of a good frame of any row, R201 and R204, by the first row of R201's table that fits: the part's
own removed, an impossible source counted, a frame for another node forwarded; in a strap fault every frame
forwarded. A frame for the part of a kind with no reader, R202, or whose payload does not fit, R203, has no effect
but the malformed count for an unknown kind code and for the payload. While the settings load a consumed frame
reaches no reader and a REQUEST has no count (R227, log entry 20). The bytes of a frame are those of R212, and bytes
whose kind has a row of its own act as that row. -/
def Obligations.FrameDisposition : Prop :=
  (∀ (s : State) (c : Instr) (kind : Byte) (fr : RxFrame), s.phase ≠ .held →
    frameOf c = some (kind, fr) → ¬ isBad kind fr →
    (s.rif.strapFault = true → exec c s = .next (forwarded s kind fr)) ∧
    (s.rif.strapFault = false →
      (fr.src.toNat = s.rif.node → exec c s = .next s) ∧
      (fr.src.toNat ≠ s.rif.node →
        (fr.src.toNat = 0 ∨ fr.src.toNat = 255 → exec c s = .next (countedMalformed s)) ∧
        (fr.src.toNat ≠ 0 → fr.src.toNat ≠ 255 →
          (fr.dest.toNat ≠ s.rif.node → fr.dest.toNat ≠ 255 → exec c s = .next (forwarded s kind fr)) ∧
          (fr.dest.toNat = s.rif.node →
            (kind.toNat ∈ [4, 6, 8, 10, 11] → exec c s = .next s) ∧
            (kind.toNat ∉ [1, 2, 3, 4, 5, 6, 7, 8, 9, 10, 11] → exec c s = .next (countedMalformed s)) ∧
            (kind.toNat ∈ [1, 2, 3, 5, 7] ∨ (kind.toNat = 9 ∧ s.phase = .running) →
              payloadFits kind.toNat fr.payload = false → exec c s = .next (countedMalformed s)) ∧
            (s.phase = .loading →
              (kind.toNat ∈ [1, 2, 3, 5, 7] → payloadFits kind.toNat fr.payload = true → exec c s = .next s) ∧
              (kind.toNat = 9 → exec c s = .next s))))))) ∧
  (∀ (dest src kind len : Byte) (payload : List Byte) (check : Check),
    splitFrame (dest :: src :: kind :: len :: payload ++ be16 check.toNat) =
      some (kind, { dest := dest, src := src, len := len, payload := payload, check := check })) ∧
  (∀ (s : State) (bytes : List Byte) (kind : Byte) (fr : RxFrame) (c : Instr),
    splitFrame bytes = some (kind, fr) → (c, kind) ∈ frameRows fr →
    exec (.ringFrameReceived bytes) s = exec c s)

/-- A broadcast frame of any row, R201 row 4 and R202: forwarded, and then, when its kind has a reader that takes a
broadcast, read as the same frame addressed to the part is read, or counted when its payload does not fit (R203). A
broadcast REQUEST, and one of a kind without a reader or of an unknown kind, is only forwarded; while the settings
load no broadcast is read (R227, log entry 20). -/
def Obligations.BroadcastForwardedAndRead : Prop :=
  ∀ (s : State) (c : Instr) (kind : Byte) (fr : RxFrame), s.phase ≠ .held → s.rif.strapFault = false →
    frameOf c = some (kind, fr) → ¬ isBad kind fr → fr.src.toNat ≠ s.rif.node → fr.src.toNat ≠ 0 →
    fr.src.toNat ≠ 255 → fr.dest.toNat = 255 → s.rif.node ≠ 255 →
    (kind.toNat ∉ [1, 2, 3, 5, 7] → exec c s = .next (forwarded s kind fr)) ∧
    (kind.toNat ∈ [1, 2, 3, 5, 7] →
      (payloadFits kind.toNat fr.payload = false → exec c s = .next (countedMalformed (forwarded s kind fr))) ∧
      (payloadFits kind.toNat fr.payload = true → s.phase = .loading → exec c s = .next (forwarded s kind fr)) ∧
      (s.phase = .running → ∀ (c' : Instr) (fr' : RxFrame), (c', kind) ∈ frameRows fr' → ¬ isBad kind fr' →
        fr'.dest.toNat = s.rif.node → fr'.src = fr.src → fr'.payload = fr.payload →
        exec c s = exec c' (forwarded s kind fr)))

/-- ARBITER_TAKE and FRAME_SEND_END, R205 and R210: while the port is free the arbiter takes the oldest frame of the
transit buffer, else of the ORDER, the LINK or the REPORT queue; while it is not free it takes none; the end of the
sending frees the port. -/
def Obligations.ArbiterOrder : Prop :=
  ∀ s : State, s.phase ≠ .held →
    exec .frameSendEnd s = .next { s with rif := { s.rif with port := none } } ∧
    (s.rif.port.isSome = true → exec .arbiterTake s = .next s) ∧
    (s.rif.port = none →
      (∀ x rest, s.rif.transit = x :: rest → exec .arbiterTake s = .next { s with rif :=
        { s.rif with transit := rest, port := some { forwarded := true, frame := x } } }) ∧
      (s.rif.transit = [] →
        (∀ x rest, s.rif.orderQ = x :: rest → exec .arbiterTake s = .next { s with rif :=
          { s.rif with orderQ := rest, port := some { forwarded := false, frame := x.frame } } }) ∧
        (s.rif.orderQ = [] →
          (∀ x rest, s.rif.linkQ = x :: rest → exec .arbiterTake s = .next { s with rif :=
            { s.rif with linkQ := rest, port := some { forwarded := false, frame := x.frame } } }) ∧
          (s.rif.linkQ = [] →
            (∀ x rest, s.rif.reportQ = x :: rest → exec .arbiterTake s = .next { s with rif :=
              { s.rif with reportQ := rest, port := some { forwarded := false, frame := x.frame } } }) ∧
            (s.rif.reportQ = [] → exec .arbiterTake s = .next s)))))

/-- An order handed to the ORDER queue, R207: it replaces the order of its place and takes its turn, or takes a new
turn at the end, or is discarded and counted when 16 stand; in a strap fault it is discarded (R204). An order of a
feeder goes to its breaker node in the place of that node (R55, R206, R212); without a node none is sent. -/
def Obligations.OrderTakesItsPlace : Prop :=
  (∀ (r : Rif) (p : OrderPlace) (fr : Frame), r.strapFault = false → OrderQueueOk r →
    (∀ i (h : i < r.orderQ.length), r.orderQ[i].place = p →
      r.putOrder p fr = { r with orderQ := r.orderQ.set i { place := p, frame := fr } }) ∧
    ((∀ x ∈ r.orderQ, x.place ≠ p) →
      (r.orderQ.length < 16 →
        r.putOrder p fr = { r with orderQ := r.orderQ ++ [{ place := p, frame := fr }] }) ∧
      (r.orderQ.length = 16 →
        r.putOrder p fr = { r with orderDiscard := satInc 65535 r.orderDiscard }))) ∧
  (∀ (r : Rif) (p : OrderPlace) (fr : Frame), r.strapFault = true → r.putOrder p fr = r) ∧
  (∀ (s : State) (f : Feeder) (o : BreakerOrder) (code : Byte),
    (o, code) ∈ [(BreakerOrder.opened, 1), (.close, 2), (.testOn, 3), (.testOff, 4)] →
    (s.tables.feeder[f].breakerNode = none → s.sendOrder f o = s) ∧
    (∀ m, s.tables.feeder[f].breakerNode = some m → s.sendOrder f o = { s with rif := (s.rif.putOrder (.breaker m)
      { dest := BitVec.ofNat 8 m, src := BitVec.ofNat 8 s.rif.node, kind := 4, payload := [code]
        check := frameCheck (BitVec.ofNat 8 m) (BitVec.ofNat 8 s.rif.node) 4 1 [code] }) }))

/-! ### Requests -/

/-- REQUEST_FRAME, R209 and R215: a place is held and the request joins the tail of the list while fewer than seven
frames and held places stand, and the list is served up to its first request with a row (log entry 7); otherwise the
request is discarded and counted. A response takes the place held for it at the end of the turns, addressed to the
request's source, with its tag, status and at most 117 bytes of data (R209, R212, R215); in a strap fault it is
discarded (R204). The requests without a row of their own (the model's choice, log entry 7), R215 and R216, are
served in list order, each with a response and no other effect, until a request with a row stands at the head; an
accepted one is answered with the settings record or the status fields of its object (R19, R46, R76, R95, R123,
R124, R151, R162, R196, R221), a field with its presence byte and the free bytes of its value (log entry 9). RANGE
for a READ of 0 or more than 16 CURVE entries (R145, log entry 23), what is sent of an answer longer than 117 bytes
(a free value, log entry 9) and the form of the write buffer and of the point list in the recorder status (log entry
32) are the model's choices. -/
def Obligations.RequestTakenAndAnswered : Prop :=
  (∀ (s : State) (fr : RxFrame), ForPart s 9 fr →
    (s.rif.reportQ.length + s.rif.held < 7 →
      exec (.requestFrame fr) s = .next (State.settle { s with
        rif := { s.rif with held := s.rif.held + 1 }
        mga := { s.mga with requests := s.mga.requests ++
          [{ src := fr.src.toNat
             tag := (fr.payload.getD 0 0).toNat * 256 + (fr.payload.getD 1 0).toNat
             op := (fr.payload.getD 2 0).toNat
             obj := (fr.payload.getD 3 0).toNat
             index := (fr.payload.getD 4 0).toNat
             data := fr.payload.drop 5 }] } })) ∧
    (7 ≤ s.rif.reportQ.length + s.rif.held →
      exec (.requestFrame fr) s = .next { s with rif :=
        { s.rif with reportDiscard := satInc 65535 s.rif.reportDiscard } })) ∧
  (∀ (s : State) (r : Request) (st : Status) (data : List Byte), ∃ sent : List Byte,
    (data.length ≤ 117 → sent = data) ∧ sent.length ≤ 117 ∧
    s.respond r st data = { s with rif := { s.rif with
      held := s.rif.held - 1
      reportQ := if s.rif.strapFault = true then s.rif.reportQ else s.rif.reportQ ++
        [{ isNotice := false
           frame := makeFrame s.rif.node r.src 10
            (BitVec.ofNat 8 (r.tag / 256) :: BitVec.ofNat 8 r.tag :: BitVec.ofNat 8 st.code :: sent) }] } }) ∧
  (∀ s : State, s.mga.requests.length ≤ 7 →
    ((∀ r ∈ s.mga.requests.head?, hasRow r = true) → s.settle = s) ∧
    (∀ r rest, s.mga.requests = r :: rest → hasRow r = false →
      let p : State := { s with mga := { s.mga with requests := rest } }
      ∃ st data, (∀ x, p.agentRefusal r = some x → st = x ∧ data = []) ∧
        (p.agentRefusal r = none → PlainAnswer p r st data) ∧
        s.settle = (p.respond r st data).settle)) ∧
  (∀ (obj : Nat) (xs : List StatusField) (x : StatusField),
    statusBytes obj [] = [] ∧ statusBytes obj (xs ++ [x]) = statusBytes obj xs ++ fieldBytes obj xs.length x) ∧
  (∀ (obj place : Nat) (v : List Int) (parts : List (Option (List Int))) (part : Option (List Int)),
    fieldBytes obj place (.plain v) = 1 :: Config.statusValue obj place v ∧
    fieldBytes obj place (.maybe (some v)) = 1 :: Config.statusValue obj place v ∧
    fieldBytes obj place (.maybe none) = [0] ∧ fieldBytes obj place (.group none) = [0] ∧
    fieldBytes obj place (.group (some [])) = [1] ∧
    fieldBytes obj place (.group (some (parts ++ [part]))) = fieldBytes obj place (.group (some parts)) ++
      (match part with
        | none => [0]
        | some w => 1 :: Config.statusValue obj place ((parts.length : Int) :: w)))

/-- The checks of R216 in their order, with the roles of R217, the access classes of R218, the modes of R219, the
number of instances of each object (R220) and the length of its data (R145, R221 and section 11.4): the first that
fails gives the status. That a map entry whose first byte is neither 0 nor 1 fails with RANGE and that the count of
a READ of CURVE is one byte are the model's choices (log entry 23). -/
def Obligations.AgentChecksInOrder : Prop :=
  ∀ (s : State) (r : Request),
    let instances : Nat :=
      if r.obj = 2 then 32 else if r.obj ∈ [3, 7, 21] then 4
      else if r.obj ∈ [4, 5, 6, 18, 19, 22, 32, 33, 34, 35] then 10
      else if r.obj = 9 then 65 else if r.obj = 17 then 24 else 1
    let n : Nat := r.data.length
    let first : Nat := (r.data.getD 0 0).toNat
    let lengthOk : Bool :=
      if r.op = 2 then
        if r.obj = 1 then n = 18 else if r.obj = 2 then (first = 0 ∧ n = 1) ∨ (first = 1 ∧ n = 12)
        else if r.obj = 3 then (first = 0 ∧ n = 1) ∨ (first = 1 ∧ n = 14)
        else if r.obj = 4 then n = 41 else if r.obj = 5 ∨ r.obj = 6 then n = 22
        else if r.obj = 7 then n = 9 else if r.obj = 8 then n = 29
        else if r.obj = 9 then n % 2 = 0 ∧ 2 ≤ n ∧ n ≤ 32
        else if r.obj = 10 then n = 5 + first else n = 1 + 4 * first
      else if r.obj ∈ [9, 27, 42] then n = 1 else if r.obj = 29 then n = 3
      else if r.obj ∈ [39, 43] then n = 4 else if r.obj = 44 then n = 2 else n = 0
    s.agentRefusal r =
    if ¬ ((1 ≤ r.obj ∧ r.obj ≤ 11 ∧ (r.op = 1 ∨ r.op = 2)) ∨ (16 ≤ r.obj ∧ r.obj ≤ 29 ∧ r.op = 1) ∨
        (32 ≤ r.obj ∧ r.obj ≤ 50 ∧ r.op = 3)) then some .unknown
    else
      match (if s.mga.unconfigured = true ∨ s.tables.station.panel = some r.src then some Role.panel
        else if s.tables.station.gateway = some r.src then some Role.control else none) with
      | none => some .access
      | some role =>
        if (role = .control ∧ (r.op = 2 ∨ r.obj = 42)) ∨ (role = .panel ∧ r.obj = 45) then some .access
        else if r.op = 3 ∧ r.obj ∈ [32, 33, 34, 36, 37, 38, 39, 40] ∧
            ((role = .control ∧ s.mga.mode = .localMode) ∨ (role = .panel ∧ s.mga.mode = .remote)) then
          some .mode
        else if s.mga.busy = true ∧ (r.op = 2 ∨ (r.op = 3 ∧ (r.obj = 49 ∨ r.obj = 50))) then some .busy
        else if instances ≤ r.index ∨ lengthOk = false then some .range
        else none

/-- A request that fails a check of R216 has no effect but its response, which carries the status and no data; a row
whose kind is not that of the request at the head has no effect (the model's choice, log entry 6). -/
def Obligations.RefusedRequestHasNoEffect : Prop :=
  ∀ (c : Instr) (op : Nat) (objs : List Nat) (s : State), (c, op, objs) ∈ requestRows → s.phase = .running →
    (∀ r rest st, s.mga.requests = r :: rest → r.op = op → r.obj ∈ objs → s.agentRefusal r = some st →
      Serves c s r st [] { s with mga := { s.mga with requests := rest } }) ∧
    ((∀ r rest, s.mga.requests = r :: rest → ¬ (r.op = op ∧ r.obj ∈ objs)) → exec c s = .next s)

/-! ### Measurement streams -/

/-- Conversion of a GOOD sample, R10 with the limits of R2: the sum over 2^shift is rounded toward minus infinity,
whatever its sign, and brought to the limit of the point's group. -/
def Obligations.ConversionRoundsDown : Prop :=
  ∀ (x : Feed) (raw : Int), x.point < 24 → ∃ q limit : Int,
    q * 2 ^ x.shift ≤ (raw - x.offset) * x.gain + (if 1 ≤ x.shift then 2 ^ (x.shift - 1) else 0) ∧
    (raw - x.offset) * x.gain + (if 1 ≤ x.shift then 2 ^ (x.shift - 1) else 0) < (q + 1) * 2 ^ x.shift ∧
    limit = (if x.point < 10 ∨ x.point = 21 ∨ x.point = 23 then 60000 else 40000) ∧
    sampleValue x raw .good = some (if q < -limit then -limit else if limit < q then limit else q)

/-- One sample by its case, R7, R11, R12, R13 and R15: unmapped, INVALID, stale, of an interval of 1 to 4 sample
periods, or marked. An accepted sample renews its point, posts SIGHTED for a LOST point in use, and is handed to the
consumers (log entry 18 for the order). R12 gives a marked delivery no interval: that it carries 1 beside the mark is
the model's choice (log entry 30). The map gives a sample the first point entry of its key, else the first range
entry that holds it, else none (R5 to R7), and the key shown for a point is one that feeds it (R9). -/
def Obligations.SampleByCases : Prop :=
  (∀ (s : State) (key : Key) (seq : Nat) (raw : Int) (q : Quality),
    (lookup s.tables key = none → s.takeSample key seq raw q = { s with smp := { s.smp with
      unmappedKey := (match s.smp.unmappedKey with
        | some k => some k
        | none => some key)
      unmapped := satInc 65535 s.smp.unmapped } }) ∧
    (∀ (x : Feed) (h : x.point < 24), lookup s.tables key = some x →
      (q = .invalid → s.takeSample key seq raw q =
        { s with smp := { s.smp with invalid := satInc 65535 s.smp.invalid } }) ∧
      (q ≠ .invalid →
        let p : Point := ⟨x.point, h⟩
        let limit : Int := if x.point < 10 ∨ x.point = 21 ∨ x.point = 23 then 60000 else 40000
        let v : Int := if q = .good then convert x raw else if x.offset ≤ raw then limit else -limit
        let accepted (k : Nat) (disc : Bool) : Prop := ∃ t : State,
          Reports { s with smp := { s.smp with points := (s.smp.points.set p
              { sighted := true, ref := some seq, last := v, age := 0, lossDue := false }) } } t
            (if s.smp.points[p].sighted = false ∧ s.pointInUse p = true then
              [(.sighted, pointSubject p, none, some (p.val : Int))] else []) ∧
          s.takeSample key seq raw q = t.deliver p v k disc
        (s.smp.points[p].sighted = false ∨ s.smp.points[p].ref = none → accepted 1 true) ∧
        (∀ ref, s.smp.points[p].sighted = true → s.smp.points[p].ref = some ref →
          let d : Int := ((seq : Int) - ref + 32768) % 65536 - 32768
          (d ≤ 0 → s.takeSample key seq raw q =
            { s with smp := { s.smp with stale := satInc 65535 s.smp.stale } }) ∧
          (1 ≤ d → d ≤ 4 → accepted d.toNat false) ∧ (4 < d → accepted 1 true))))) ∧
  (∀ (t : Tables) (key : Key),
    let point (i : Nat) (h : i < 32) (e : MapPoint) : Prop :=
      t.mapPoint[i] = some e ∧ e.node = key.1 ∧ e.channel = key.2
    let range (i : Nat) (h : i < 4) (e : MapRange) : Prop :=
      t.mapRange[i] = some e ∧ e.channel = key.2 ∧ e.base ≤ key.1 ∧ key.1 < e.base + e.size
    (∀ (i : Nat) (h : i < 32) (e : MapPoint), point i h e →
      (∀ (j : Nat) (hj : j < i) (e' : MapPoint), ¬ point j (by omega) e') →
      lookup t key = some { point := e.point, gain := e.gain, shift := e.shift, offset := e.offset }) ∧
    ((∀ (i : Nat) (h : i < 32) (e : MapPoint), ¬ point i h e) →
      (∀ (i : Nat) (h : i < 4) (e : MapRange), range i h e →
        (∀ (j : Nat) (hj : j < i) (e' : MapRange), ¬ range j (by omega) e') →
        lookup t key = some { point := e.first + (key.1 - e.base), gain := e.gain, shift := e.shift
                              offset := e.offset }) ∧
      ((∀ (i : Nat) (h : i < 4) (e : MapRange), ¬ range i h e) → lookup t key = none))) ∧
  (∀ (t : Tables) (p : Nat),
    (∀ key x, feedOf t p = some (key, x) → lookup t key = some x ∧ x.point = p) ∧
    (feedOf t p = none → ∀ key x, lookup t key = some x → x.point ≠ p))

/-- SAMPLE_FRAME, R4: the whole entries up to channel 15 are taken in channel order, each as a sample of its own; and
TIME_FRAME, R167: the counter is loaded from the control gateway node and from no other. -/
def Obligations.StreamFramesTaken : Prop :=
  (∀ (s : State) (fr : RxFrame), ForPart s 1 fr → ∃ xs : List (Int × Quality),
    xs.length = min 16 ((fr.payload.length - 2) / 3) ∧
    (∀ i (h : i < xs.length),
      xs[i].1 = (fr.payload.getD (2 + 3 * i) 0 ++ fr.payload.getD (3 + 3 * i) 0).toInt ∧
      xs[i].2 = (if fr.payload.getD (4 + 3 * i) 0 = 0 then .good
        else if fr.payload.getD (4 + 3 * i) 0 = 1 then .overrange else .invalid)) ∧
    exec (.sampleFrame fr) s = .next (xs.zipIdx.foldl (fun t x =>
      t.takeSample (fr.src.toNat, x.2) (fr.payload.getD 0 0 ++ fr.payload.getD 1 0).toNat x.1.1 x.1.2) s)) ∧
  (∀ (s : State) (fr : RxFrame), ForPart s 2 fr →
    (s.tables.station.gateway = some fr.src.toNat → exec (.timeFrame fr) s = .next { s with evr := { s.evr with
      ms := ((fr.payload.getD 0 0 ++ fr.payload.getD 1 0) ++
        (fr.payload.getD 2 0 ++ fr.payload.getD 3 0)).toNat } }) ∧
    (s.tables.station.gateway ≠ some fr.src.toNat → exec (.timeFrame fr) s = .next s))

/-- POINT_LOSS, R14 and R17 with R3, R41, R73, R90, R134 and R156: the point becomes LOST with its last value kept,
its consumers take the loss notice, and BLIND is posted for a point in use; a point that is not due is left as it
stands (log entry 19). The loss of a feeder current makes the protection unit blind and, with blind action OPEN,
opens the feeder or withdraws and locks it out by its state, the new head being examined before LOCKOUT (the model's
choice, log entry 18); the loss of a line or bus voltage ends each running test that uses it with TEST_OFF, slot 0
first (log entry 33). -/
def Obligations.PointLossTaken : Prop :=
  ∀ (s : State) (p : Point), s.phase = .running →
    (¬ (s.smp.points[p].sighted = true ∧ s.smp.points[p].lossDue = true) → exec (.pointLoss p) s = .next s) ∧
    (s.smp.points[p].sighted = true → s.smp.points[p].lossDue = true → ∃ u v t : State,
      Reports { s with smp := { s.smp with points := (s.smp.points.set p
        { s.smp.points[p] with sighted := false, ref := none, age := 0, lossDue := false }) } } u [] ∧
      v = u.lossNotice p ∧ exec (.pointLoss p) s = .next t ∧
      Reports v t (if s.pointInUse p = true then
        [(.blind, pointSubject p, none, some (p.val : Int))] else []) ∧
      (p.val = 22 → v = u) ∧
      (p.val = 21 → v = { u with rcu := { u.rcu with ocRun := 0 } }) ∧
      (p.val = 23 → v = { u with stl := { u.stl with leakage := (match u.stl.leakage with
        | .pickup _ => .normal
        | l => l) } }) ∧
      (10 ≤ p.val → p.val ≤ 20 → Untouched u v ∧ v.fpu = u.fpu ∧ ∀ k : TestSlot, v.ltu.slot[k] =
        match u.ltu.slot[k].testing with
        | some f => if p.val = 20 ∨ p.val = f.val + 10 then
            .release f 800 (some { kind := .inconclusive, rLine := none }) else u.ltu.slot[k]
        | none => u.ltu.slot[k]) ∧
      (10 ≤ p.val → p.val ≤ 20 → ∃ w : State, TestLost u w p 0 ∧ TestLost w v p 1) ∧
      (∀ f : Feeder, p.val = f.val →
        v.fpu = (if u.tables.feeder[f].inUse = true then u.fpu.set f { u.fpu[f] with
          imaxRun := 0, ddl := { iPrev := none, run := none }, sum := 0, count := 0 } else u.fpu) ∧
        BlindActed { u with fpu := v.fpu } v f ∧ Untouched u v ∧
        v.fct[f].state =
          (if u.tables.feeder[f].blindOpen = false then u.fct[f].state
          else match u.fct[f].state with
            | .service => .opening
            | .closing => .opening
            | .testWait => .lockout
            | .testing => .lockout
            | .deadTime => .lockout
            | .follow => .lockout
            | st => st)))

/-! ### Feeder protection -/

/-- IMAX at a delivery, R28 with R22, R23, R35 and R39: the run count by the bank in use, held 0 while IMAX is off,
ended by a sample below I_max; the operation at the confirm count, with its report to the controller. The square of
the dead-banded current joins the accumulation, and a feeder not in use takes no delivery. -/
def Obligations.ImaxAtDelivery : Prop :=
  ∀ (s : State) (f : Feeder) (v : Int) (k : Nat) (disc : Bool) (b : BankRec) (i : Int),
    b = (match s.sco.sect[f].bank with
      | .a => s.tables.bankA[f]
      | .b => s.tables.bankB[f]) →
    i = (if v.natAbs < s.tables.feeder[f].iDb then 0 else v) →
    let run := if disc = true then 0 else s.fpu[f].imaxRun
    let t := s.fpuDeliver f v k disc
    (s.tables.feeder[f].inUse = false → t = s) ∧
    (s.tables.feeder[f].inUse = true →
      (b.imaxEnable = false → t.fpu[f].imaxRun = 0) ∧
      (b.imaxEnable = true → v.natAbs < b.iMax → t.fpu[f].imaxRun = 0) ∧
      (b.imaxEnable = true → b.iMax ≤ v.natAbs → min 4 (run + 1) < b.confirm →
        t.fpu[f].imaxRun = min 4 (run + 1)) ∧
      (b.imaxEnable = true → b.iMax ≤ v.natAbs → b.confirm ≤ min 4 (run + 1) →
        t.fpu[f].imaxRun = 0 ∧ t.fct[f].operateIn = s.fct[f].operateIn ++
          [{ cause := .imax, bank := s.sco.sect[f].bank, current := v, delta := none, t := none,
             theta := none, phaseBack := b.pbImax, transfer := b.trImax }]) ∧
      (¬ (b.imaxEnable = true ∧ b.iMax ≤ v.natAbs ∧ b.confirm ≤ min 4 (run + 1)) →
        ∀ r ∈ t.fct[f].operateIn, r ∈ s.fct[f].operateIn ∨ r.cause = .ddl) ∧
      t.fpu[f] = { s.fpu[f] with imaxRun := t.fpu[f].imaxRun, ddl := t.fpu[f].ddl
                                 sum := s.fpu[f].sum + i.natAbs * i.natAbs, count := s.fpu[f].count + 1 } ∧
      (∀ g : Feeder, g ≠ f → t.fpu[g] = s.fpu[g] ∧ t.fct[g] = s.fct[g]) ∧
      t.fct[f] = { s.fct[f] with operateIn := t.fct[f].operateIn } ∧
      t = { s with fpu := t.fpu, fct := t.fct })

/-- DDL at a delivery, R24 and R31 to R34 with R23 and R39: the marked delivery, the start, the trip test, the return
test and the report (IMAX's alone where both operate), with I the dead-banded current and k the interval. -/
def Obligations.DdlAtDelivery : Prop :=
  ∀ (s : State) (f : Feeder) (v : Int) (k : Nat) (disc : Bool) (b : BankRec) (bank : Bank) (i : Int) (t : State),
    s.tables.feeder[f].inUse = true → bank = s.sco.sect[f].bank →
    b = (match bank with
      | .a => s.tables.bankA[f]
      | .b => s.tables.bankB[f]) →
    i = (if v.natAbs < s.tables.feeder[f].iDb then 0 else v) → t = s.fpuDeliver f v k disc →
    let delta (base : Int) : Int :=
      if i - base < -60000 then -60000 else if 60000 < i - base then 60000 else i - base
    let imax : Prop := b.imaxEnable = true ∧ b.iMax ≤ v.natAbs ∧
      b.confirm ≤ min 4 ((if disc = true then 0 else s.fpu[f].imaxRun) + 1)
    let operates (r : DdlRun) : Prop := t.fpu[f].ddl = { iPrev := some i, run := none } ∧
      (¬ imax → t.fct[f].operateIn = s.fct[f].operateIn ++
          [{ cause := .ddl, bank := r.bank, current := v, delta := some (delta r.base), t := some r.t,
             theta := none, phaseBack := r.phaseBack, transfer := r.transfer }]) ∧
      (imax → t.fct[f].operateIn = s.fct[f].operateIn ++
          [{ cause := .imax, bank := bank, current := v, delta := none, t := none, theta := none,
             phaseBack := b.pbImax, transfer := b.trImax }])
    let rests (run : Option DdlRun) : Prop := t.fpu[f].ddl = { iPrev := some i, run := run } ∧
      ∀ r ∈ t.fct[f].operateIn, r ∈ s.fct[f].operateIn ∨ r.cause = .imax
    (disc = true ∨ s.fpu[f].ddl.iPrev = none → rests none) ∧
    (∀ prev, disc = false → s.fpu[f].ddl.iPrev = some prev →
      let di := (i - prev).tdiv k
      (s.fpu[f].ddl.run = none →
        (b.ddlEnable = false ∨ di < b.diStart → rests none) ∧
        (b.ddlEnable = true → (b.diStart : Int) ≤ di → ∃ r : DdlRun,
          r = { bank := bank, diStart := b.diStart, diReset := b.diReset, deltaTrip := b.deltaTrip,
                tMin := b.tMin, tMax := b.tMax, tReset := b.tReset, phaseBack := b.pbDdl,
                transfer := b.trDdl, base := prev, t := k, low := 0 } ∧
          ((r.deltaTrip : Int) ≤ delta prev ∧ r.tMin ≤ k → operates r) ∧
          (¬ ((r.deltaTrip : Int) ≤ delta prev ∧ r.tMin ≤ k) → rests (some r)))) ∧
      (∀ r0, s.fpu[f].ddl.run = some r0 → ∃ r : DdlRun,
        r = { r0 with t := r0.t + k, low := if di < r0.diReset then r0.low + k else 0 } ∧
        ((r.deltaTrip : Int) ≤ delta r.base ∧ r.tMin ≤ r.t → operates r) ∧
        (¬ ((r.deltaTrip : Int) ≤ delta r.base ∧ r.tMin ≤ r.t) →
          (delta r.base < 0 ∨ r.tReset ≤ r.low ∨ r.tMax < r.t → rests none) ∧
          (¬ (delta r.base < 0 ∨ r.tReset ≤ r.low ∨ r.tMax < r.t) → rests (some r)))))

/-- THERMAL_PERIOD_END at the period end that is due, R35 to R39: θ follows the mean square of the period in steps
truncated toward zero but of at least one unit, the marks are compared with θ, and a newly raised mark posts
THERMAL_ALARM or hands the report; a feeder blind or not in use is left as it stands. The command takes the period
end of every feeder in the order of the numbers, and then, feeder by feeder, examines the holds of DEAD_TIME (R64)
and the close condition of FOLLOW (R67); before the period end it has no effect (log entry 3; the order is the
model's choice, log entries 18 and 33; DEAD_TIME with timer none is the wait for the holds, log entry 24). -/
def Obligations.ThermalPeriodEnds : Prop :=
  (∀ (s : State) (f : Feeder) (r : FeederRec) (p : Fpu) (theta : Nat), r = s.tables.feeder[f] → p = s.fpu[f] →
    theta = (if p.count = 0 then p.theta else
      let q : Int := min 65535 ((p.sum / p.count * 10000 / (r.iTh * r.iTh) : Nat) : Int)
      let d : Int := (q - p.theta).tdiv r.tauT
      let step : Int := if d ≠ 0 then d else if q > p.theta then 1 else if q < p.theta then -1 else 0
      (min 65535 (max 0 (p.theta + step))).toNat) →
    (r.inUse = false ∨ s.smp.points[f.val].sighted = false → s.fpuPeriodEnd f = s) ∧
    (r.inUse = true → s.smp.points[f.val].sighted = true →
      Reports { s with
        fpu := s.fpu.set f { p with theta := theta, sum := 0, count := 0
                                    alarmMark := decide (r.thetaAlarm ≤ theta)
                                    tripMark := decide (r.thetaTrip ≤ theta) }
        fct := s.fct.set f { s.fct[f] with operateIn := s.fct[f].operateIn ++
          (if r.thetaTrip ≤ theta ∧ p.tripMark = false then
            [{ cause := .thermal, bank := s.sco.sect[f].bank, current := s.smp.points[f.val].last,
               delta := none, t := none, theta := some theta, phaseBack := false, transfer := false }]
          else []) } } (s.fpuPeriodEnd f)
        (if r.thetaAlarm ≤ theta ∧ p.alarmMark = false then
          [(.thermalAlarm, .feeder f, none, some (theta : Int))] else []))) ∧
  (∀ s : State, s.phase = .running → 400 ≤ s.clock.thermal → ∃ t : State,
    exec .thermalPeriodEnd s = .next t ∧ t.clock = { s.clock with thermal := s.clock.thermal - 400 } ∧
    (∀ f : Feeder, t.fpu[f] = (s.fpuPeriodEnd f).fpu[f] ∧
      t.fct[f].operateIn = (s.fpuPeriodEnd f).fct[f].operateIn) ∧
    (∃ x y : Nat → State, x 0 = { s with clock := { s.clock with thermal := s.clock.thermal - 400 } } ∧
      (∀ f : Feeder, x (f.val + 1) = (x f.val).fpuPeriodEnd f) ∧ y 0 = x 10 ∧
      (∀ f : Feeder, ∃ v : State, HoldsExamined (y f.val) v f ∧ FollowExamined v (y (f.val + 1)) f) ∧
      t = y 10) ∧
    Untouched s { t with clock := s.clock } ∧ t.rcu = s.rcu ∧ t.stl = s.stl ∧ t.drc = s.drc) ∧
  (∀ s : State, s.phase = .running → s.clock.thermal < 400 → exec .thermalPeriodEnd s = .next s)

/-- A delivery record goes to the consumers of its point, R3: the feeder's elements and then the holds of its dead
time (R64); the close condition of FOLLOW (R67) and then the test window; the head of the test queue (R81);
overcurrent, R134, which blocks the rectifier at the second value in a run; and the leakage element (R155). DEAD_TIME
with its timer none is the wait for the holds (the model's choice, log entry 24). -/
def Obligations.DeliveriesByPoint : Prop :=
  ∀ (s t : State) (p : Point) (v : Int) (k : Nat) (disc : Bool), t = s.deliver p v k disc →
    (p.val = 22 → t = s) ∧ (p.val = 23 → t = s.leakDeliver v k disc) ∧ (p.val = 20 → t = s.examineHead) ∧
    (p.val = 21 →
      let active : Prop := s.rcu.state ∈ [.starting, .regulating, .phaseBack, .stopping]
      let run : Nat := if (s.tables.station.iRectTrip : Int) ≤ v
        then (if disc = true then 0 else s.rcu.ocRun) + 1 else 0
      (¬ active → t = s) ∧
      (active → run < 2 → t = { s with rcu := { s.rcu with ocRun := run } }) ∧
      (active → 2 ≤ run → RectEntered { s with rcu := { s.rcu with ocRun := 0 } } t .blocked
        (some .overcurrent) (some 2000))) ∧
    (∀ (f : Feeder) (c : Fct) (r : FeederRec), c = s.fct[f] → r = s.tables.feeder[f] →
      let ready : Prop := c.supervised = true ∧ (∃ b, c.status = some b ∧ b.ready = true ∧ b.localOp = false) ∧
        s.smp.points[f.val].sighted = true ∧ (c.openingCause = some .thermal → s.fpu[f].theta < r.thetaAlarm)
      let live : Prop := s.smp.points[f.val + 10].sighted = true ∧
        (r.vLive : Int) ≤ s.smp.points[f.val + 10].last ∧ s.sco.sect[f].coupled = true ∧
        ∃ e, s.sco.sect[f].far = some e ∧ e.closed = true
      let closing (x y : State) : Prop :=
        Reports { x.sendOrder f .close with fct := x.fct.set f (closingRecord x.fct[f] r) } y []
      (p.val = f.val → ∀ w : State, w = s.fpuDeliver f v k disc →
        (¬ (c.state = .deadTime ∧ c.timer = none ∧ ready) → t = w) ∧
        (c.state = .deadTime → c.timer = none → ready → live → closing w t) ∧
        (c.state = .deadTime → c.timer = none → ready → ¬ live → ∃ u : State, Reports { w with
            fct := w.fct.set f (testWaitRecord w.fct[f] false c.attempts)
            ltu := { s.ltu with queue := s.ltu.queue ++ [f] } } u [] ∧
          t = if (s.ltu.queue ++ [f]).head? = some f then u.examineHead else u)) ∧
      (p.val = f.val + 10 →
        (¬ (c.state = .follow ∧ ready ∧ live) → t = s.ltuLine f v) ∧
        (c.state = .follow → ready → live → ∃ u : State, closing s u ∧ t = u.ltuLine f v)))

/-! ### Feeder switching -/

/-- OPERATE_REPORT, R59 and R60 with R43 and R44: which reports are taken, the hands of a taken trip in their order,
OPENING with its cause, and the decision at once when the last position is OPEN; in LOCKOUT with the breaker not open
the hands alone; a report not taken is discarded. The oldest report of the event is the one taken (log entry 4). -/
def Obligations.OperateReportByState : Prop :=
  ∀ (s : State) (f : Feeder) (source : ReportSource) (r : OperateReport) (c : Fct), s.phase = .running →
    c = s.fct[f] → c.operateIn.find? (fun x => x.from source) = some r →
    let s1 : State := { s with fct := s.fct.set f { c with operateIn := c.operateIn.erase r } }
    let tripped (t : State) : Prop := Reports { s1.sendOrder f .opened with
      fpu := (s.fpu.set f { s.fpu[f] with context := (contextAfter s.fpu[f].context
        { cause := r.cause, time := s.evr.ms, bank := r.bank, current := r.current, delta := r.delta,
          t := r.t, theta := r.theta, secNo := none, further := 0 }) })
      drc := s.drc.trigger s.tables s.evr.ms r.cause (.feeder f) } t
      [(.feederTrip, .feeder f, some r.cause, some r.current)]
    (c.state ∈ [.out, .testWait, .testing, .opening, .deadTime, .follow] ∨
        (c.state = .lockout ∧ lastPosition c ≠ some .closed ∧ lastPosition c ≠ some .travel) →
      exec (.operateReport f source) s = .next s1) ∧
    (c.state = .lockout → (lastPosition c = some .closed ∨ lastPosition c = some .travel) →
      ∃ t : State, tripped t ∧ exec (.operateReport f source) s = .next t) ∧
    (c.state ∈ [.unknown, .service, .closing] → ∃ t u v w : State, tripped t ∧
      u = (if r.phaseBack = true then
        State.phaseBackRequest { t with fct := t.fct.set f { t.fct[f] with pbRaised := true } } f else t) ∧
      v = (if r.transfer = true then u.ttRequest f false else u) ∧
      Reports { v with fct := (v.fct.set f { openingRecord v.fct[f] s.tables.feeder[f] r.cause with
        timer := if lastPosition c = some .opened then none
          else some (4 * s.tables.feeder[f].tOpen) }) } w [] ∧
      exec (.operateReport f source) s =
        .next (if lastPosition c = some .opened then w.openingCompletes f else w))

/-- A transfer trip at the controller, R59 and R60 with R43, R44 and R92: taken in UNKNOWN, SERVICE, CLOSING and
TESTING, with its hands in their order and OPENING with cause TRANSFER; in TESTING the test is ended before (log
entry 18), and the opening completes at once, as it does when the last position is OPEN; in the other states it is
discarded. -/
def Obligations.TransferTripByState : Prop :=
  ∀ (s : State) (f : Feeder) (c : Fct) (open' : Prop), c = s.fct[f] →
    (open' ↔ (c.state = .testing ∨ lastPosition c = some .opened)) →
    (c.state ∈ [.out, .testWait, .opening, .deadTime, .follow, .lockout] → s.takeTransfer f = s) ∧
    (c.state ∈ [.unknown, .service, .closing, .testing] → ∃ t u w : State,
      Reports { s.sendOrder f (if c.state = .testing then .testOff else .opened) with
        fpu := (s.fpu.set f { s.fpu[f] with context := (contextAfter s.fpu[f].context
          { cause := .transfer, time := s.evr.ms, bank := s.sco.sect[f].bank,
            current := s.smp.points[f.val].last, delta := none, t := none, theta := none,
            secNo := some s.tables.feeder[f].secNo, further := 0 }) }) } t
        [(.feederTrip, .feeder f, some .transfer, some s.smp.points[f.val].last)] ∧
      u = (if c.state = .testing then t.ltuWithdraw f else t) ∧
      (open' → Reports { u with fct := (u.fct.set f { openingRecord u.fct[f] s.tables.feeder[f] .transfer with
        timer := none }) } w [] ∧ s.takeTransfer f = w.openingCompletes f) ∧
      (¬ open' → Reports { u with fct := (u.fct.set f
        (openingRecord u.fct[f] s.tables.feeder[f] .transfer)) } (s.takeTransfer f) []))

/-- The opening that completes, R62 with R56 and R75: T_open cancelled, a raised phase-back request withdrawn,
FEEDER_OPENED, and the next state of the first row that fits, with its event. -/
def Obligations.RecloseDecision : Prop :=
  ∀ (s : State) (f : Feeder) (c : Fct) (r : FeederRec) (cause : Cause), c = s.fct[f] → r = s.tables.feeder[f] →
    c.openingCause = some cause →
    cause ∈ [.imax, .ddl, .thermal, .transfer, .station, .command, .blind] →
    ∃ (u : State) (after : Fct) (posts : List (EventKind × Subject × Option Cause × Option Int)),
      u = (let v : State := { s with fct := s.fct.set f { c with timer := none, pbRaised := false } }
        if c.pbRaised = true then v.phaseBackWithdraw f else v) ∧
      Reports { u with fct := u.fct.set f after } (s.openingCompletes f)
        ((.feederOpened, .feeder f, some cause, some (c.attempts : Int)) :: posts) ∧
      (let locked (why : Cause) : Prop := after = lockoutRecord c why ∧
        posts = [(.lockout, .feeder f, some why, some (c.attempts : Int))]
      let dead (n : Nat) : Prop := after = deadTimeRecord c r n ∧
        posts = [(.recloseStart, .feeder f, some cause, some (n : Int))]
      if c.ttFail = true then locked .ttFail
      else if cause = .station then locked .station
      else if cause = .blind then locked .blind
      else if cause = .command ∨ c.opOpen = true then after = outRecord c ∧ posts = []
      else if s.sco.sect[f].coupled = true ∧ r.testEnd = false then after = followRecord c r ∧ posts = []
      else if cause = .thermal then dead (if c.attempts < r.attempts then c.attempts + 1 else c.attempts)
      else if c.attempts < r.attempts then dead (c.attempts + 1)
      else locked .recloseExhausted)

/-- TEST_OUTCOME, R65: the kind the controller counts, CLOSING on PASS or LIVE, and on FAIL or INCONCLUSIVE
TEST_FAIL for an operator close, the next attempt, or LOCKOUT; an outcome handed to a feeder no longer in test is
dropped. The row takes the oldest outcome that waits (log entry 4); the outcome of a release is taken in the event
that ends it (log entry 26). -/
def Obligations.TestOutcomeTaken : Prop :=
  ∀ (s : State) (f : Feeder) (c : Fct) (o : TestOutcome) (rest : List TestOutcome), s.phase = .running →
    c = s.fct[f] → c.outcomeIn = o :: rest →
    let u : State := { s with fct := s.fct.set f { c with outcomeIn := rest } }
    (c.state ∉ [.testWait, .testing] → exec (.testOutcome f) s = .next u) ∧
    (c.state ∈ [.testWait, .testing] → ∃ t : State, exec (.testOutcome f) s = .next t ∧ OutcomeTaken u t f o [])

/-- TT_FAIL reports, R68: TT_FAIL_REPORT takes the report that waits and has no effect where none waits (the model's
choice, log entry 4), and T_TT_EXPIRY, R115, marks the request failed, posts TT_FAIL and takes the report in the
same event (log entry 5); the mark in OPENING, LOCKOUT from the states with a close pending after the test is
withdrawn (log entry 18), no change in the others. -/
def Obligations.TtFailByState : Prop :=
  (∀ (s : State) (f : Feeder) (c : Fct), c = s.fct[f] →
    (c.state = .opening → s.takeTtFail f = { s with fct := s.fct.set f { c with ttFail := true } }) ∧
    (c.state ∈ [.unknown, .out, .closing, .service, .lockout] → s.takeTtFail f = s) ∧
    (c.state ∈ [.testWait, .testing, .deadTime, .follow] → ∃ u : State,
      u = (if c.state = .testWait then s.ltuWithdraw f
        else if c.state = .testing then (s.sendOrder f .testOff).ltuWithdraw f else s) ∧
      Reports { u with fct := u.fct.set f (lockoutRecord c .ttFail) } (s.takeTtFail f)
        [(.lockout, .feeder f, some .ttFail, some (c.attempts : Int))])) ∧
  (∀ (s : State) (f : Feeder), s.phase = .running →
    (s.fct[f].ttFailIn = 0 → exec (.ttFailReport f) s = .next s) ∧
    (0 < s.fct[f].ttFailIn → exec (.ttFailReport f) s = .next (State.takeTtFail { s with
      fct := s.fct.set f { s.fct[f] with ttFailIn := s.fct[f].ttFailIn - 1 } } f)) ∧
    ((s.sco.sect[f].hs.ttReq = true ∨ s.sco.sect[f].hs.pending = true) → s.sco.sect[f].hs.timer = some 0 →
      ∃ u : State, Reports { s with sco := { s.sco with sect := (s.sco.sect.set f { s.sco.sect[f] with
          hs := { s.sco.sect[f].hs with failed := true, timer := none } }) } } u
        [(.ttFail, .feeder f, some .timeout, some (s.tables.feeder[f].secNo : Int))] ∧
        exec (.tTtExpiry f) s = .next (u.takeTtFail f)))

/-- T_OPEN_EXPIRY, R63 with R43 and R44, and T_CLOSE_EXPIRY, R66: what each hands, in order, and LOCKOUT with its
cause; a timer that has not run out, or another state, is left as it stands (log entry 3; log entry 29 for the
values). -/
def Obligations.SwitchingTimersExpire : Prop :=
  ∀ (s : State) (f : Feeder) (c : Fct) (r : FeederRec), s.phase = .running → c = s.fct[f] →
    r = s.tables.feeder[f] →
    (¬ (c.state = .opening ∧ c.timer = some 0) → exec (.tOpenExpiry f) s = .next s) ∧
    (¬ (c.state = .closing ∧ c.timer = some 0) → exec (.tCloseExpiry f) s = .next s) ∧
    (c.state = .opening → c.timer = some 0 → ∃ u t : State,
      u = (let v : State := { s with fct := s.fct.set f { c with pbRaised := false } }
        if c.pbRaised = true then v.phaseBackWithdraw f else s) ∧
      exec (.tOpenExpiry f) s = .next t ∧
      Reports { u with
        fct := u.fct.set f (lockoutRecord c .breakerFail)
        fpu := (u.fpu.set f { u.fpu[f] with context := (contextAfter s.fpu[f].context
          { cause := .breakerFail, time := s.evr.ms, bank := s.sco.sect[f].bank,
            current := s.smp.points[f.val].last, delta := none, t := none, theta := none, secNo := none,
            further := 0 }) })
        stl := { s.stl with failNotices := s.stl.failNotices ++ [f] } } t
        [(.breakerFail, .feeder f, c.openingCause, some (r.tOpen : Int)),
          (.lockout, .feeder f, some .breakerFail, some (c.attempts : Int))]) ∧
    (c.state = .closing → c.timer = some 0 → ∃ t : State, exec (.tCloseExpiry f) s = .next t ∧
      Reports { s.sendOrder f .opened with fct := s.fct.set f (lockoutRecord c .closeFail) } t
        [(.closeFail, .feeder f, none, some (r.tClose : Int)),
          (.lockout, .feeder f, some .closeFail, some (c.attempts : Int))])

/-- DEAD_TIME_EXPIRY, R64 with R54: the holds keep the feeder in DEAD_TIME (log entry 24), a live line whose far end
is closed leads to CLOSING, any other to TEST_WAIT and the test queue. RECLAIM_EXPIRY, R61, clears the counter.
FOLLOW_TIMEOUT, R67, locks the feeder out. -/
def Obligations.ReclosingTimersExpire : Prop :=
  ∀ (s : State) (f : Feeder) (c : Fct) (r : FeederRec) (holds live : Prop), s.phase = .running → c = s.fct[f] →
    r = s.tables.feeder[f] → c.timer = some 0 →
    (holds ↔ ¬ (c.supervised = true ∧ (∃ b, c.status = some b ∧ b.ready = true ∧ b.localOp = false) ∧
      s.smp.points[f.val].sighted = true ∧ (c.openingCause = some .thermal → s.fpu[f].theta < r.thetaAlarm))) →
    (live ↔ (s.smp.points[f.val + 10].sighted = true ∧ (r.vLive : Int) ≤ s.smp.points[f.val + 10].last ∧
      s.sco.sect[f].coupled = true ∧ ∃ e, s.sco.sect[f].far = some e ∧ e.closed = true)) →
    (c.state = .service → exec (.reclaimExpiry f) s =
      .next { s with fct := s.fct.set f { c with attempts := 0, timer := none } }) ∧
    (c.state = .follow → ∃ t : State, exec (.followTimeout f) s = .next t ∧
      Reports { s with fct := s.fct.set f (lockoutRecord c .followTimeout) } t
        [(.lockout, .feeder f, some .followTimeout, some (c.attempts : Int))]) ∧
    (c.state = .deadTime →
      (holds → exec (.deadTimeExpiry f) s = .next { s with fct := s.fct.set f { c with timer := none } }) ∧
      (¬ holds → live → ∃ t : State, exec (.deadTimeExpiry f) s = .next t ∧
        Reports { s.sendOrder f .close with fct := s.fct.set f (closingRecord c r) } t []) ∧
      (¬ holds → ¬ live → ∃ u : State, Reports { s with
          fct := s.fct.set f (testWaitRecord c false c.attempts)
          ltu := { s.ltu with queue := s.ltu.queue ++ [f] } } u [] ∧
        exec (.deadTimeExpiry f) s =
          .next (if (s.ltu.queue ++ [f]).head? = some f then u.examineHead else u)))

/-- BREAKER_SUPERVISION_EXPIRY, R53 and R93: the breaker becomes unsupervised with its status unknown and the state
kept; a feeder in test leaves its place in the queue, in its slot or in the wait for an outcome, TEST_OFF ending a
running test, LINE_TEST_RESULT is posted, and its controller takes INCONCLUSIVE in the same event (R65; log entries
18 and 26), before the new head is examined (the model's choice, log entry 18); a timer that has not run out is left
as it stands (the model's choice, log entry 3). -/
def Obligations.SupervisionExpires : Prop :=
  ∀ (s s1 : State) (f : Feeder) (c : Fct), s.phase = .running → c = s.fct[f] →
    s1 = { s with fct := s.fct.set f { c with status := none, supervised := false, supTimer := none } } →
    (c.supTimer ≠ some 0 → exec (.breakerSupervisionExpiry f) s = .next s) ∧
    (c.supTimer = some 0 →
      (c.state ∉ [.testWait, .testing] → exec (.breakerSupervisionExpiry f) s = .next s1) ∧
      (c.state ∈ [.testWait, .testing] → ∃ u v w t : State,
        exec (.breakerSupervisionExpiry f) s = .next t ∧ LeftPlace s1 u f ∧
        v = (if s.ltu.slot[0].testing = some f ∨ s.ltu.slot[1].testing = some f then u.sendOrder f .testOff
          else u) ∧
        OutcomeTaken v w f { kind := .inconclusive, rLine := none }
          [(.lineTestResult, .feeder f, some .inconclusive, none)] ∧
        ExaminedIf (s.ltu.queue.head? = some f) w t))

/-- BREAKER_STATUS_FRAME, R52 with R57, R58, R61, R62, R64, R66, R67, R69, R73, R81, R84 to R88 and R92: the
report is kept, the supervision timer restarts, the position moves the feeder by its state, the test contactor
field moves the slots, and the head is examined when the feeder is the head (log entry 15 for this order); a
feeder in test that a CLOSED position withdraws has the new head examined before it enters SERVICE (the model's
choice, log entry 18), and DEAD_TIME with timer none is the wait for the holds (log entry 24); the outcome that
the end of a release hands is taken by the controller in the same event (log entry 26); a report of no in-use
feeder's breaker node is ignored. -/
def Obligations.BreakerStatusTaken : Prop :=
  (∀ (s : State) (fr : RxFrame), ForPart s 3 fr →
    ((∀ f : Feeder, s.tables.feeder[f].inUse = true →
        s.tables.feeder[f].breakerNode ≠ some fr.src.toNat) → exec (.breakerStatusFrame fr) s = .next s) ∧
    (∀ (f : Feeder) (st : BreakerStatus), s.tables.feeder[f].inUse = true →
      s.tables.feeder[f].breakerNode = some fr.src.toNat →
      (∀ g : Feeder, s.tables.feeder[g].inUse = true →
        s.tables.feeder[g].breakerNode = some fr.src.toNat → g = f) →
      st = { position := if fr.payload.getD 0 0 = 0 then .opened
               else if fr.payload.getD 0 0 = 1 then .closed else .travel
             ready := (fr.payload.getD 1 0).getLsbD 0
             localOp := (fr.payload.getD 1 0).getLsbD 1
             contactor := (fr.payload.getD 1 0).getLsbD 2 } →
      ∃ x y t : State, exec (.breakerStatusFrame fr) s = .next t ∧
        PositionTaken { s with fct := s.fct.set f { s.fct[f] with
          status := some st, supervised := true, supTimer := some 2000 } } x f st.position ∧
        y = x.ltuContactor s.ltu.slot f st.contactor ∧ ExaminedIf (y.ltu.queue.head? = some f) y t ∧
        Untouched s t ∧ t.fpu = s.fpu ∧
        t.stl = s.stl ∧ t.drc = s.drc ∧ (∀ g : Feeder, g ≠ f → t.fct[g].status = s.fct[g].status ∧
          t.fct[g].supervised = s.fct[g].supervised ∧ t.fct[g].supTimer = s.fct[g].supTimer) ∧
        t.fct[f].status = some st ∧ t.fct[f].supervised = true ∧ t.fct[f].supTimer = some 2000 ∧
        (f ∉ s.ltu.queue → s.smp.points[f.val].sighted = true →
          (st.position = .closed →
            (s.fct[f].state ∈ [.unknown, .out, .testWait, .testing, .closing, .deadTime, .follow] →
              t.fct[f].state = .service ∧ t.fct[f].timer = some (400 * s.tables.feeder[f].reclaim) ∧
              t.fct[f].attempts =
                (if s.fct[f].state ∈ [.unknown, .out] then 0 else s.fct[f].attempts)) ∧
            (s.fct[f].state ∈ [.service, .opening, .lockout] → t.fct[f].state = s.fct[f].state ∧
              t.fct[f].timer = s.fct[f].timer ∧ t.fct[f].attempts = s.fct[f].attempts)) ∧
          (st.position = .opened → s.fct[f].state ∈ [.unknown, .service] → t.fct[f].state = .out ∧
            (s.fct[f].state = .service → t.fct[f].attempts = 0)) ∧
          ((st.position = .opened ∧ s.fct[f].state ∈ [.out, .testWait, .testing, .closing, .lockout]) ∨
              (st.position = .travel ∧ s.fct[f].state ∉ [.deadTime, .follow]) →
            s.fct[f].state ∉ [.testWait, .testing] ∨ st.contactor = true ∨
              (∀ (k : TestSlot) (n : Nat) (o : TestOutcome), s.ltu.slot[k] ≠ .release f n (some o)) →
            t.fct[f].state = s.fct[f].state ∧ t.fct[f].timer = s.fct[f].timer)))) ∧
  (∀ (s : State) (before : Vector TestPhase 2) (f : Feeder) (on : Bool), ∃ u : State,
    ContactorTaken s u before[0] f on 0 ∧ ContactorTaken u (s.ltuContactor before f on) before[1] f on 1)

/-- FEEDER_OPEN, R71: refused STATE for a feeder not in use; otherwise answered OK and acting by the state, without a
trip. A feeder that is withdrawn from its test, R92, leaves the queue, its slot or the wait for its outcome, and the
new head is examined when the feeder was the head (R81), before the feeder enters its new state (log entry 18). -/
def Obligations.FeederOpenByState : Prop :=
  (∀ (s : State) (r : Request) (f : Feeder) (c : Fct), Granted s r 3 32 → r.index = f.val → c = s.fct[f] →
    let p : State := popped s
    (s.tables.feeder[f].inUse = false → Serves .feederOpen s r .state [] p) ∧
    (s.tables.feeder[f].inUse = true →
      (c.state ∈ [.unknown, .service, .closing] → ∃ u : State, Serves .feederOpen s r .ok [] u ∧
        Reports { p.sendOrder f .opened with
          fct := s.fct.set f (openingRecord c s.tables.feeder[f] .command) } u []) ∧
      (c.state ∈ [.testWait, .testing, .deadTime, .follow] → ∃ w u : State, Serves .feederOpen s r .ok [] u ∧
        w = (if c.state = .testWait then p.ltuWithdraw f
          else if c.state = .testing then (p.sendOrder f .testOff).ltuWithdraw f else p) ∧
        Reports { w with fct := w.fct.set f (outRecord c) } u []) ∧
      (c.state = .opening → Serves .feederOpen s r .ok []
        { p with fct := s.fct.set f { c with opOpen := true } }) ∧
      (c.state = .out → Serves .feederOpen s r .ok [] p) ∧
      (c.state = .lockout → Serves .feederOpen s r .ok []
        (if lastPosition c = some .closed ∨ lastPosition c = some .travel then p.sendOrder f .opened else p)))) ∧
  (∀ (s : State) (f : Feeder), ∃ u : State, LeftPlace s u f ∧
    ExaminedIf (s.ltu.queue.head? = some f) u (s.ltuWithdraw f))

/-- FEEDER_CLOSE, R70 with R58 and R80: the refusals in their order, and TEST_WAIT with the operator close mark at the
tail of the test queue. FEEDER_RESET, R72: its refusals, and OUT with the counter 0. CLEAR_CONTEXT, R45: the trip
context record becomes empty. -/
def Obligations.FeederCommandsServed : Prop :=
  ∀ (s : State) (r : Request) (f : Feeder) (c : Fct), r.index = f.val → c = s.fct[f] →
    let p : State := popped s
    (Granted s r 3 33 →
      let ready : Prop := c.supervised = true ∧ ∃ b, c.status = some b ∧ b.ready = true ∧ b.localOp = false
      (s.tables.feeder[f].inUse = false ∨ s.stl.lockout = true ∨ s.mga.unconfigured = true ∨
        c.state ≠ .out → Serves .feederClose s r .state [] p) ∧
      (s.tables.feeder[f].inUse = true → s.stl.lockout = false → s.mga.unconfigured = false →
        c.state = .out →
        (s.smp.points[f.val].sighted = false → Serves .feederClose s r .blind [] p) ∧
        (s.smp.points[f.val].sighted = true → ¬ ready → Serves .feederClose s r .state [] p) ∧
        (s.smp.points[f.val].sighted = true → ready → ∃ u : State,
          Reports { p with
            fct := s.fct.set f (testWaitRecord c true 0)
            ltu := { s.ltu with queue := s.ltu.queue ++ [f] } } u [] ∧
          Serves .feederClose s r .ok []
            (if (s.ltu.queue ++ [f]).head? = some f then u.examineHead else u)))) ∧
    (Granted s r 3 34 →
      (s.tables.feeder[f].inUse = false ∨ c.state ≠ .lockout ∨ s.stl.lockout = true ∨
        lastPosition c ≠ some .opened → Serves .feederReset s r .state [] p) ∧
      (s.tables.feeder[f].inUse = true → c.state = .lockout → s.stl.lockout = false →
        lastPosition c = some .opened → ∃ u : State, Serves .feederReset s r .ok [] u ∧
          Reports { p with fct := s.fct.set f (outRecord c) } u [])) ∧
    (Granted s r 3 35 → ∃ u : State, Serves .clearContext s r .ok [] u ∧
      Reports { p with fpu := s.fpu.set f { s.fpu[f] with context := none } } u [])

/-! ### Line testing -/

/-- An examination of the head, R81 to R83 with R79 and R95's reasons to wait: a head that cannot be granted waits
with all behind it; a dead bus gives INCONCLUSIVE at once, which waits for the row TEST_OUTCOME (log entry 26);
otherwise the feeder takes slot 0 when it is FREE and slot 1 when not, moves to TESTING and is sent TEST_ON; and the
new head is examined. -/
def Obligations.HeadExamined : Prop :=
  ∀ s : State, (s.ltu.queue = [] → s.examineHead = s) ∧
    (∀ (f : Feeder) (rest : List Feeder) (c : Fct), s.ltu.queue = f :: rest → rest.length ≤ 9 → c = s.fct[f] →
      ((s.ltu.slot[0] ≠ .free ∧ s.ltu.slot[1] ≠ .free) ∨ s.smp.points[20].sighted = false ∨
          s.sco.sect[f].far.any SectionEntry.testActive = true ∨
          (∃ (k : TestSlot) (n : Nat) (o : Option TestOutcome), s.ltu.slot[k] = .release f n o) →
        s.examineHead = s) ∧
      (∀ k : TestSlot, (k = 0 ∧ s.ltu.slot[0] = .free) ∨
          (k = 1 ∧ s.ltu.slot[0] ≠ .free ∧ s.ltu.slot[1] = .free) →
        s.smp.points[20].sighted = true → s.sco.sect[f].far.any SectionEntry.testActive = false →
        (∀ (j : TestSlot) (n : Nat) (o : Option TestOutcome), s.ltu.slot[j] ≠ .release f n o) →
        (s.smp.points[20].last < s.tables.station.vBusMin → ∃ u : State,
          Reports { s with
            ltu := { s.ltu with queue := rest }
            fct := (s.fct.set f { c with
              outcomeIn := c.outcomeIn ++ [{ kind := .inconclusive, rLine := none }] }) } u
            [(.lineTestResult, .feeder f, some .inconclusive, none)] ∧
          s.examineHead = u.examineHead) ∧
        ((s.tables.station.vBusMin : Int) ≤ s.smp.points[20].last → ∃ u : State,
          Reports { s.sendOrder f .testOn with
            ltu := { queue := rest, slot := s.ltu.slot.set k (.contact f 800) }
            fct := (s.fct.set f { testWaitRecord c c.opClose c.attempts with state := .testing }) } u [] ∧
          s.examineHead = u.examineHead)))

/-- The three timers of a slot, R84, R85 and R88 with R94: the contactor timer ends the test INCONCLUSIVE, the settle
timer begins the window of the feeder's length, the release timer frees the slot, an outcome that is pending being
handed as INCONCLUSIVE and taken by the controller in the same event (R65, log entry 26), and then the head is
examined; a timer that has not run out is left as it stands (log entry 3). -/
def Obligations.SlotTimersExpire : Prop :=
  ∀ (s : State) (k : TestSlot), s.phase = .running →
    (∀ f : Feeder, s.ltu.slot[k] = .contact f 0 →
      exec (.contactorTimerExpiry k) s = .next (State.sendOrder { s with ltu := { s.ltu with slot :=
        (s.ltu.slot.set k (.release f 800 (some { kind := .inconclusive, rLine := none }))) } } f .testOff)) ∧
    (∀ f : Feeder, s.ltu.slot[k] = .settle f 0 →
      exec (.settleTimerExpiry k) s = .next { s with ltu := { s.ltu with slot :=
        (s.ltu.slot.set k (.window f s.tables.feeder[f].window 0 0 0)) } }) ∧
    (∀ f : Feeder, s.ltu.slot[k] = .release f 0 none →
      exec (.releaseTimerExpiry k) s = .next (State.examineHead { s with ltu := { s.ltu with slot :=
        (s.ltu.slot.set k .free) } })) ∧
    (∀ (f : Feeder) (o : TestOutcome), s.ltu.slot[k] = .release f 0 (some o) → ∃ u : State,
      SlotFreed s u k f (some { kind := .inconclusive, rLine := none }) ∧
      exec (.releaseTimerExpiry k) s = .next u.examineHead) ∧
    ((∀ f : Feeder, s.ltu.slot[k] ≠ .contact f 0) → exec (.contactorTimerExpiry k) s = .next s) ∧
    ((∀ f : Feeder, s.ltu.slot[k] ≠ .settle f 0) → exec (.settleTimerExpiry k) s = .next s) ∧
    ((∀ (f : Feeder) (o : Option TestOutcome), s.ltu.slot[k] ≠ .release f 0 o) →
      exec (.releaseTimerExpiry k) s = .next s)

/-- A delivery of LINE_VOLTAGE(f) at the line test unit, R86, R87 and R89: the early LIVE end, the pair with the last
bus value, and the result of a complete window from the exact sums; no effect on a slot in another phase. -/
def Obligations.WindowDelivery : Prop :=
  ∀ (s : State) (f : Feeder) (v : Int) (r : FeederRec) (early : Prop), r = s.tables.feeder[f] →
    (early ↔ ((r.vLive : Int) ≤ v ∧ s.sco.sect[f].coupled = true ∧
      s.sco.sect[f].far.any SectionEntry.closed = true)) →
    ((∀ (k : TestSlot) (w n : Nat) (a b : Int), s.ltu.slot[k] ≠ .window f w n a b) → s.ltuLine f v = s) ∧
    (∀ (k : TestSlot) (w n : Nat) (a b : Int), s.ltu.slot[k] = .window f w n a b →
      (∀ j, j ≠ k → slotFeeder s.ltu.slot[j] ≠ some f) →
      let line : Int := a + v
      let bus : Int := b + s.smp.points[20].last
      let ended (o : TestOutcome) : State := State.sendOrder { s with ltu := { s.ltu with slot :=
        (s.ltu.slot.set k (.release f 800 (some o))) } } f .testOff
      (early → s.ltuLine f v = ended { kind := .live, rLine := none }) ∧
      (¬ early → n + 1 < w → s.ltuLine f v = { s with ltu := { s.ltu with slot :=
        (s.ltu.slot.set k (.window f w (n + 1) line bus)) } }) ∧
      (¬ early → w ≤ n + 1 →
        (bus - line ≤ 0 → s.ltuLine f v = ended { kind := .live, rLine := none }) ∧
        (0 < bus - line → ∃ rLine : Nat,
          (rLine : Int) = min 65535 (max 0 (((r.rTest : Int) * line).tdiv (bus - line))) ∧
          s.ltuLine f v = ended { kind := if r.rMin ≤ rLine then .pass else .fail, rLine := some rLine })))

/-! ### Section coordination -/

/-- Coupling, double feed and bank of a section, R108 and R109 with R107, at a re-evaluation, and BANK_CHANGE for a
feeder in use with a section whose bank changes (R105, R122). -/
def Obligations.CouplingAndBank : Prop :=
  ∀ (s : State) (f : Feeder) (r : FeederRec) (l : LinkState) (x : Section), r = s.tables.feeder[f] →
    l = s.sco.link[slotOf r] → x = s.sco.sect[f] → ∃ (c d : Bool) (bank : Bank),
      (c = true ↔ (r.inUse = true ∧ r.secNo ≠ 0 ∧ r.localCoupled = true ∧
        s.tables.neighbour[slotOf r].stationId ≠ 0 ∧ l.up = true ∧
        ∃ e, x.far = some e ∧ e.coupled = true ∧ e.testEnd ≠ r.testEnd)) ∧
      (d = true ↔ (c = true ∧ (∃ e, x.far = some e ∧ e.closed = true) ∧
        ∃ fr, l.last = some fr ∧ fr.busLive = true)) ∧
      bank = (if d = true then .a else .b) ∧
      Reports { s with sco := { s.sco with sect := (s.sco.sect.set f
          { x with coupled := c, doubleFed := d, bank := bank }) } } (s.reevaluate f)
        (if x.bank ≠ bank ∧ r.inUse = true ∧ r.secNo ≠ 0 then
          [(.bankChange, .feeder f, some (if d = true then .bankA else .bankB), some (r.secNo : Int))]
        else [])

/-- The transfer-trip handshake of a section, R111 to R118 with R122: a local request by the handshake state, its
completion and its release by the far TT_ACK, a far request by its rise, taken as a transfer trip with the
recorder's trigger while the section is coupled, its end, and the standing flags of a report newly present. Its
clearing, R119: TT_FAIL and the TT_FAIL report for a request in flight that has not failed, which the controller
takes in the same event (log entry 5), and then every flag clear and T_tt stopped. The report of a request that
finds the failed mark (R112) waits for its row (log entry 4), and the source of the request in flight is remembered
(log entry 25); the seen flags are taken on an uncoupled section too (log entry 35). -/
def Obligations.TransferTripHandshake : Prop :=
  ∀ (s : State) (f : Feeder) (x : Section) (h : Handshake), x = s.sco.sect[f] → h = x.hs →
    let now (h' : Handshake) : State :=
      { s with sco := { s.sco with sect := (s.sco.sect.set f { x with hs := h' }) } }
    let posted (u t : State) (kind : EventKind) (cause : Option Cause) : Prop :=
      Reports u t [(kind, .feeder f, cause, some (s.tables.feeder[f].secNo : Int))]
    let source (station : Bool) : Option Cause := if station = true then some .station else some .feeder
    let cleared (v : State) : State :=
      { v with sco := { v.sco with sect := (v.sco.sect.set f { v.sco.sect[f] with
        hs := { ttReq := false, pending := false, timer := none, failed := false, ttAck := false
                seenReq := false, seenAck := false, fromStation := false } }) } }
    (∀ station : Bool, let t := s.ttRequest f station
      let timer : Option Nat := some (4 * s.tables.neighbour[slotOf s.tables.feeder[f]].tTt)
      (x.coupled = false → t = s) ∧
      (x.coupled = true → (h.ttReq = true ∨ h.pending = true) →
        (h.failed = false → t = s) ∧
        (h.failed = true → posted { s with fct := (s.fct.set f
          { s.fct[f] with ttFailIn := s.fct[f].ttFailIn + 1 }) } t .ttFail (some .timeout))) ∧
      (x.coupled = true → h.ttReq = false → h.pending = false →
        (h.seenAck = true → t = now { h with pending := true, timer := timer, fromStation := station }) ∧
        (h.seenAck = false → posted (now { h with ttReq := true, timer := timer, fromStation := station }) t
          .ttSent (source station)))) ∧
    (h.ttReq = true → s.takeFarAck f true =
      now { h with ttReq := false, timer := none, failed := false, seenAck := true }) ∧
    (h.ttReq = false → s.takeFarAck f true = now { h with seenAck := true }) ∧
    (h.pending = false → s.takeFarAck f false = now { h with seenAck := false }) ∧
    (h.pending = true → posted (now { h with pending := false, ttReq := true, seenAck := false })
      (s.takeFarAck f false) .ttSent (source h.fromStation)) ∧
    s.takeFarReq f false = now { h with seenReq := false, ttAck := false } ∧
    (h.seenReq = true → s.takeFarReq f true = s) ∧
    (h.seenReq = false → x.coupled = false → s.takeFarReq f true = now { h with seenReq := true }) ∧
    (h.seenReq = false → x.coupled = true → ∃ u v : State,
      posted (now { h with seenReq := true, ttAck := true }) u .ttReceived none ∧ v = u.takeTransfer f ∧
      Reports { v with drc := v.drc.trigger v.tables v.evr.ms .transfer (.feeder f) } (s.takeFarReq f true) []) ∧
    (∀ e : SectionEntry,
      (e.ttReq = true → x.coupled = true →
        posted (now { h with seenReq := true, seenAck := e.ttAck, ttAck := true }) (s.takeStanding f e)
          .ttReceived (some .standing)) ∧
      (e.ttReq = false ∨ x.coupled = false →
        s.takeStanding f e = now { h with seenReq := e.ttReq, seenAck := e.ttAck })) ∧
    (∀ cause : Cause,
      ((h.ttReq = true ∨ h.pending = true) → h.failed = false → ∃ u : State,
        posted s u .ttFail (some cause) ∧ s.clearHandshake f cause = cleared (u.takeTtFail f)) ∧
      (h.failed = true ∨ (h.ttReq = false ∧ h.pending = false) → s.clearHandshake f cause = cleared s))

/-- LINK_IN_FRAME, R102, R103 and R110 with R67, R81, R91 and R107 to R109: a frame that matches no used slot, or
has another station id, is ignored. An accepted one is taken in the steps of R110: the slot UP with its timer anew
and LINK_UP when it was DOWN; the last neighbour frame and the far-end reports of the slot's sections, with the
handshake cleared of a section no longer listed; coupling and bank; the handshake by the far flags, as standing for
a report newly present (R118), the seen flags on an uncoupled section too (log entry 35); and the changed section
states, reported to the controller and then to the line test unit. A report to the controller locks an uncoupled
feeder in FOLLOW out and else lets it examine the close condition; one to the unit makes a running test yield by
R91, and the head is examined when the feeder is the head. In each step the feeders of the slot are taken in the
order of their numbers (the model's choice, log entry 33), and what is examined is read as it stands at that moment
(log entry 18); a TT_FAIL report is taken in the same event (log entry 5). -/
def Obligations.LinkFrameAccepted : Prop :=
  (∀ (s : State) (fr : RxFrame), ForPart s 7 fr →
    let id : Nat := (fr.payload.getD 1 0 ++ fr.payload.getD 2 0).toNat
    let fits (n : Slot) : Prop := s.tables.neighbour[n].stationId ≠ 0 ∧
      s.tables.neighbour[n].linkNode = some fr.src.toNat ∧
      s.tables.neighbour[n].channel = (fr.payload.getD 0 0).toNat
    ((∀ n : Slot, fits n → s.tables.neighbour[n].stationId ≠ id) → exec (.linkInFrame fr) s = .next s) ∧
    (∀ n : Slot, fits n → (∀ m : Slot, fits m → m = n) → s.tables.neighbour[n].stationId = id →
      ∃ (t : State) (last : NeighbourFrame), exec (.linkInFrame fr) s = .next t ∧
        last = { stationId := id, rectRunning := (fr.payload.getD 3 0).getLsbD 0
                 busLive := (fr.payload.getD 3 0).getLsbD 1
                 entries := linkEntries (fr.payload.drop 5), acceptedAt := s.evr.ms } ∧
        t.sco.link = s.sco.link.set n
          { up := true, timer := some (4 * s.tables.neighbour[n].tLink), last := some last } ∧
        Untouched s { t with sco := { t.sco with link := s.sco.link } } ∧ t.stl = s.stl ∧
        (∀ f : Feeder, let r := s.tables.feeder[f]
          (¬ (r.inUse = true ∧ r.secNo ≠ 0 ∧ slotOf r = n) → t.sco.sect[f] = s.sco.sect[f]) ∧
          (r.inUse = true → r.secNo ≠ 0 → slotOf r = n →
            t.sco.sect[f].far = (last.entries.take 10).find? (fun e => decide (e.secNo = r.secNo)) ∧
            (t.sco.sect[f].coupled = true ↔ (r.localCoupled = true ∧
              ∃ e, t.sco.sect[f].far = some e ∧ e.coupled = true ∧ e.testEnd ≠ r.testEnd)) ∧
            t.sco.sect[f].bank = (if t.sco.sect[f].coupled = true ∧ last.busLive = true ∧
              t.sco.sect[f].far.any SectionEntry.closed = true then .a else .b))) ∧
        (∃ s1 s2 s3 s4 s5 : State,
          Reports { s with sco := { s.sco with link := (s.sco.link.set n { s.sco.link[n] with
              up := true, timer := some (4 * s.tables.neighbour[n].tLink) }) } } s1
            (if s.sco.link[n].up = true then [] else [(.linkUp, .slot n, none, some (id : Int))]) ∧
          s2 = { s1 with sco := { link := t.sco.link, sect := s2.sco.sect } } ∧
          (∀ f : Feeder, s2.sco.sect[f] = if f ∈ sectionsOf s n then { s1.sco.sect[f] with
              far := (last.entries.take 10).find? fun e => decide (e.secNo = s.tables.feeder[f].secNo) }
            else s1.sco.sect[f]) ∧
          s3 = (sectionsOf s n).foldl (fun y f =>
            if s.sco.sect[f].far.isSome = true ∧ s2.sco.sect[f].far.isNone = true then
              y.clearHandshake f .removed else y) s2 ∧
          s4 = (sectionsOf s n).foldl (fun y f => y.reevaluate f) s3 ∧
          s5 = (sectionsOf s n).foldl (fun y f => match s2.sco.sect[f].far with
            | none => y
            | some e => if s.sco.sect[f].far.isNone = true then y.takeStanding f e
              else (y.takeFarAck f e.ttAck).takeFarReq f e.ttReq) s4 ∧
          t = (sectionsOf s n).foldl (fun y f => reportedFrom s y f) s5))) ∧
  (∀ (s : State) (f : Feeder), let x := s.sco.sect[f]
    (s.fct[f].state = .follow → x.coupled = false →
      Reports { s with fct := s.fct.set f (lockoutRecord s.fct[f] .uncoord) } (s.fctSection f)
        [(.lockout, .feeder f, some .uncoord, some (s.fct[f].attempts : Int))]) ∧
    (s.fct[f].state ≠ .follow ∨ x.coupled = true → FollowExamined s (s.fctSection f) f) ∧
    (let yields : Prop := x.coupled = true ∧ s.tables.feeder[f].testEnd = false ∧
        x.far.any SectionEntry.testActive = true
     ∃ u v : State, (yields → YieldTaken s u f 0 ∧ YieldTaken u v f 1) ∧ (¬ yields → u = s ∧ v = s) ∧
      ExaminedIf (v.ltu.queue.head? = some f) v (s.ltuSection f)))

/-- LINK_TIMER_EXPIRY, R104 with R119: the slot goes DOWN, its sections lose their far-end reports, coupling and
handshakes and take bank B, its last frame is kept, the changed section states are reported, and LINK_DOWN with
cause TIMEOUT is posted last, each step taking the feeders of the slot in the order of their numbers (the model's
choice, log entry 33) and a TT_FAIL report being taken in the same event (log entry 5); a slot that is DOWN or whose
timer runs is left as it stands (log entry 3). -/
def Obligations.LinkTimerExpires : Prop :=
  ∀ (s : State) (n : Slot), s.phase = .running →
    (¬ (s.sco.link[n].up = true ∧ s.sco.link[n].timer = some 0) → exec (.linkTimerExpiry n) s = .next s) ∧
    (s.sco.link[n].up = true → s.sco.link[n].timer = some 0 → ∃ t : State,
      exec (.linkTimerExpiry n) s = .next t ∧
      SlotDown s t n .timeout s.sco.link[n].last ∧
      t.sco.link = s.sco.link.set n { up := false, timer := none, last := s.sco.link[n].last } ∧
      (∀ f : Feeder, let r := s.tables.feeder[f]
        t.sco.sect[f] = if r.inUse = true ∧ r.secNo ≠ 0 ∧ slotOf r = n then
            { far := none, coupled := false, doubleFed := false, bank := .b,
              hs := { ttReq := false, pending := false, timer := none, failed := false, ttAck := false,
                      seenReq := false, seenAck := false, fromStation := false } }
          else s.sco.sect[f]) ∧
      Newest t .linkDown (.slot n) (some .timeout) (some (s.tables.neighbour[n].stationId : Int)) ∧
      Untouched s { t with sco := { t.sco with link := s.sco.link } } ∧ t.fpu = s.fpu ∧ t.rcu = s.rcu ∧
      t.stl = s.stl ∧ t.drc = s.drc)

/-- NEIGHBOUR_FRAME_PERIOD at the period end that is due, R100 and R101 with R208: one frame for each used slot, from
the part's state at that moment, handed to the LINK queue under its slot, in the order of the slot numbers (the
model's choice, log entry 33); before the period end it has no effect (log entry 3). -/
def Obligations.NeighbourFramesSent : Prop :=
  (∀ s : State, s.phase = .running → 40 ≤ s.clock.link →
    exec .neighbourFramePeriod s = .next { s with
      clock := { s.clock with link := s.clock.link - 40 }
      rif := allSlots.foldl (fun q n =>
        let r := s.tables.neighbour[n]
        if r.stationId = 0 then q
        else q.putLink n (makeFrame s.rif.node (r.linkNode.getD 0) 8
          (linkPayload r.channel s.tables.station.ownId
            (decide (s.rcu.state = .regulating ∨ s.rcu.state = .phaseBack))
            (s.smp.points[20].sighted &&
              decide ((s.tables.station.vBusMin : Int) ≤ s.smp.points[20].last))
            ((allFeeders.filter fun f => s.tables.feeder[f].inUse && s.tables.feeder[f].secNo != 0 &&
                slotOf s.tables.feeder[f] == n).map fun f =>
              { secNo := s.tables.feeder[f].secNo, closed := decide (s.fct[f].state = .service)
                coupled := s.tables.feeder[f].localCoupled, testEnd := s.tables.feeder[f].testEnd
                ttReq := s.sco.sect[f].hs.ttReq, ttAck := s.sco.sect[f].hs.ttAck
                lineLive := s.smp.points[f.val + 10].sighted &&
                  decide ((s.tables.feeder[f].vLive : Int) ≤ s.smp.points[f.val + 10].last)
                testActive := decide (s.fct[f].state = .testing) })))) s.rif }) ∧
  (∀ s : State, s.phase = .running → s.clock.link < 40 → exec .neighbourFramePeriod s = .next s) ∧
  (∀ (q : Rif) (n : Slot) (fr : Frame), q.strapFault = false → LinkQueueOk q →
    (∀ i (h : i < q.linkQ.length), q.linkQ[i].slot = n →
      q.putLink n fr = { q with linkQ := q.linkQ.set i { slot := n, frame := fr } }) ∧
    ((∀ x ∈ q.linkQ, x.slot ≠ n) →
      q.putLink n fr = { q with linkQ := q.linkQ ++ [{ slot := n, frame := fr }] }))

/-! ### Rectifier -/

/-- RECT_STATUS_FRAME, R128 with R131 to R136 and R152: a report of another node is ignored; the gate driver's is
kept and restarts its supervision, and acts by the state, by a pending adoption, and by its gate fault. For a report
that shows a gate fault beside a change of the AC breaker, the breaker and the adoption act first, and then the gate
fault in the state that this leaves: R152 says so of an adoption, and in the other states it is the model's choice
(log entry 16). -/
def Obligations.RectStatusTaken : Prop :=
  ∀ (s u : State) (fr : RxFrame) (st : RectStatus), ForPart s 5 fr →
    st = { ac := if fr.payload.getD 0 0 = 0 then .opened
             else if fr.payload.getD 0 0 = 1 then .closed else .travel
           ready := (fr.payload.getD 1 0).getLsbD 0, gateFault := (fr.payload.getD 1 0).getLsbD 1 } →
    u = { s with rcu := { s.rcu with status := some st, supervised := true, supTimer := some 2000 } } →
    (s.tables.regulator.gateNode ≠ some fr.src.toNat → exec (.rectStatusFrame fr) s = .next s) ∧
    (s.tables.regulator.gateNode = some fr.src.toNat →
      let runs (from' t : State) : Prop :=
        ((∀ f : Feeder, s.rcu.pbSet[f] = false) → RectEntered from' t .regulating none none) ∧
        ((∃ f : Feeder, s.rcu.pbSet[f] = true) → ∃ v : State, RectEntered from' v .regulating none none ∧
          RectEntered v t .phaseBack none (some (4 * s.tables.regulator.tPb)))
      let enters (st' : RectState) (cause : Option Cause) : Prop := ∃ t : State,
        exec (.rectStatusFrame fr) s = .next t ∧ RectEntered u t st' cause none
      let blocks (from' : State) : Prop := ∃ t : State, exec (.rectStatusFrame fr) s = .next t ∧
        RectEntered from' t .blocked (some .gateFault) (some 2000)
      let adopted : State := { u with rcu := { u.rcu with adoption := false } }
      let adoptedRunning : State := { u with rcu := { u.rcu with adoption := false, trim := 0 } }
      let started : State := { u with rcu := { u.rcu with trim := 0 } }
      (st.gateFault = false →
        (s.rcu.adoption = true →
          (st.ac = .travel → exec (.rectStatusFrame fr) s = .next u) ∧
          (st.ac = .opened → exec (.rectStatusFrame fr) s = .next adopted) ∧
          (st.ac = .closed → ∃ t : State, exec (.rectStatusFrame fr) s = .next t ∧ runs adoptedRunning t)) ∧
        (s.rcu.adoption = false →
          (st.ac = .closed → s.rcu.state = .starting → ∃ t : State,
            exec (.rectStatusFrame fr) s = .next t ∧ runs started t) ∧
          ((st.ac = .travel ∨ s.rcu.state ∈ [.off, .tripped] ∨
              (st.ac = .opened ∧ s.rcu.state = .starting) ∨
              (st.ac = .closed ∧ s.rcu.state ∈ [.regulating, .phaseBack, .stopping, .blocked])) →
            exec (.rectStatusFrame fr) s = .next u))) ∧
      (s.rcu.adoption = false → st.ac = .opened →
        (s.rcu.state ∈ [.regulating, .phaseBack] → enters .tripped (some .acOpened)) ∧
        (s.rcu.state = .stopping → enters .off none) ∧
        (s.rcu.state = .blocked → enters .tripped s.rcu.cause)) ∧
      (st.gateFault = true →
        (s.rcu.adoption = true →
          (st.ac = .closed → ∃ w : State, runs adoptedRunning w ∧ blocks w) ∧
          (s.rcu.state = .off → st.ac = .opened → exec (.rectStatusFrame fr) s = .next adopted) ∧
          (s.rcu.state = .off → st.ac = .travel → exec (.rectStatusFrame fr) s = .next u)) ∧
        (s.rcu.adoption = false →
          (s.rcu.state ∈ [.off, .tripped] → exec (.rectStatusFrame fr) s = .next u) ∧
          (s.rcu.state = .blocked → st.ac ≠ .opened → exec (.rectStatusFrame fr) s = .next u) ∧
          (s.rcu.state = .starting → st.ac = .closed → ∃ w : State, runs started w ∧ blocks w) ∧
          ((s.rcu.state = .starting ∧ st.ac ≠ .closed) ∨
              (s.rcu.state ∈ [.regulating, .phaseBack, .stopping] ∧ st.ac ≠ .opened) → blocks u))))

/-- The rectifier's timers, R128 and R152 (supervision, with the end of adoption in OFF), R131 (T_ac), R132 and R136
(the AC timer), R148 (T_pb); a timer that has not run out, or another state, is left as it stands (log entry 3; log
entry 29 for START_FAIL's value). -/
def Obligations.RectifierTimersExpire : Prop :=
  ∀ s : State, s.phase = .running →
    (s.rcu.supTimer = some 0 → ∀ v : State,
      v = { s with rcu := { s.rcu with status := none, supervised := false, supTimer := none
                                       adoption := false } } →
      (s.rcu.adoption = false → exec .gateDriverSupervisionExpiry s = .next v) ∧
      (s.rcu.adoption = true → s.rcu.state = .off →
        exec .gateDriverSupervisionExpiry s = .next (gateSent v 9000 true false))) ∧
    (s.rcu.state = .starting → s.rcu.timer = some 0 → ∃ u t : State, exec .tAcExpiry s = .next t ∧
      Reports s u [(.startFail, .station, none, some (s.tables.regulator.tAc : Int))] ∧
      RectEntered u t .off none none) ∧
    (s.rcu.state ∈ [.stopping, .blocked] → s.rcu.timer = some 0 → ∃ t : State,
      exec .acTimerExpiry s = .next t ∧ RectEntered s t .tripped (some .acBreakerFail) none) ∧
    (s.rcu.state = .phaseBack → s.rcu.timer = some 0 → ∃ u t : State, exec .tPbExpiry s = .next t ∧
      Reports s u [(.phaseBackTimeout, .station, none,
        some ((allFeeders.countP fun f => s.rcu.pbSet[f] : Nat) : Int))] ∧
      RectEntered { u with rcu := { u.rcu with pbSet := Vector.replicate 10 false } } t .regulating none
        none) ∧
    (s.rcu.supTimer ≠ some 0 → exec .gateDriverSupervisionExpiry s = .next s) ∧
    (s.rcu.timer ≠ some 0 ∨ s.rcu.state ≠ .starting → exec .tAcExpiry s = .next s) ∧
    (s.rcu.timer ≠ some 0 ∨ s.rcu.state ∉ [.stopping, .blocked] → exec .acTimerExpiry s = .next s) ∧
    (s.rcu.timer ≠ some 0 ∨ s.rcu.state ≠ .phaseBack → exec .tPbExpiry s = .next s)

/-- The phase-back request set, R146 to R148: a request joins it and takes a regulating rectifier to PHASE_BACK with
T_pb; a withdrawal leaves it, and the one that empties it brings the rectifier back from PHASE_BACK to REGULATING. -/
def Obligations.PhaseBackSet : Prop :=
  ∀ (s : State) (f : Feeder) (joined left : State),
    joined = { s with rcu := { s.rcu with pbSet := s.rcu.pbSet.set f true } } →
    left = { s with rcu := { s.rcu with pbSet := s.rcu.pbSet.set f false } } →
    (s.rcu.state ≠ .regulating → s.phaseBackRequest f = joined) ∧
    (s.rcu.state = .regulating → RectEntered joined (s.phaseBackRequest f) .phaseBack none
      (some (4 * s.tables.regulator.tPb))) ∧
    (s.rcu.state ≠ .phaseBack ∨ (∃ g : Feeder, g ≠ f ∧ s.rcu.pbSet[g] = true) →
      s.phaseBackWithdraw f = left) ∧
    (s.rcu.state = .phaseBack → (∀ g : Feeder, g ≠ f → s.rcu.pbSet[g] = false) →
      RectEntered left (s.phaseBackWithdraw f) .regulating none none)

/-- CONTROL_TICK at the control tick that is due, R129 and R139 to R144: the gate order of every state that sends one,
and in REGULATING the ten stages on exact integers, or the held values at a LOST point or a low AC supply
(log entry 3). -/
def Obligations.ControlTickComputes : Prop :=
  ∀ (s s1 : State) (g : RegulatorRec) (c : Rcu), s.phase = .running → 8 ≤ s.clock.control →
    s1 = { s with clock := { s.clock with control := s.clock.control - 8 } } → g = s.tables.regulator →
    c = s.rcu →
    (c.state ∈ [.off, .tripped] → exec .controlTick s = .next s1) ∧
    (c.state ∈ [.starting, .stopping, .blocked] →
      exec .controlTick s = .next (gateSent s1 9000 true (decide (c.state = .starting)))) ∧
    (c.state = .phaseBack → exec .controlTick s = .next (gateSent s1 g.alphaPb false true)) ∧
    (c.state = .regulating →
      let clampT (x : Int) : Int := if x < -(g.trimMax : Int) then -(g.trimMax : Int)
        else if (g.trimMax : Int) < x then g.trimMax else x
      let held : Rcu := { c with trim := clampT c.trim, lastAlpha := max c.lastAlpha g.alphaMin }
      (s.smp.points[20].sighted = false ∨ s.smp.points[21].sighted = false ∨
          s.smp.points[22].sighted = false →
        exec .controlTick s = .next (gateSent { s1 with rcu := held } held.lastAlpha false true)) ∧
      (s.smp.points[20].sighted = true → s.smp.points[21].sighted = true →
        s.smp.points[22].sighted = true → ∀ (i base vRef e st trim u vD0 d raw alpha : Int),
        i = s.smp.points[21].last →
        base = max 5000 (min 9500 ((g.vSet : Int) - ((g.droop : Int) * i).tdiv 100)) →
        vRef = (if (g.iLim : Int) < i then max 0 (base - g.kLim * (i - g.iLim)) else base) →
        e = vRef - s.smp.points[20].last →
        st = ((g.ki : Int) * e).tdiv 1024 →
        trim = clampT (if (c.lastAlpha = g.alphaMin ∧ 0 < st) ∨ (c.lastAlpha = 9000 ∧ st < 0) then c.trim
          else c.trim + st) →
        u = max 0 (vRef + trim + ((g.rC : Int) * i).tdiv 100) →
        vD0 = ((g.kD0 : Int) * s.smp.points[22].last).tdiv 10000 →
        (vD0 < g.vD0Min → ∃ t : State, exec .controlTick s = .next t ∧
          Reports (gateSent { s1 with rcu := { held with acLow := true } } held.lastAlpha false true) t
            (if c.acLow = true then [] else [(.acLow, .station, none, some vD0)])) ∧
        ((g.vD0Min : Int) ≤ vD0 → d = min 4096 ((u * 4096).tdiv vD0) →
          (∀ (j r : Nat) (h : j < 64), j = d.toNat / 64 → r = d.toNat % 64 →
            raw = (s.tables.curve[j] : Int) -
              (((s.tables.curve[j] : Int) - s.tables.curve[j + 1]) * r).tdiv 64) →
          (d = 4096 → raw = s.tables.curve[64]) →
          alpha = max (if raw < g.alphaMin then (g.alphaMin : Int) else if 9000 < raw then 9000 else raw)
            (c.lastAlpha - g.ramp) →
          exec .controlTick s = .next (gateSent { s1 with rcu := { c with
            trim := trim
            lastAlpha := alpha
            acLow := false
            working := some { vRef := vRef, e := e, u := u, vD0 := vD0, d := d } } } alpha false true))))

/-- RECT_START, R130: its refusals in their order, and STARTING with T_ac. RECT_STOP, R132, and RECT_RESET, R136: the
states that take them, and STATE in the others. -/
def Obligations.RectifierCommandsServed : Prop :=
  ∀ (s : State) (r : Request),
    let p : State := popped s
    let valid : Prop := s.tables.curve[0] = 9000 ∧ s.tables.curve[64] = 0 ∧
      ∀ j (h : j < 64), s.tables.curve[j + 1] ≤ s.tables.curve[j]
    let ready : Prop := s.rcu.supervised = true ∧
      ∃ st, s.rcu.status = some st ∧ st.ac = .opened ∧ st.ready = true ∧ st.gateFault = false
    let open' : Prop := s.rcu.supervised = true ∧
      ∃ st, s.rcu.status = some st ∧ st.ac = .opened ∧ st.gateFault = false
    (Granted s r 3 36 →
      (s.rcu.state ≠ .off ∨ s.rcu.adoption = true ∨ s.stl.lockout = true ∨ s.mga.unconfigured = true ∨
        ¬ ready → Serves .rectStart s r .state [] p) ∧
      (s.rcu.state = .off → s.rcu.adoption = false → s.stl.lockout = false → s.mga.unconfigured = false →
        ready →
        (¬ valid → Serves .rectStart s r .range [] p) ∧
        (valid → ∃ u : State, Serves .rectStart s r .ok [] u ∧
          RectEntered { p with rcu := { s.rcu with ocRun := 0, acLow := false } } u .starting none
            (some (4 * s.tables.regulator.tAc))))) ∧
    (Granted s r 3 37 →
      (s.rcu.state ∈ [.starting, .regulating, .phaseBack] → ∃ u : State, Serves .rectStop s r .ok [] u ∧
        RectEntered p u .stopping none (some 2000)) ∧
      (s.rcu.state = .stopping → Serves .rectStop s r .ok [] p) ∧
      (s.rcu.state ∈ [.off, .blocked, .tripped] → Serves .rectStop s r .state [] p)) ∧
    (Granted s r 3 38 →
      (s.rcu.state = .tripped → open' → ∃ u : State, Serves .rectReset s r .ok [] u ∧
        RectEntered p u .off none none) ∧
      (s.rcu.state ≠ .tripped ∨ ¬ open' → Serves .rectReset s r .state [] p))

/-! ### Station trips -/

/-- The leakage element at a delivery, R155: the run of samples at or above I_leak by magnitude, a gap counted in
full, a marked delivery as one; the station trip of cause LEAKAGE with the operating value when the run reaches
T_leak. -/
def Obligations.LeakageAtDelivery : Prop :=
  ∀ (s : State) (v : Int) (k n tLeak : Nat) (disc : Bool), n = (if disc = true then 1 else k) →
    tLeak = s.tables.station.tLeak →
    let becomes (l : Leakage) : State := { s with stl := { s.stl with leakage := l } }
    (v.natAbs < s.tables.station.iLeak → s.leakDeliver v k disc = becomes .normal) ∧
    (s.tables.station.iLeak ≤ v.natAbs →
      (s.stl.leakage = .operated → s.leakDeliver v k disc = becomes .operated) ∧
      (s.stl.leakage = .normal →
        (n < tLeak → s.leakDeliver v k disc = becomes (.pickup n)) ∧
        (tLeak ≤ n → s.leakDeliver v k disc = (becomes .operated).stationTrip .leakage v)) ∧
      (∀ run, s.stl.leakage = .pickup run →
        (min 400 (run + n) < tLeak →
          s.leakDeliver v k disc = becomes (.pickup (min 400 (run + n)))) ∧
        (tLeak ≤ min 400 (run + n) →
          s.leakDeliver v k disc = (becomes .operated).stationTrip .leakage v)))

/-- BREAKER_FAIL_NOTICE, R157 and R158 with R74, R112, R137 and R163: the station trip it brings, in its steps: the
lockout, the block of the rectifier, the notice to every in-use feeder, the transfer-trip requests, STATION_TRIP
naming the feeder, and the recorder's trigger; a notice that was not handed has no effect (the model's choice, log
entry 4). A controller takes a station trip notice by its state (R74); where it withdraws a feeder in test, the new
head is examined before LOCKOUT (the model's choice, log entry 18). Where the queue of the line test unit holds
feeders in TEST_WAIT (R79), what each feeder, the rectifier and each section show at the end is stated too. -/
def Obligations.StationTripTaken : Prop :=
  (∀ (s : State) (f : Feeder), s.phase = .running →
    (f ∉ s.stl.failNotices → exec (.breakerFailNotice f) s = .next s) ∧
    (f ∈ s.stl.failNotices → ∃ t : State, exec (.breakerFailNotice f) s = .next t ∧
      (∃ s1 s2 s3 s4 : State,
        Reports { s with stl := { s.stl with
          lockout := true, failNotices := s.stl.failNotices.erase f } } s1 [] ∧
        (let emptied : State := { s1 with rcu := { s.rcu with pbSet := Vector.replicate 10 false } }
         (s.rcu.state ∈ [.starting, .regulating, .phaseBack, .stopping] →
            RectEntered emptied s2 .blocked (some .station) (some 2000)) ∧
          (s.rcu.state ∈ [.off, .blocked, .tripped] → s2 = emptied)) ∧
        s3 = noticesGiven s2 ∧
        s4 = allFeeders.foldl (fun y g =>
          if s.tables.feeder[g].inUse = true ∧ s.tables.feeder[g].secNo ≠ 0 then y.ttRequest g true else y) s3 ∧
        Reports { s4 with drc := s4.drc.trigger s4.tables s4.evr.ms .breakerFail .station } t
          [(.stationTrip, .station, some .breakerFail, some (f.val : Int))]) ∧
      ((∀ g ∈ s.ltu.queue, s.fct[g].state = .testWait) → Untouched s t ∧
        t.stl = { s.stl with lockout := true, failNotices := s.stl.failNotices.erase f } ∧
        t.rcu.pbSet = Vector.replicate 10 false ∧
        (s.rcu.state ∈ [.starting, .regulating, .phaseBack, .stopping] → t.rcu.state = .blocked ∧
          t.rcu.cause = some .station ∧ t.rcu.timer = some 2000) ∧
        (s.rcu.state ∈ [.off, .blocked, .tripped] → t.rcu.state = s.rcu.state ∧ t.rcu.cause = s.rcu.cause) ∧
        (∀ g : Feeder, s.tables.feeder[g].inUse = true → StationNoticed s t g) ∧
        (∀ g : Feeder, let h := s.sco.sect[g].hs
          (s.sco.sect[g].coupled = true → s.tables.feeder[g].inUse = true → s.tables.feeder[g].secNo ≠ 0 →
            h.ttReq = false → h.pending = false → t.sco.sect[g] = { s.sco.sect[g] with hs := { h with
              ttReq := !h.seenAck, pending := h.seenAck, fromStation := true
              timer := some (4 * s.tables.neighbour[slotOf s.tables.feeder[g]].tTt) } }) ∧
          (s.sco.sect[g].coupled = false ∨ h.ttReq = true ∨ h.pending = true →
            t.sco.sect[g] = s.sco.sect[g])) ∧
        Newest t .stationTrip .station (some .breakerFail) (some (f.val : Int)) ∧
        t.drc = s.drc.trigger s.tables s.evr.ms .breakerFail .station))) ∧
  (∀ (s : State) (f : Feeder), StationNoticeTaken s (s.stationNotice f) f)

/-- EMERGENCY_OPEN, R160 with R74: the station stop and the notice to every in-use feeder, without the station
lockout and without transfer trips (log entry 18 for a feeder in test), then STATION_TRIP and the trigger.
STATION_RESET, R162: refused while the lockout is clear or the leakage element OPERATED, else the lockout is cleared
and nothing else. -/
def Obligations.StationCommandsServed : Prop :=
  ∀ (s : State) (r : Request),
    (Granted s r 3 41 → ∃ u : State, Serves .emergencyOpen s r .ok [] u ∧
      (∃ s1 s2 : State,
        (s.rcu.state ∈ [.starting, .regulating, .phaseBack] →
          RectEntered (popped s) s1 .stopping none (some 2000)) ∧
        (s.rcu.state ∈ [.stopping, .off, .blocked, .tripped] → s1 = popped s) ∧
        s2 = noticesGiven s1 ∧
        Reports { s2 with drc := s2.drc.trigger s2.tables s2.evr.ms .emergency .station } u
          [(.stationTrip, .station, some .emergency, none)]) ∧
      ((∀ g ∈ s.ltu.queue, s.fct[g].state = .testWait) → Untouched (popped s) u ∧ u.stl = s.stl ∧
        u.sco = s.sco ∧
        (s.rcu.state ∈ [.starting, .regulating, .phaseBack] → u.rcu.state = .stopping ∧
          u.rcu.timer = some 2000) ∧
        (s.rcu.state ∈ [.stopping, .off, .blocked, .tripped] → u.rcu.state = s.rcu.state ∧
          u.rcu.timer = s.rcu.timer ∧ u.rcu.cause = s.rcu.cause) ∧
        (∀ g : Feeder, s.tables.feeder[g].inUse = true → StationNoticed s u g) ∧
        Newest u .stationTrip .station (some .emergency) none ∧
        u.drc = s.drc.trigger s.tables s.evr.ms .emergency .station)) ∧
    (Granted s r 3 40 →
      (s.stl.lockout = false ∨ s.stl.leakage = .operated → Serves .stationReset s r .state [] (popped s)) ∧
      (s.stl.lockout = true → s.stl.leakage ≠ .operated → ∃ u : State, Serves .stationReset s r .ok [] u ∧
        Reports { popped s with stl := { s.stl with lockout := false } } u []))

/-! ### Settings by command, events and notices -/

/-- SET_SETPOINT, R149 with R222: a value outside −40000..40000 refused RANGE, any other clamped to
V_set_min..V_set_max, written and reported, with the answer CLAMPED when the clamp changed it. SET_MODE, R219: the
control mode, with the notice of the summary it changes (R174; log entry 23 for another value). SET_TIME, R167: the
counter is loaded. -/
def Obligations.SetCommandsServed : Prop :=
  ∀ (s : State) (r : Request),
    let p : State := popped s
    let number : Int :=
      ((r.data.getD 0 0 ++ r.data.getD 1 0) ++ (r.data.getD 2 0 ++ r.data.getD 3 0) : BitVec 32).toInt
    (Granted s r 3 39 →
      (number < -40000 ∨ 40000 < number → Serves .setSetpoint s r .range [] p) ∧
      (-40000 ≤ number → number ≤ 40000 → ∀ v : Int,
        v = (if number < s.tables.station.vSetMin then (s.tables.station.vSetMin : Int)
          else if (s.tables.station.vSetMax : Int) < number then s.tables.station.vSetMax else number) →
        ∃ u : State, Serves .setSetpoint s r (if v = number then .ok else .clamped) [] u ∧
          Reports { p with tables := { s.tables with regulator :=
            { s.tables.regulator with vSet := v.toNat } } } u
            [(.settingsChanged, .station, some (writerOf s r), some 2048)])) ∧
    (Granted s r 3 42 →
      (∀ mode : ControlMode, (r.data.getD 0 0 = 0 ∧ mode = .localMode) ∨
          (r.data.getD 0 0 = 1 ∧ mode = .remote) → ∃ u : State, Serves .setMode s r .ok [] u ∧
        Noticed s.summary { p with mga := { p.mga with mode := mode } } u) ∧
      (r.data.getD 0 0 ≠ 0 → r.data.getD 0 0 ≠ 1 → Serves .setMode s r .range [] p)) ∧
    (Granted s r 3 43 → Serves .setTime s r .ok [] { p with evr := { s.evr with ms :=
      ((r.data.getD 0 0 ++ r.data.getD 1 0) ++ (r.data.getD 2 0 ++ r.data.getD 3 0) : BitVec 32).toNat } })

/-- Events and notices, R169, R170, R173, R174 and R175: the summary shows the fields of R173 from the state of their
owners, in the 13 bytes of R212. A change of the summary builds a NOTICE frame of it unless one is outstanding, and
an event joins the queue under the next sequence number, the oldest of 128 leaving with events lost set, and lets the
change of the summary be taken. ACK_EVENTS, R172 with R170: the records up to the one named leave the queue and
events lost is cleared, the two changes of the summary being taken as one (the model's choice, log entry 17), or
NOT_FOUND with nothing changed. ACK_NOTICE, R176: the outstanding notice is acknowledged, and a summary that differs
from the one it carried brings a new notice at once. -/
def Obligations.AcknowledgementsServed : Prop :=
  (∀ (s : State) (g : State → State), Noticed s.summary (g s) (s.changing g)) ∧
  (∀ (s : State) (kind : EventKind) (subject : Subject) (cause : Option Cause) (value : Option Int),
    let x : EventRec := { seq := s.evr.nextSeq, time := s.evr.ms, kind := kind, subject := subject
                          cause := cause, value := value }
    Noticed s.summary { s with evr := s.evr.take kind subject cause value } (s.post kind subject cause value) ∧
    (s.evr.events.length < 128 → s.evr.take kind subject cause value = { s.evr with
      events := s.evr.events ++ [x], nextSeq := (s.evr.nextSeq + 1) % 65536 }) ∧
    (128 ≤ s.evr.events.length → s.evr.take kind subject cause value = { s.evr with
      events := s.evr.events.drop 1 ++ [x], nextSeq := (s.evr.nextSeq + 1) % 65536, lost := true })) ∧
  (∀ (s : State) (r : Request) (n : Nat), Granted s r 3 44 →
    n = (r.data.getD 0 0 ++ r.data.getD 1 0).toNat → EventQueueOk s.evr →
    (∀ e ∈ s.evr.events, e.seq < 65536) →
    ((∀ e ∈ s.evr.events, e.seq ≠ n) → Serves .ackEvents s r .notFound [] (popped s)) ∧
    (∀ i (h : i < s.evr.events.length), s.evr.events[i].seq = n → ∃ u : State,
      Serves .ackEvents s r .ok [] u ∧
      Noticed s.summary { popped s with evr := { s.evr with
        events := s.evr.events.drop (i + 1), lost := false } } u)) ∧
  (∀ (s : State) (r : Request), Granted s r 3 45 →
    let p : State := popped s
    (s.evr.notice = none → Serves .ackNotice s r .ok [] p) ∧
    (∀ copy, s.evr.notice = some copy →
      (copy = s.summary ∨ s.tables.station.gateway = none ∨ s.rif.strapFault = true →
        Serves .ackNotice s r .ok [] { p with evr := { s.evr with notice := none } }) ∧
      (∀ m, copy ≠ s.summary → s.tables.station.gateway = some m → s.rif.strapFault = false →
        Serves .ackNotice s r .ok [] { p with
          evr := { s.evr with notice := some s.summary }
          rif := s.rif.putNotice (makeFrame s.rif.node m 11
            (summaryBytes s.summary ++ be32 s.evr.ms ++ be16 s.evr.nextSeq)) }))) ∧
  (∀ s : State, SummaryShows s s.summary ∧ SummaryLaidOut s (summaryBytes s.summary))

/-- The five reads with a row: MAPPER_STATUS_READ, R18, and RING_STATUS_READ, R211, return their fields and clear the
counts; READ_EVENTS, R171, returns the oldest six; READ_SUMMARY, R177, answers and then acknowledges when the control
gateway asks for it, with the summary of R173 in its 13 bytes (R212); READ_RECORD, R195, returns
words of the held record at their addresses in chain order (R184; log entries 9 and 23). -/
def Obligations.ReadsServed : Prop :=
  ∀ (s : State) (r : Request),
    let p : State := popped s
    (Granted s r 1 16 → Serves .mapperStatusRead s r .ok
      (statusBytes 16 [.maybe (s.smp.unmappedKey.map fun k => [(k.1 : Int), (k.2 : Int)]),
        .plain [s.smp.unmapped], .plain [s.smp.stale], .plain [s.smp.invalid]])
      { p with smp := { s.smp with unmappedKey := none, unmapped := 0, stale := 0, invalid := 0 } }) ∧
    (Granted s r 1 26 → Serves .ringStatusRead s r .ok
      (statusBytes 26 [.plain [s.rif.node], .plain [s.rif.ringErr], .plain [s.rif.windowBad],
        .plain [s.rif.transitDrop], .plain [s.rif.malformed], .plain [s.rif.reportDiscard],
        .plain [s.rif.orderDiscard], .plain [s.rif.transitUse], .plain [s.rif.orderQ.length],
        .plain [s.rif.linkQ.length], .plain [((s.rif.reportQ.length + s.rif.held : Nat) : Int)]])
      { p with rif := { s.rif with ringErr := 0, transitDrop := 0, malformed := 0, reportDiscard := 0
                                   orderDiscard := 0 } }) ∧
    (Granted s r 1 28 → Serves .readEvents s r .ok
      ([BitVec.ofNat 8 (min 6 s.evr.events.length), BitVec.ofNat 8 s.evr.events.length] ++
        be16 s.evr.nextSeq ++ [if s.evr.lost = true then 1 else 0] ++
        (s.evr.events.take 6).flatMap eventBytes) p) ∧
    (Granted s r 1 27 → ∀ answer,
      answer = summaryBytes s.summary ++ [if s.evr.notice.isSome = true then 1 else 0] ++
        be16 s.evr.nextSeq →
      SummaryLaidOut s (answer.take 13) ∧ answer.length = 16 ∧
      ((r.data.getD 0 0).getLsbD 0 = false ∨ writerOf s r = .panel →
        Serves .readSummary s r .ok answer p) ∧
      ((r.data.getD 0 0).getLsbD 0 = true → writerOf s r = .control →
        exec .readSummary s = .next (p.respond r .ok answer).ackNotice.settle)) ∧
    (Granted s r 1 29 → ∀ offset count : Nat, offset = (r.data.getD 0 0 ++ r.data.getD 1 0).toNat →
      count = (r.data.getD 2 0).toNat →
      (32767 < offset ∨ count = 0 ∨ 24 < count → Serves .readRecord s r .range [] p) ∧
      (offset ≤ 32767 → 1 ≤ count → count ≤ 24 →
        ((∀ len reason, s.drc.state ≠ .held len reason) → Serves .readRecord s r .state [] p) ∧
        (∀ len reason, s.drc.state = .held len reason → Serves .readRecord s r .ok
          ((List.range count).flatMap fun i => be32 (if offset + i < len then
            match chainAddr s.tables.chain (offset + i) with
            | some a => (memRead s.drc.mem a).toNat
            | none => 0
            else 0)) p)) ∧
      ∀ w a : Nat, chainAddr s.tables.chain w = some a ↔ LiesAt s.tables.chain w a)

/-! ### Disturbance recorder -/

/-- A trigger by the recorder's state, R188 and R190 with R192: missed, a retrigger, or the start of a capture with
its layout; that header and pre-trigger copy are placed in the trigger's own event is the model's choice (log entry
22). A trigger changes the recorder state of the summary once, and a capture that ends at once twice, ARMED to
CAPTURING and CAPTURING to DRAINING (R174). REC_TRIGGER hands one of cause COMMAND; REC_ARM, R187, and REC_DISARM,
R193, with their refusals. The eight header words of R192 in the packing of R212, and the word placed at its address
in chain order (R184), the oldest of 16 words waiting reaching record memory first (R189). -/
def Obligations.RecorderCommandsServed : Prop :=
  (∀ (d : Drc) (t : Tables) (now : Nat) (cause : Cause) (subject : Subject),
    ((d.state = .idle ∨ (∃ x, d.state = .draining x) ∨ ∃ n x, d.state = .held n x) →
      d.trigger t now cause subject = { d with missed := min 255 (d.missed + 1) }) ∧
    (∀ x, d.state = .capturing x → d.trigger t now cause subject = { d with state := (.capturing
      { x with remaining := t.recorder.postCount
               retriggers := if x.retriggers < 255 then x.retriggers + 1 else 255 }) }) ∧
    (∀ (buffer : List (List Int)) (x : RecordInProgress), d.state = .armed buffer →
      x.preCount = min buffer.length ((chainCapacity t.chain - 8) / t.recorder.points.length) →
      x = { time := now, cause := cause, subject := subject, preCount := x.preCount, placed := 0
            remaining := t.recorder.postCount, words := 8 + t.recorder.points.length * x.preCount
            retriggers := 0, reason := none, frozen := buffer } →
      ∀ d' : Drc, d' = d.placeFrom t.chain 0 (headerWords t.recorder.points x ++
        (buffer.drop (buffer.length - x.preCount)).flatMap fun set => set.map (BitVec.ofInt 32)) →
      d.trigger t now cause subject =
        if chainCapacity t.chain - x.words < t.recorder.points.length then d'.drain t.chain x .short
        else { d' with state := .capturing x })) ∧
  (∀ (s : State) (cause : Cause) (subject : Subject) (d : Drc),
    d = s.drc.trigger s.tables s.evr.ms cause subject →
    ((∀ b, s.drc.state ≠ .armed b) → Noticed s.summary { s with drc := d } (s.trigger cause subject)) ∧
    (∀ b, s.drc.state = .armed b → ∃ (e : Drc) (x : RecordInProgress) (u : State), e.state = .capturing x ∧
      Noticed s.summary { s with drc := e } u ∧
      (chainCapacity s.tables.chain - x.words < s.tables.recorder.points.length →
        d = e.drain s.tables.chain x .short ∧
        Noticed u.summary { u with drc := d } (s.trigger cause subject)) ∧
      (s.tables.recorder.points.length ≤ chainCapacity s.tables.chain - x.words →
        d = e ∧ s.trigger cause subject = u))) ∧
  (∀ (points : List Nat) (x : RecordInProgress), HeaderLaidOut points x (headerWords points x)) ∧
  (∀ chain : List ChainDesc, chainCapacity chain = (chain.map regionWords).sum) ∧
  (∀ (d : Drc) (chain : List ChainDesc) (n : Nat) (w : Word) (rest : List Word),
    d.placeFrom chain n [] = d ∧
    ∃ u : Drc, WordPlaced d u chain n w ∧ d.placeFrom chain n (w :: rest) = u.placeFrom chain (n + 1) rest) ∧
  (∀ (s : State) (r : Request),
    let p : State := popped s
    let asleep (d : Drc) : Prop := d = { s.drc with state := .idle }
    (Granted s r 3 48 → ∃ u : State, Serves .recTrigger s r .ok [] u ∧
      Reports { p with drc := s.drc.trigger s.tables s.evr.ms .command .station } u []) ∧
    (Granted s r 3 46 →
      let bad : Prop := (∃ b, s.drc.state = .armed b) ∨ (∃ x, s.drc.state = .capturing x) ∨
        (∃ x, s.drc.state = .draining x) ∨ s.tables.chain = [] ∨
        chainCapacity s.tables.chain < 8 + s.tables.recorder.points.length
      (bad → Serves .recArm s r .state [] p) ∧
      (¬ bad → ∃ u : State, Serves .recArm s r .ok [] u ∧
        Reports { p with drc := { s.drc with state := (.armed []), missed := 0 } } u [])) ∧
    (Granted s r 3 47 →
      (s.drc.state = .idle → Serves .recDisarm s r .ok [] p) ∧
      ((∃ b, s.drc.state = .armed b) ∨ (∃ n x, s.drc.state = .held n x) → ∃ (u : State) (d : Drc),
        asleep d ∧ Serves .recDisarm s r .ok [] u ∧ Reports { p with drc := d } u []) ∧
      (∀ x, s.drc.state = .capturing x → ∃ u : State, Serves .recDisarm s r .ok [] u ∧
        Reports { p with drc := s.drc.drain s.tables.chain x .aborted } u []) ∧
      (∀ x, s.drc.state = .draining x → Serves .recDisarm s r .busy [] p)))

/-- DRAINING_END, R194 with R189 and R192: the words of the write buffer reach record memory in the order placed, the
recorder is HELD with the record's length and end reason, and RECORD_READY is posted with the reason as cause, absent
for COMPLETE; in another state it has no effect (log entry 3). On entry to DRAINING, R194, the final values of header
words 5, 6 and 7 are placed. -/
def Obligations.RecordHeld : Prop :=
  (∀ (d : Drc) (chain : List ChainDesc) (x : RecordInProgress) (reason : EndReason), ∃ u v w : Drc,
    WordPlaced d u chain 5 (BitVec.ofNat 32 x.preCount) ∧ WordPlaced u v chain 6 (BitVec.ofNat 32 x.placed) ∧
    WordPlaced v w chain 7 (BitVec.ofNat 32 ((match reason with
      | .complete => 1
      | .capped => 2
      | .short => 3
      | .aborted => 4) * 256 + x.retriggers)) ∧
    d.drain chain x reason = { w with state := (.draining { x with reason := some reason }) }) ∧
  ∀ s : State, s.phase = .running →
    ((∀ x, s.drc.state ≠ .draining x) → exec .drainingEnd s = .next s) ∧
    (∀ (x : RecordInProgress) (reason : EndReason), s.drc.state = .draining x → x.reason = some reason →
      ∃ t : State, exec .drainingEnd s = .next t ∧
      Reports { s with drc := { s.drc with
        state := (.held (8 + s.tables.recorder.points.length * (x.preCount + x.placed)) reason)
        writeBuf := []
        mem := s.drc.writeBuf.foldl (fun m y => memStore m y.1 y.2) s.drc.mem } } t
        [(.recordReady, .station,
          (match reason with
            | .complete => none
            | .capped => some .capped
            | .short => some .short
            | .aborted => some .aborted),
          some ((8 + s.tables.recorder.points.length * (x.preCount + x.placed) : Nat) : Int))])

/-- Record memory and the write buffer in every command but POWER_ON, R189: a word outside the regions of the loaded
chain that no word of the write buffer waits for keeps what it held, and no word is placed for it. -/
def Obligations.RecorderWritesInsideChain : Prop :=
  ∀ (c : Instr) (s t : State) (a : Nat), exec c s = .next t → (∀ straps, c ≠ .powerOn straps) →
    memWf s.drc.mem = true →
    (∀ x ∈ s.tables.chain, a < x.start ∨ x.start + (if x.length = 0 then 4096 else x.length) ≤ a) →
    (∀ x ∈ s.drc.writeBuf, x.1 ≠ a) →
    memRead t.drc.mem a = memRead s.drc.mem a ∧ ∀ x ∈ t.drc.writeBuf, x.1 ≠ a

/-! ### Settings writes and the settings store -/

/-- The ten settings writes, R222 with R9, R26, R50, R51, R99, R104, R106, R138, R145, R178, R183, R185 and R223:
refused with the first failing check of their rules and no effect, or accepted whole with the record replaced, what
the owning block does at the change, and SETTINGS_CHANGED. The checks in their order, and every record of values in
range read back from its bytes as it was written (R221). The model's choices: the order of the checks of FEEDER and
REGULATOR (log entry 14), RANGE for a byte that is no value of a field of two values (log entry 23), the effects of
a write before SETTINGS_CHANGED (log entry 18), what a change of in use discards and keeps (log entry 27), the old
section number in the TT_FAIL and the new one in the BANK_CHANGE of a write (log entry 34), the sections of a slot
in the order of the feeder numbers (log entry 33), and a TT_FAIL report taken in the same event (log entry 5). -/
def Obligations.SettingsWritesServed : Prop :=
  (∀ (s : State) (r : Request),
    let p : State := popped s
    let t : Tables := s.tables
    (Granted s r 2 1 → ∀ x, x = decodeStation r.data →
      ∀ v : Nat, v = (if t.regulator.vSet < x.vSetMin then x.vSetMin
        else if x.vSetMax < t.regulator.vSet then x.vSetMax else t.regulator.vSet) →
      Written .stationWrite s r (checkStation t x)
        { t with station := x, regulator := { t.regulator with vSet := v } } fun y =>
          (t.station.gateway = x.gateway → y = { p with tables := y.tables }) ∧
          (t.station.gateway ≠ x.gateway → (x.gateway = none ∨ s.rif.strapFault = true →
            y = { p with tables := y.tables, evr := { s.evr with notice := none }
                         rif := { s.rif with reportQ :=
                           s.rif.reportQ.filter (fun z => !z.isNotice) } }) ∧
            (∀ m, x.gateway = some m → s.rif.strapFault = false →
              y = { p with tables := y.tables, evr := { s.evr with notice := some s.summary }
                           rif := s.rif.putNotice (makeFrame s.rif.node m 11
                             (summaryBytes s.summary ++ be32 s.evr.ms ++ be16 s.evr.nextSeq)) }))) ∧
    (Granted s r 2 2 → ∀ e, decodeMapPoint r.data = some e →
      Written .mapPointWrite s r (checkMapPoint t r.index e)
        { t with mapPoint := t.mapPoint.setIfInBounds r.index e } fun y =>
          y = { p with tables := y.tables, smp := { s.smp with points := y.smp.points } } ∧
          ∀ q : Point, y.smp.points[q] = if feedOf t q.val = feedOf y.tables q.val then s.smp.points[q]
            else { s.smp.points[q] with ref := none }) ∧
    (Granted s r 2 3 → ∀ e, decodeMapRange r.data = some e →
      Written .mapRangeWrite s r (checkMapRange t r.index e)
        { t with mapRange := t.mapRange.setIfInBounds r.index e } fun y =>
          y = { p with tables := y.tables, smp := { s.smp with points := y.smp.points } } ∧
          ∀ q : Point, y.smp.points[q] = if feedOf t q.val = feedOf y.tables q.val then s.smp.points[q]
            else { s.smp.points[q] with ref := none }) ∧
    (Granted s r 2 4 → ∀ f : Feeder, r.index = f.val →
      (decodeFeeder r.data = none → Serves .feederWrite s r .range [] p) ∧
      (∀ x, decodeFeeder r.data = some x → Written .feederWrite s r
        (checkFeeder t f x (decide (s.fct[f].state = .out ∨ s.fct[f].state = .lockout)))
        { t with feeder := t.feeder.set f x } fun y =>
          Untouched p { y with tables := t } ∧ y.rcu = s.rcu ∧ y.stl = s.stl ∧ y.drc = s.drc ∧
          FeederWritten p y f x)) ∧
    (∀ obj, (obj = 5 ∨ obj = 6) → Granted s r 2 obj → ∀ f : Feeder, r.index = f.val →
      (decodeBank r.data = none → Serves .bankWrite s r .range [] p) ∧
      (∀ x, decodeBank r.data = some x → Written .bankWrite s r
        (if BankInRange x then none else some .range)
        (if obj = 5 then { t with bankA := t.bankA.set f x } else { t with bankB := t.bankB.set f x })
        fun y => y = { p with tables := y.tables })) ∧
    (Granted s r 2 7 → ∀ n : Slot, r.index = n.val → ∀ x, x = decodeNeighbour r.data →
      Written .neighbourWrite s r (checkNeighbour t n x) { t with neighbour := t.neighbour.set n x } fun y =>
        Untouched p { y with tables := t, sco := { y.sco with link := s.sco.link } } ∧
        (∀ m : Slot, m ≠ n → y.sco.link[m] = s.sco.link[m]) ∧ y.rcu = s.rcu ∧ y.stl = s.stl ∧
        y.drc = s.drc ∧
        (let same : Prop := x.stationId = t.neighbour[n].stationId ∧ x.linkNode = t.neighbour[n].linkNode ∧
            x.channel = t.neighbour[n].channel
         (same → y = { p with tables := y.tables }) ∧
          (¬ same → s.sco.link[n].up = true → ∃ v : State, SlotDown p v n .settings none ∧
            y = { v with tables := y.tables }) ∧
          (¬ same → s.sco.link[n].up = false → ∃ v : State,
            v = (sectionsOf s n).foldl (fun z f => z.clearHandshake f .removed) p ∧
            y = { v with tables := y.tables
                         sco := { v.sco with link := s.sco.link.set n { s.sco.link[n] with last := none } } }))) ∧
    (Granted s r 2 8 → ∀ x, x = decodeRegulator r.data → Written .regulatorWrite s r
      (checkRegulator t x (decide ((s.rcu.state = .off ∨ s.rcu.state = .tripped) ∧ s.rcu.adoption = false)))
      { t with regulator := x } fun y =>
        (x.gateNode = t.regulator.gateNode → y = { p with tables := y.tables }) ∧
        (x.gateNode ≠ t.regulator.gateNode → y = { p with
          tables := y.tables
          rcu := { s.rcu with status := none, supervised := false, supTimer := some 2000 } })) ∧
    (Granted s r 2 9 → ∀ entries, entries = decodeCurve r.data → Written .curveWrite s r
      (if ¬ (s.rcu.state = .off ∧ s.rcu.adoption = false) then some .state
        else if 65 < r.index + entries.length ∨ ∃ a ∈ entries, 9000 < a then some .range else none)
      { t with curve := Vector.ofFn fun j : Fin 65 =>
          if r.index ≤ j.val ∧ j.val < r.index + entries.length then entries.getD (j.val - r.index) 0
          else t.curve[j] } fun y => y = { p with tables := y.tables }) ∧
    (Granted s r 2 10 → ∀ x, x = decodeRecorder r.data → Written .recorderWrite s r
      (if ¬ (1 ≤ x.points.length ∧ x.points.length ≤ 8 ∧ (∀ q ∈ x.points, q ≤ 23) ∧ 1 ≤ x.postCount ∧
          x.postCount ≤ 4096 ∧ 256 ≤ x.cap ∧ x.cap ≤ 16384) then some .range
        else if ¬ x.points.Nodup then some .duplicate
        else match s.drc.state with
          | .idle => none
          | .held _ _ => none
          | _ => some .busy) { t with recorder := x } fun y => y = { p with tables := y.tables }) ∧
    (Granted s r 2 11 → ∀ c, c = decodeChain r.data → Written .chainWrite s r
      (checkChain c (match s.drc.state with
        | .idle => true
        | .held _ _ => true
        | _ => false)) { t with chain := c } fun y => Reports { p with
          tables := { t with chain := c }
          drc := { s.drc with state := .idle } } y [])) ∧
  (∀ t : Tables,
    (∀ x : StationRec, FirstOf (stationFaults t x) (checkStation t x)) ∧
    (∀ i : Nat, checkMapPoint t i none = none ∧ checkMapRange t i none = none) ∧
    (∀ (i : Nat) (e : MapPoint), FirstOf (mapPointFaults t i e) (checkMapPoint t i (some e))) ∧
    (∀ (i : Nat) (e : MapRange), FirstOf (mapRangeFaults t i e) (checkMapRange t i (some e))) ∧
    (∀ (f : Feeder) (x : FeederRec) (idle : Bool), FirstOf (feederFaults t f x idle) (checkFeeder t f x idle)) ∧
    (∀ (n : Slot) (x : NeighbourRec), FirstOf (neighbourFaults t n x) (checkNeighbour t n x)) ∧
    (∀ (x : RegulatorRec) (idle : Bool), FirstOf (regulatorFaults t x idle) (checkRegulator t x idle)) ∧
    (∀ (regions : List ChainDesc) (free : Bool), FirstOf (chainFaults regions free) (checkChain regions free))) ∧
  (∀ x : StationRec, StationInRange x → decodeStation (encodeStation x) = x) ∧
  (∀ e : MapPoint, MapPointInRange e → decodeMapPoint (encodeMapPoint (some e)) = some (some e)) ∧
  (∀ e : MapRange, MapRangeInRange e → decodeMapRange (encodeMapRange (some e)) = some (some e)) ∧
  (decodeMapPoint (encodeMapPoint none) = some none ∧ decodeMapRange (encodeMapRange none) = some none) ∧
  (∀ x : FeederRec, FeederInRange x → decodeFeeder (encodeFeeder x) = some x) ∧
  (∀ x : BankRec, BankInRange x → decodeBank (encodeBank x) = some x) ∧
  (∀ x : NeighbourRec, NeighbourInRange x → decodeNeighbour (encodeNeighbour x) = x) ∧
  (∀ (t : Tables) (x : RegulatorRec), t.station.vSetMax ≤ 9500 → RegulatorInRange t x →
    decodeRegulator (encodeRegulator x) = x) ∧
  (∀ entries : List Nat, (∀ a ∈ entries, a ≤ 9000) → decodeCurve (encodeCurve entries) = entries) ∧
  (∀ x : RecorderRec, x.points.length ≤ 8 → (∀ q ∈ x.points, q ≤ 23) → x.postCount ≤ 4096 → x.cap ≤ 16384 →
    decodeRecorder (encodeRecorder x) = x) ∧
  (∀ c : List ChainDesc, ChainInRange c → decodeChain (encodeChain c) = c)

/-- STORE, R225: the image of the working tables with its check value, store busy and 2 s. STORE_CONFIRM and
STORE_TIMER_EXPIRY, R226: the good end clears the unconfigured flag and posts STORE_DONE, any other posts STORE_BAD
with WRITE_FAILED; with no store in progress they have no effect (log entries 3, 8 and 12); the summary changes once
(log entry 17). -/
def Obligations.StoreRuns : Prop :=
  (∀ (s : State) (r : Request), Granted s r 3 49 → ∃ u : State, Serves .store s r .ok [] u ∧
    Reports { popped s with mga := { (popped s).mga with
      busy := true, storeTimer := some 8000, image := some (s.tables, Config.imageCheck s.tables) } } u []) ∧
  (∀ s : State, s.phase = .running →
    let ended (m : Mga) (posts : List (EventKind × Subject × Option Cause × Option Int)) (c : Instr) : Prop :=
      ∃ t : State, exec c s = .next t ∧ Reports { s with mga := m } t posts
    let closed : Mga := { s.mga with busy := false, storeTimer := none, image := none }
    (∀ (back check : Nat) (image : Tables), s.mga.image = some (image, check) → s.mga.busy = true →
      (back = check → ended { closed with unconfigured := false } [(.storeDone, .station, none, none)]
        (.storeConfirm back)) ∧
      (back ≠ check → ended closed [(.storeBad, .station, some .writeFailed, none)] (.storeConfirm back))) ∧
    (∀ back : Nat, s.mga.busy = false ∨ s.mga.image = none → exec (.storeConfirm back) s = .next s) ∧
    (s.mga.busy = true → s.mga.storeTimer = some 0 →
      ended closed [(.storeBad, .station, some .writeFailed, none)] .storeTimerExpiry) ∧
    (s.mga.busy = false ∨ s.mga.storeTimer ≠ some 0 → exec .storeTimerExpiry s = .next s))

end
end

