-- ==== Sys2Proof/Laws/State.lean ====
section
/-!
SUPPORT. What each update of the state leaves as it stands: one lemma per field per update.
-/

namespace Sys2Proof.Machine
open Sys2Proof

/-! ### State.modFct -/

@[simp] theorem modFct_phase (s : State) (f : Feeder) (g : Fct → Fct) :
    (s.modFct f g).phase = s.phase := rfl
@[simp] theorem modFct_pending (s : State) (f : Feeder) (g : Fct → Fct) :
    (s.modFct f g).pending = s.pending := rfl
@[simp] theorem modFct_clock (s : State) (f : Feeder) (g : Fct → Fct) :
    (s.modFct f g).clock = s.clock := rfl
@[simp] theorem modFct_tables (s : State) (f : Feeder) (g : Fct → Fct) :
    (s.modFct f g).tables = s.tables := rfl
@[simp] theorem modFct_rif (s : State) (f : Feeder) (g : Fct → Fct) :
    (s.modFct f g).rif = s.rif := rfl
@[simp] theorem modFct_smp (s : State) (f : Feeder) (g : Fct → Fct) :
    (s.modFct f g).smp = s.smp := rfl
@[simp] theorem modFct_fpu (s : State) (f : Feeder) (g : Fct → Fct) :
    (s.modFct f g).fpu = s.fpu := rfl
@[simp] theorem modFct_ltu (s : State) (f : Feeder) (g : Fct → Fct) :
    (s.modFct f g).ltu = s.ltu := rfl
@[simp] theorem modFct_sco (s : State) (f : Feeder) (g : Fct → Fct) :
    (s.modFct f g).sco = s.sco := rfl
@[simp] theorem modFct_rcu (s : State) (f : Feeder) (g : Fct → Fct) :
    (s.modFct f g).rcu = s.rcu := rfl
@[simp] theorem modFct_stl (s : State) (f : Feeder) (g : Fct → Fct) :
    (s.modFct f g).stl = s.stl := rfl
@[simp] theorem modFct_evr (s : State) (f : Feeder) (g : Fct → Fct) :
    (s.modFct f g).evr = s.evr := rfl
@[simp] theorem modFct_drc (s : State) (f : Feeder) (g : Fct → Fct) :
    (s.modFct f g).drc = s.drc := rfl
@[simp] theorem modFct_mga (s : State) (f : Feeder) (g : Fct → Fct) :
    (s.modFct f g).mga = s.mga := rfl

/-! ### State.modFpu -/

@[simp] theorem modFpu_phase (s : State) (f : Feeder) (g : Fpu → Fpu) :
    (s.modFpu f g).phase = s.phase := rfl
@[simp] theorem modFpu_pending (s : State) (f : Feeder) (g : Fpu → Fpu) :
    (s.modFpu f g).pending = s.pending := rfl
@[simp] theorem modFpu_clock (s : State) (f : Feeder) (g : Fpu → Fpu) :
    (s.modFpu f g).clock = s.clock := rfl
@[simp] theorem modFpu_tables (s : State) (f : Feeder) (g : Fpu → Fpu) :
    (s.modFpu f g).tables = s.tables := rfl
@[simp] theorem modFpu_rif (s : State) (f : Feeder) (g : Fpu → Fpu) :
    (s.modFpu f g).rif = s.rif := rfl
@[simp] theorem modFpu_smp (s : State) (f : Feeder) (g : Fpu → Fpu) :
    (s.modFpu f g).smp = s.smp := rfl
@[simp] theorem modFpu_fct (s : State) (f : Feeder) (g : Fpu → Fpu) :
    (s.modFpu f g).fct = s.fct := rfl
@[simp] theorem modFpu_ltu (s : State) (f : Feeder) (g : Fpu → Fpu) :
    (s.modFpu f g).ltu = s.ltu := rfl
@[simp] theorem modFpu_sco (s : State) (f : Feeder) (g : Fpu → Fpu) :
    (s.modFpu f g).sco = s.sco := rfl
@[simp] theorem modFpu_rcu (s : State) (f : Feeder) (g : Fpu → Fpu) :
    (s.modFpu f g).rcu = s.rcu := rfl
@[simp] theorem modFpu_stl (s : State) (f : Feeder) (g : Fpu → Fpu) :
    (s.modFpu f g).stl = s.stl := rfl
@[simp] theorem modFpu_evr (s : State) (f : Feeder) (g : Fpu → Fpu) :
    (s.modFpu f g).evr = s.evr := rfl
@[simp] theorem modFpu_drc (s : State) (f : Feeder) (g : Fpu → Fpu) :
    (s.modFpu f g).drc = s.drc := rfl
@[simp] theorem modFpu_mga (s : State) (f : Feeder) (g : Fpu → Fpu) :
    (s.modFpu f g).mga = s.mga := rfl

/-! ### State.modSect -/

@[simp] theorem modSect_phase (s : State) (f : Feeder) (g : Section → Section) :
    (s.modSect f g).phase = s.phase := rfl
@[simp] theorem modSect_pending (s : State) (f : Feeder) (g : Section → Section) :
    (s.modSect f g).pending = s.pending := rfl
@[simp] theorem modSect_clock (s : State) (f : Feeder) (g : Section → Section) :
    (s.modSect f g).clock = s.clock := rfl
@[simp] theorem modSect_tables (s : State) (f : Feeder) (g : Section → Section) :
    (s.modSect f g).tables = s.tables := rfl
@[simp] theorem modSect_rif (s : State) (f : Feeder) (g : Section → Section) :
    (s.modSect f g).rif = s.rif := rfl
@[simp] theorem modSect_smp (s : State) (f : Feeder) (g : Section → Section) :
    (s.modSect f g).smp = s.smp := rfl
@[simp] theorem modSect_fpu (s : State) (f : Feeder) (g : Section → Section) :
    (s.modSect f g).fpu = s.fpu := rfl
@[simp] theorem modSect_fct (s : State) (f : Feeder) (g : Section → Section) :
    (s.modSect f g).fct = s.fct := rfl
@[simp] theorem modSect_ltu (s : State) (f : Feeder) (g : Section → Section) :
    (s.modSect f g).ltu = s.ltu := rfl
@[simp] theorem modSect_rcu (s : State) (f : Feeder) (g : Section → Section) :
    (s.modSect f g).rcu = s.rcu := rfl
@[simp] theorem modSect_stl (s : State) (f : Feeder) (g : Section → Section) :
    (s.modSect f g).stl = s.stl := rfl
@[simp] theorem modSect_evr (s : State) (f : Feeder) (g : Section → Section) :
    (s.modSect f g).evr = s.evr := rfl
@[simp] theorem modSect_drc (s : State) (f : Feeder) (g : Section → Section) :
    (s.modSect f g).drc = s.drc := rfl
@[simp] theorem modSect_mga (s : State) (f : Feeder) (g : Section → Section) :
    (s.modSect f g).mga = s.mga := rfl

/-! ### State.modLink -/

@[simp] theorem modLink_phase (s : State) (n : Slot) (g : LinkState → LinkState) :
    (s.modLink n g).phase = s.phase := rfl
@[simp] theorem modLink_pending (s : State) (n : Slot) (g : LinkState → LinkState) :
    (s.modLink n g).pending = s.pending := rfl
@[simp] theorem modLink_clock (s : State) (n : Slot) (g : LinkState → LinkState) :
    (s.modLink n g).clock = s.clock := rfl
@[simp] theorem modLink_tables (s : State) (n : Slot) (g : LinkState → LinkState) :
    (s.modLink n g).tables = s.tables := rfl
@[simp] theorem modLink_rif (s : State) (n : Slot) (g : LinkState → LinkState) :
    (s.modLink n g).rif = s.rif := rfl
@[simp] theorem modLink_smp (s : State) (n : Slot) (g : LinkState → LinkState) :
    (s.modLink n g).smp = s.smp := rfl
@[simp] theorem modLink_fpu (s : State) (n : Slot) (g : LinkState → LinkState) :
    (s.modLink n g).fpu = s.fpu := rfl
@[simp] theorem modLink_fct (s : State) (n : Slot) (g : LinkState → LinkState) :
    (s.modLink n g).fct = s.fct := rfl
@[simp] theorem modLink_ltu (s : State) (n : Slot) (g : LinkState → LinkState) :
    (s.modLink n g).ltu = s.ltu := rfl
@[simp] theorem modLink_rcu (s : State) (n : Slot) (g : LinkState → LinkState) :
    (s.modLink n g).rcu = s.rcu := rfl
@[simp] theorem modLink_stl (s : State) (n : Slot) (g : LinkState → LinkState) :
    (s.modLink n g).stl = s.stl := rfl
@[simp] theorem modLink_evr (s : State) (n : Slot) (g : LinkState → LinkState) :
    (s.modLink n g).evr = s.evr := rfl
@[simp] theorem modLink_drc (s : State) (n : Slot) (g : LinkState → LinkState) :
    (s.modLink n g).drc = s.drc := rfl
@[simp] theorem modLink_mga (s : State) (n : Slot) (g : LinkState → LinkState) :
    (s.modLink n g).mga = s.mga := rfl

/-! ### State.modHs -/

@[simp] theorem modHs_phase (s : State) (f : Feeder) (g : Handshake → Handshake) :
    (s.modHs f g).phase = s.phase := rfl
@[simp] theorem modHs_pending (s : State) (f : Feeder) (g : Handshake → Handshake) :
    (s.modHs f g).pending = s.pending := rfl
@[simp] theorem modHs_clock (s : State) (f : Feeder) (g : Handshake → Handshake) :
    (s.modHs f g).clock = s.clock := rfl
@[simp] theorem modHs_tables (s : State) (f : Feeder) (g : Handshake → Handshake) :
    (s.modHs f g).tables = s.tables := rfl
@[simp] theorem modHs_rif (s : State) (f : Feeder) (g : Handshake → Handshake) :
    (s.modHs f g).rif = s.rif := rfl
@[simp] theorem modHs_smp (s : State) (f : Feeder) (g : Handshake → Handshake) :
    (s.modHs f g).smp = s.smp := rfl
@[simp] theorem modHs_fpu (s : State) (f : Feeder) (g : Handshake → Handshake) :
    (s.modHs f g).fpu = s.fpu := rfl
@[simp] theorem modHs_fct (s : State) (f : Feeder) (g : Handshake → Handshake) :
    (s.modHs f g).fct = s.fct := rfl
@[simp] theorem modHs_ltu (s : State) (f : Feeder) (g : Handshake → Handshake) :
    (s.modHs f g).ltu = s.ltu := rfl
@[simp] theorem modHs_rcu (s : State) (f : Feeder) (g : Handshake → Handshake) :
    (s.modHs f g).rcu = s.rcu := rfl
@[simp] theorem modHs_stl (s : State) (f : Feeder) (g : Handshake → Handshake) :
    (s.modHs f g).stl = s.stl := rfl
@[simp] theorem modHs_evr (s : State) (f : Feeder) (g : Handshake → Handshake) :
    (s.modHs f g).evr = s.evr := rfl
@[simp] theorem modHs_drc (s : State) (f : Feeder) (g : Handshake → Handshake) :
    (s.modHs f g).drc = s.drc := rfl
@[simp] theorem modHs_mga (s : State) (f : Feeder) (g : Handshake → Handshake) :
    (s.modHs f g).mga = s.mga := rfl

/-! ### State.setFar -/

@[simp] theorem setFar_phase (s : State) (f : Feeder) (e : Option SectionEntry) :
    (s.setFar f e).phase = s.phase := rfl
@[simp] theorem setFar_pending (s : State) (f : Feeder) (e : Option SectionEntry) :
    (s.setFar f e).pending = s.pending := rfl
@[simp] theorem setFar_clock (s : State) (f : Feeder) (e : Option SectionEntry) :
    (s.setFar f e).clock = s.clock := rfl
@[simp] theorem setFar_tables (s : State) (f : Feeder) (e : Option SectionEntry) :
    (s.setFar f e).tables = s.tables := rfl
@[simp] theorem setFar_rif (s : State) (f : Feeder) (e : Option SectionEntry) :
    (s.setFar f e).rif = s.rif := rfl
@[simp] theorem setFar_smp (s : State) (f : Feeder) (e : Option SectionEntry) :
    (s.setFar f e).smp = s.smp := rfl
@[simp] theorem setFar_fpu (s : State) (f : Feeder) (e : Option SectionEntry) :
    (s.setFar f e).fpu = s.fpu := rfl
@[simp] theorem setFar_fct (s : State) (f : Feeder) (e : Option SectionEntry) :
    (s.setFar f e).fct = s.fct := rfl
@[simp] theorem setFar_ltu (s : State) (f : Feeder) (e : Option SectionEntry) :
    (s.setFar f e).ltu = s.ltu := rfl
@[simp] theorem setFar_rcu (s : State) (f : Feeder) (e : Option SectionEntry) :
    (s.setFar f e).rcu = s.rcu := rfl
@[simp] theorem setFar_stl (s : State) (f : Feeder) (e : Option SectionEntry) :
    (s.setFar f e).stl = s.stl := rfl
@[simp] theorem setFar_evr (s : State) (f : Feeder) (e : Option SectionEntry) :
    (s.setFar f e).evr = s.evr := rfl
@[simp] theorem setFar_drc (s : State) (f : Feeder) (e : Option SectionEntry) :
    (s.setFar f e).drc = s.drc := rfl
@[simp] theorem setFar_mga (s : State) (f : Feeder) (e : Option SectionEntry) :
    (s.setFar f e).mga = s.mga := rfl

/-! ### State.modPoint -/

@[simp] theorem modPoint_phase (s : State) (p : Point) (g : PointRec → PointRec) :
    (s.modPoint p g).phase = s.phase := rfl
@[simp] theorem modPoint_pending (s : State) (p : Point) (g : PointRec → PointRec) :
    (s.modPoint p g).pending = s.pending := rfl
@[simp] theorem modPoint_clock (s : State) (p : Point) (g : PointRec → PointRec) :
    (s.modPoint p g).clock = s.clock := rfl
@[simp] theorem modPoint_tables (s : State) (p : Point) (g : PointRec → PointRec) :
    (s.modPoint p g).tables = s.tables := rfl
@[simp] theorem modPoint_rif (s : State) (p : Point) (g : PointRec → PointRec) :
    (s.modPoint p g).rif = s.rif := rfl
@[simp] theorem modPoint_fpu (s : State) (p : Point) (g : PointRec → PointRec) :
    (s.modPoint p g).fpu = s.fpu := rfl
@[simp] theorem modPoint_fct (s : State) (p : Point) (g : PointRec → PointRec) :
    (s.modPoint p g).fct = s.fct := rfl
@[simp] theorem modPoint_ltu (s : State) (p : Point) (g : PointRec → PointRec) :
    (s.modPoint p g).ltu = s.ltu := rfl
@[simp] theorem modPoint_sco (s : State) (p : Point) (g : PointRec → PointRec) :
    (s.modPoint p g).sco = s.sco := rfl
@[simp] theorem modPoint_rcu (s : State) (p : Point) (g : PointRec → PointRec) :
    (s.modPoint p g).rcu = s.rcu := rfl
@[simp] theorem modPoint_stl (s : State) (p : Point) (g : PointRec → PointRec) :
    (s.modPoint p g).stl = s.stl := rfl
@[simp] theorem modPoint_evr (s : State) (p : Point) (g : PointRec → PointRec) :
    (s.modPoint p g).evr = s.evr := rfl
@[simp] theorem modPoint_drc (s : State) (p : Point) (g : PointRec → PointRec) :
    (s.modPoint p g).drc = s.drc := rfl
@[simp] theorem modPoint_mga (s : State) (p : Point) (g : PointRec → PointRec) :
    (s.modPoint p g).mga = s.mga := rfl

/-! ### State.setTestSlot -/

@[simp] theorem setTestSlot_phase (s : State) (k : TestSlot) (ph : TestPhase) :
    (s.setTestSlot k ph).phase = s.phase := rfl
@[simp] theorem setTestSlot_pending (s : State) (k : TestSlot) (ph : TestPhase) :
    (s.setTestSlot k ph).pending = s.pending := rfl
@[simp] theorem setTestSlot_clock (s : State) (k : TestSlot) (ph : TestPhase) :
    (s.setTestSlot k ph).clock = s.clock := rfl
@[simp] theorem setTestSlot_tables (s : State) (k : TestSlot) (ph : TestPhase) :
    (s.setTestSlot k ph).tables = s.tables := rfl
@[simp] theorem setTestSlot_rif (s : State) (k : TestSlot) (ph : TestPhase) :
    (s.setTestSlot k ph).rif = s.rif := rfl
@[simp] theorem setTestSlot_smp (s : State) (k : TestSlot) (ph : TestPhase) :
    (s.setTestSlot k ph).smp = s.smp := rfl
@[simp] theorem setTestSlot_fpu (s : State) (k : TestSlot) (ph : TestPhase) :
    (s.setTestSlot k ph).fpu = s.fpu := rfl
@[simp] theorem setTestSlot_fct (s : State) (k : TestSlot) (ph : TestPhase) :
    (s.setTestSlot k ph).fct = s.fct := rfl
@[simp] theorem setTestSlot_sco (s : State) (k : TestSlot) (ph : TestPhase) :
    (s.setTestSlot k ph).sco = s.sco := rfl
@[simp] theorem setTestSlot_rcu (s : State) (k : TestSlot) (ph : TestPhase) :
    (s.setTestSlot k ph).rcu = s.rcu := rfl
@[simp] theorem setTestSlot_stl (s : State) (k : TestSlot) (ph : TestPhase) :
    (s.setTestSlot k ph).stl = s.stl := rfl
@[simp] theorem setTestSlot_evr (s : State) (k : TestSlot) (ph : TestPhase) :
    (s.setTestSlot k ph).evr = s.evr := rfl
@[simp] theorem setTestSlot_drc (s : State) (k : TestSlot) (ph : TestPhase) :
    (s.setTestSlot k ph).drc = s.drc := rfl
@[simp] theorem setTestSlot_mga (s : State) (k : TestSlot) (ph : TestPhase) :
    (s.setTestSlot k ph).mga = s.mga := rfl

/-! ### State.setQueue -/

@[simp] theorem setQueue_phase (s : State) (q : List Feeder) :
    (s.setQueue q).phase = s.phase := rfl
@[simp] theorem setQueue_pending (s : State) (q : List Feeder) :
    (s.setQueue q).pending = s.pending := rfl
@[simp] theorem setQueue_clock (s : State) (q : List Feeder) :
    (s.setQueue q).clock = s.clock := rfl
@[simp] theorem setQueue_tables (s : State) (q : List Feeder) :
    (s.setQueue q).tables = s.tables := rfl
@[simp] theorem setQueue_rif (s : State) (q : List Feeder) :
    (s.setQueue q).rif = s.rif := rfl
@[simp] theorem setQueue_smp (s : State) (q : List Feeder) :
    (s.setQueue q).smp = s.smp := rfl
@[simp] theorem setQueue_fpu (s : State) (q : List Feeder) :
    (s.setQueue q).fpu = s.fpu := rfl
@[simp] theorem setQueue_fct (s : State) (q : List Feeder) :
    (s.setQueue q).fct = s.fct := rfl
@[simp] theorem setQueue_sco (s : State) (q : List Feeder) :
    (s.setQueue q).sco = s.sco := rfl
@[simp] theorem setQueue_rcu (s : State) (q : List Feeder) :
    (s.setQueue q).rcu = s.rcu := rfl
@[simp] theorem setQueue_stl (s : State) (q : List Feeder) :
    (s.setQueue q).stl = s.stl := rfl
@[simp] theorem setQueue_evr (s : State) (q : List Feeder) :
    (s.setQueue q).evr = s.evr := rfl
@[simp] theorem setQueue_drc (s : State) (q : List Feeder) :
    (s.setQueue q).drc = s.drc := rfl
@[simp] theorem setQueue_mga (s : State) (q : List Feeder) :
    (s.setQueue q).mga = s.mga := rfl

/-! ### State.dequeue -/

@[simp] theorem dequeue_phase (s : State) (f : Feeder) :
    (s.dequeue f).phase = s.phase := rfl
@[simp] theorem dequeue_pending (s : State) (f : Feeder) :
    (s.dequeue f).pending = s.pending := rfl
@[simp] theorem dequeue_clock (s : State) (f : Feeder) :
    (s.dequeue f).clock = s.clock := rfl
@[simp] theorem dequeue_tables (s : State) (f : Feeder) :
    (s.dequeue f).tables = s.tables := rfl
@[simp] theorem dequeue_rif (s : State) (f : Feeder) :
    (s.dequeue f).rif = s.rif := rfl
@[simp] theorem dequeue_smp (s : State) (f : Feeder) :
    (s.dequeue f).smp = s.smp := rfl
@[simp] theorem dequeue_fpu (s : State) (f : Feeder) :
    (s.dequeue f).fpu = s.fpu := rfl
@[simp] theorem dequeue_fct (s : State) (f : Feeder) :
    (s.dequeue f).fct = s.fct := rfl
@[simp] theorem dequeue_sco (s : State) (f : Feeder) :
    (s.dequeue f).sco = s.sco := rfl
@[simp] theorem dequeue_rcu (s : State) (f : Feeder) :
    (s.dequeue f).rcu = s.rcu := rfl
@[simp] theorem dequeue_stl (s : State) (f : Feeder) :
    (s.dequeue f).stl = s.stl := rfl
@[simp] theorem dequeue_evr (s : State) (f : Feeder) :
    (s.dequeue f).evr = s.evr := rfl
@[simp] theorem dequeue_drc (s : State) (f : Feeder) :
    (s.dequeue f).drc = s.drc := rfl
@[simp] theorem dequeue_mga (s : State) (f : Feeder) :
    (s.dequeue f).mga = s.mga := rfl

/-! ### State.sendOrder -/

@[simp] theorem sendOrder_phase (s : State) (f : Feeder) (o : BreakerOrder) :
    (s.sendOrder f o).phase = s.phase := rfl
@[simp] theorem sendOrder_pending (s : State) (f : Feeder) (o : BreakerOrder) :
    (s.sendOrder f o).pending = s.pending := rfl
@[simp] theorem sendOrder_clock (s : State) (f : Feeder) (o : BreakerOrder) :
    (s.sendOrder f o).clock = s.clock := rfl
@[simp] theorem sendOrder_tables (s : State) (f : Feeder) (o : BreakerOrder) :
    (s.sendOrder f o).tables = s.tables := rfl
@[simp] theorem sendOrder_smp (s : State) (f : Feeder) (o : BreakerOrder) :
    (s.sendOrder f o).smp = s.smp := rfl
@[simp] theorem sendOrder_fpu (s : State) (f : Feeder) (o : BreakerOrder) :
    (s.sendOrder f o).fpu = s.fpu := rfl
@[simp] theorem sendOrder_fct (s : State) (f : Feeder) (o : BreakerOrder) :
    (s.sendOrder f o).fct = s.fct := rfl
@[simp] theorem sendOrder_ltu (s : State) (f : Feeder) (o : BreakerOrder) :
    (s.sendOrder f o).ltu = s.ltu := rfl
@[simp] theorem sendOrder_sco (s : State) (f : Feeder) (o : BreakerOrder) :
    (s.sendOrder f o).sco = s.sco := rfl
@[simp] theorem sendOrder_rcu (s : State) (f : Feeder) (o : BreakerOrder) :
    (s.sendOrder f o).rcu = s.rcu := rfl
@[simp] theorem sendOrder_stl (s : State) (f : Feeder) (o : BreakerOrder) :
    (s.sendOrder f o).stl = s.stl := rfl
@[simp] theorem sendOrder_evr (s : State) (f : Feeder) (o : BreakerOrder) :
    (s.sendOrder f o).evr = s.evr := rfl
@[simp] theorem sendOrder_drc (s : State) (f : Feeder) (o : BreakerOrder) :
    (s.sendOrder f o).drc = s.drc := rfl
@[simp] theorem sendOrder_mga (s : State) (f : Feeder) (o : BreakerOrder) :
    (s.sendOrder f o).mga = s.mga := rfl

/-! ### State.sendGate -/

@[simp] theorem sendGate_phase (s : State) :
    (s.sendGate).phase = s.phase := rfl
@[simp] theorem sendGate_pending (s : State) :
    (s.sendGate).pending = s.pending := rfl
@[simp] theorem sendGate_clock (s : State) :
    (s.sendGate).clock = s.clock := rfl
@[simp] theorem sendGate_tables (s : State) :
    (s.sendGate).tables = s.tables := rfl
@[simp] theorem sendGate_smp (s : State) :
    (s.sendGate).smp = s.smp := rfl
@[simp] theorem sendGate_fpu (s : State) :
    (s.sendGate).fpu = s.fpu := rfl
@[simp] theorem sendGate_fct (s : State) :
    (s.sendGate).fct = s.fct := rfl
@[simp] theorem sendGate_ltu (s : State) :
    (s.sendGate).ltu = s.ltu := rfl
@[simp] theorem sendGate_sco (s : State) :
    (s.sendGate).sco = s.sco := rfl
@[simp] theorem sendGate_rcu (s : State) :
    (s.sendGate).rcu = s.rcu := rfl
@[simp] theorem sendGate_stl (s : State) :
    (s.sendGate).stl = s.stl := rfl
@[simp] theorem sendGate_evr (s : State) :
    (s.sendGate).evr = s.evr := rfl
@[simp] theorem sendGate_drc (s : State) :
    (s.sendGate).drc = s.drc := rfl
@[simp] theorem sendGate_mga (s : State) :
    (s.sendGate).mga = s.mga := rfl

/-! ### State.notify -/

@[simp] theorem notify_phase (s : State) (due : Bool) :
    (s.notify due).phase = s.phase := rfl
@[simp] theorem notify_pending (s : State) (due : Bool) :
    (s.notify due).pending = s.pending := rfl
@[simp] theorem notify_clock (s : State) (due : Bool) :
    (s.notify due).clock = s.clock := rfl
@[simp] theorem notify_tables (s : State) (due : Bool) :
    (s.notify due).tables = s.tables := rfl
@[simp] theorem notify_smp (s : State) (due : Bool) :
    (s.notify due).smp = s.smp := rfl
@[simp] theorem notify_fpu (s : State) (due : Bool) :
    (s.notify due).fpu = s.fpu := rfl
@[simp] theorem notify_fct (s : State) (due : Bool) :
    (s.notify due).fct = s.fct := rfl
@[simp] theorem notify_ltu (s : State) (due : Bool) :
    (s.notify due).ltu = s.ltu := rfl
@[simp] theorem notify_sco (s : State) (due : Bool) :
    (s.notify due).sco = s.sco := rfl
@[simp] theorem notify_rcu (s : State) (due : Bool) :
    (s.notify due).rcu = s.rcu := rfl
@[simp] theorem notify_stl (s : State) (due : Bool) :
    (s.notify due).stl = s.stl := rfl
@[simp] theorem notify_drc (s : State) (due : Bool) :
    (s.notify due).drc = s.drc := rfl
@[simp] theorem notify_mga (s : State) (due : Bool) :
    (s.notify due).mga = s.mga := rfl

/-! ### State.noteChange -/

@[simp] theorem noteChange_phase (s : State) (old : Summary) :
    (s.noteChange old).phase = s.phase := rfl
@[simp] theorem noteChange_pending (s : State) (old : Summary) :
    (s.noteChange old).pending = s.pending := rfl
@[simp] theorem noteChange_clock (s : State) (old : Summary) :
    (s.noteChange old).clock = s.clock := rfl
@[simp] theorem noteChange_tables (s : State) (old : Summary) :
    (s.noteChange old).tables = s.tables := rfl
@[simp] theorem noteChange_smp (s : State) (old : Summary) :
    (s.noteChange old).smp = s.smp := rfl
@[simp] theorem noteChange_fpu (s : State) (old : Summary) :
    (s.noteChange old).fpu = s.fpu := rfl
@[simp] theorem noteChange_fct (s : State) (old : Summary) :
    (s.noteChange old).fct = s.fct := rfl
@[simp] theorem noteChange_ltu (s : State) (old : Summary) :
    (s.noteChange old).ltu = s.ltu := rfl
@[simp] theorem noteChange_sco (s : State) (old : Summary) :
    (s.noteChange old).sco = s.sco := rfl
@[simp] theorem noteChange_rcu (s : State) (old : Summary) :
    (s.noteChange old).rcu = s.rcu := rfl
@[simp] theorem noteChange_stl (s : State) (old : Summary) :
    (s.noteChange old).stl = s.stl := rfl
@[simp] theorem noteChange_drc (s : State) (old : Summary) :
    (s.noteChange old).drc = s.drc := rfl
@[simp] theorem noteChange_mga (s : State) (old : Summary) :
    (s.noteChange old).mga = s.mga := rfl

/-! ### State.post -/

@[simp] theorem post_phase (s : State) (k : EventKind) (x : Subject) (c : Option Cause) (v : Option Int) :
    (s.post k x c v).phase = s.phase := rfl
@[simp] theorem post_pending (s : State) (k : EventKind) (x : Subject) (c : Option Cause) (v : Option Int) :
    (s.post k x c v).pending = s.pending := rfl
@[simp] theorem post_clock (s : State) (k : EventKind) (x : Subject) (c : Option Cause) (v : Option Int) :
    (s.post k x c v).clock = s.clock := rfl
@[simp] theorem post_tables (s : State) (k : EventKind) (x : Subject) (c : Option Cause) (v : Option Int) :
    (s.post k x c v).tables = s.tables := rfl
@[simp] theorem post_smp (s : State) (k : EventKind) (x : Subject) (c : Option Cause) (v : Option Int) :
    (s.post k x c v).smp = s.smp := rfl
@[simp] theorem post_fpu (s : State) (k : EventKind) (x : Subject) (c : Option Cause) (v : Option Int) :
    (s.post k x c v).fpu = s.fpu := rfl
@[simp] theorem post_fct (s : State) (k : EventKind) (x : Subject) (c : Option Cause) (v : Option Int) :
    (s.post k x c v).fct = s.fct := rfl
@[simp] theorem post_ltu (s : State) (k : EventKind) (x : Subject) (c : Option Cause) (v : Option Int) :
    (s.post k x c v).ltu = s.ltu := rfl
@[simp] theorem post_sco (s : State) (k : EventKind) (x : Subject) (c : Option Cause) (v : Option Int) :
    (s.post k x c v).sco = s.sco := rfl
@[simp] theorem post_rcu (s : State) (k : EventKind) (x : Subject) (c : Option Cause) (v : Option Int) :
    (s.post k x c v).rcu = s.rcu := rfl
@[simp] theorem post_stl (s : State) (k : EventKind) (x : Subject) (c : Option Cause) (v : Option Int) :
    (s.post k x c v).stl = s.stl := rfl
@[simp] theorem post_drc (s : State) (k : EventKind) (x : Subject) (c : Option Cause) (v : Option Int) :
    (s.post k x c v).drc = s.drc := rfl
@[simp] theorem post_mga (s : State) (k : EventKind) (x : Subject) (c : Option Cause) (v : Option Int) :
    (s.post k x c v).mga = s.mga := rfl

/-! ### State.postSection -/

@[simp] theorem postSection_phase (s : State) (f : Feeder) (k : EventKind) (c : Option Cause) :
    (s.postSection f k c).phase = s.phase := rfl
@[simp] theorem postSection_pending (s : State) (f : Feeder) (k : EventKind) (c : Option Cause) :
    (s.postSection f k c).pending = s.pending := rfl
@[simp] theorem postSection_clock (s : State) (f : Feeder) (k : EventKind) (c : Option Cause) :
    (s.postSection f k c).clock = s.clock := rfl
@[simp] theorem postSection_tables (s : State) (f : Feeder) (k : EventKind) (c : Option Cause) :
    (s.postSection f k c).tables = s.tables := rfl
@[simp] theorem postSection_smp (s : State) (f : Feeder) (k : EventKind) (c : Option Cause) :
    (s.postSection f k c).smp = s.smp := rfl
@[simp] theorem postSection_fpu (s : State) (f : Feeder) (k : EventKind) (c : Option Cause) :
    (s.postSection f k c).fpu = s.fpu := rfl
@[simp] theorem postSection_fct (s : State) (f : Feeder) (k : EventKind) (c : Option Cause) :
    (s.postSection f k c).fct = s.fct := rfl
@[simp] theorem postSection_ltu (s : State) (f : Feeder) (k : EventKind) (c : Option Cause) :
    (s.postSection f k c).ltu = s.ltu := rfl
@[simp] theorem postSection_sco (s : State) (f : Feeder) (k : EventKind) (c : Option Cause) :
    (s.postSection f k c).sco = s.sco := rfl
@[simp] theorem postSection_rcu (s : State) (f : Feeder) (k : EventKind) (c : Option Cause) :
    (s.postSection f k c).rcu = s.rcu := rfl
@[simp] theorem postSection_stl (s : State) (f : Feeder) (k : EventKind) (c : Option Cause) :
    (s.postSection f k c).stl = s.stl := rfl
@[simp] theorem postSection_drc (s : State) (f : Feeder) (k : EventKind) (c : Option Cause) :
    (s.postSection f k c).drc = s.drc := rfl
@[simp] theorem postSection_mga (s : State) (f : Feeder) (k : EventKind) (c : Option Cause) :
    (s.postSection f k c).mga = s.mga := rfl

/-! ### State.popRequest -/

@[simp] theorem popRequest_phase (s : State) :
    (s.popRequest).phase = s.phase := rfl
@[simp] theorem popRequest_pending (s : State) :
    (s.popRequest).pending = s.pending := rfl
@[simp] theorem popRequest_clock (s : State) :
    (s.popRequest).clock = s.clock := rfl
@[simp] theorem popRequest_tables (s : State) :
    (s.popRequest).tables = s.tables := rfl
@[simp] theorem popRequest_rif (s : State) :
    (s.popRequest).rif = s.rif := rfl
@[simp] theorem popRequest_smp (s : State) :
    (s.popRequest).smp = s.smp := rfl
@[simp] theorem popRequest_fpu (s : State) :
    (s.popRequest).fpu = s.fpu := rfl
@[simp] theorem popRequest_fct (s : State) :
    (s.popRequest).fct = s.fct := rfl
@[simp] theorem popRequest_ltu (s : State) :
    (s.popRequest).ltu = s.ltu := rfl
@[simp] theorem popRequest_sco (s : State) :
    (s.popRequest).sco = s.sco := rfl
@[simp] theorem popRequest_rcu (s : State) :
    (s.popRequest).rcu = s.rcu := rfl
@[simp] theorem popRequest_stl (s : State) :
    (s.popRequest).stl = s.stl := rfl
@[simp] theorem popRequest_evr (s : State) :
    (s.popRequest).evr = s.evr := rfl
@[simp] theorem popRequest_drc (s : State) :
    (s.popRequest).drc = s.drc := rfl

/-! ### State.respond -/

@[simp] theorem respond_phase (s : State) (r : Request) (st : Status) (d : List Byte) :
    (s.respond r st d).phase = s.phase := rfl
@[simp] theorem respond_pending (s : State) (r : Request) (st : Status) (d : List Byte) :
    (s.respond r st d).pending = s.pending := rfl
@[simp] theorem respond_clock (s : State) (r : Request) (st : Status) (d : List Byte) :
    (s.respond r st d).clock = s.clock := rfl
@[simp] theorem respond_tables (s : State) (r : Request) (st : Status) (d : List Byte) :
    (s.respond r st d).tables = s.tables := rfl
@[simp] theorem respond_smp (s : State) (r : Request) (st : Status) (d : List Byte) :
    (s.respond r st d).smp = s.smp := rfl
@[simp] theorem respond_fpu (s : State) (r : Request) (st : Status) (d : List Byte) :
    (s.respond r st d).fpu = s.fpu := rfl
@[simp] theorem respond_fct (s : State) (r : Request) (st : Status) (d : List Byte) :
    (s.respond r st d).fct = s.fct := rfl
@[simp] theorem respond_ltu (s : State) (r : Request) (st : Status) (d : List Byte) :
    (s.respond r st d).ltu = s.ltu := rfl
@[simp] theorem respond_sco (s : State) (r : Request) (st : Status) (d : List Byte) :
    (s.respond r st d).sco = s.sco := rfl
@[simp] theorem respond_rcu (s : State) (r : Request) (st : Status) (d : List Byte) :
    (s.respond r st d).rcu = s.rcu := rfl
@[simp] theorem respond_stl (s : State) (r : Request) (st : Status) (d : List Byte) :
    (s.respond r st d).stl = s.stl := rfl
@[simp] theorem respond_evr (s : State) (r : Request) (st : Status) (d : List Byte) :
    (s.respond r st d).evr = s.evr := rfl
@[simp] theorem respond_drc (s : State) (r : Request) (st : Status) (d : List Byte) :
    (s.respond r st d).drc = s.drc := rfl
@[simp] theorem respond_mga (s : State) (r : Request) (st : Status) (d : List Byte) :
    (s.respond r st d).mga = s.mga := rfl

/-! ### State.loadTime -/

@[simp] theorem loadTime_phase (s : State) (n : Nat) :
    (s.loadTime n).phase = s.phase := rfl
@[simp] theorem loadTime_pending (s : State) (n : Nat) :
    (s.loadTime n).pending = s.pending := rfl
@[simp] theorem loadTime_clock (s : State) (n : Nat) :
    (s.loadTime n).clock = s.clock := rfl
@[simp] theorem loadTime_tables (s : State) (n : Nat) :
    (s.loadTime n).tables = s.tables := rfl
@[simp] theorem loadTime_rif (s : State) (n : Nat) :
    (s.loadTime n).rif = s.rif := rfl
@[simp] theorem loadTime_smp (s : State) (n : Nat) :
    (s.loadTime n).smp = s.smp := rfl
@[simp] theorem loadTime_fpu (s : State) (n : Nat) :
    (s.loadTime n).fpu = s.fpu := rfl
@[simp] theorem loadTime_fct (s : State) (n : Nat) :
    (s.loadTime n).fct = s.fct := rfl
@[simp] theorem loadTime_ltu (s : State) (n : Nat) :
    (s.loadTime n).ltu = s.ltu := rfl
@[simp] theorem loadTime_sco (s : State) (n : Nat) :
    (s.loadTime n).sco = s.sco := rfl
@[simp] theorem loadTime_rcu (s : State) (n : Nat) :
    (s.loadTime n).rcu = s.rcu := rfl
@[simp] theorem loadTime_stl (s : State) (n : Nat) :
    (s.loadTime n).stl = s.stl := rfl
@[simp] theorem loadTime_drc (s : State) (n : Nat) :
    (s.loadTime n).drc = s.drc := rfl
@[simp] theorem loadTime_mga (s : State) (n : Nat) :
    (s.loadTime n).mga = s.mga := rfl

/-! ### State.setVSet -/

@[simp] theorem setVSet_phase (s : State) (v : Nat) :
    (s.setVSet v).phase = s.phase := rfl
@[simp] theorem setVSet_pending (s : State) (v : Nat) :
    (s.setVSet v).pending = s.pending := rfl
@[simp] theorem setVSet_clock (s : State) (v : Nat) :
    (s.setVSet v).clock = s.clock := rfl
@[simp] theorem setVSet_rif (s : State) (v : Nat) :
    (s.setVSet v).rif = s.rif := rfl
@[simp] theorem setVSet_smp (s : State) (v : Nat) :
    (s.setVSet v).smp = s.smp := rfl
@[simp] theorem setVSet_fpu (s : State) (v : Nat) :
    (s.setVSet v).fpu = s.fpu := rfl
@[simp] theorem setVSet_fct (s : State) (v : Nat) :
    (s.setVSet v).fct = s.fct := rfl
@[simp] theorem setVSet_ltu (s : State) (v : Nat) :
    (s.setVSet v).ltu = s.ltu := rfl
@[simp] theorem setVSet_sco (s : State) (v : Nat) :
    (s.setVSet v).sco = s.sco := rfl
@[simp] theorem setVSet_rcu (s : State) (v : Nat) :
    (s.setVSet v).rcu = s.rcu := rfl
@[simp] theorem setVSet_stl (s : State) (v : Nat) :
    (s.setVSet v).stl = s.stl := rfl
@[simp] theorem setVSet_evr (s : State) (v : Nat) :
    (s.setVSet v).evr = s.evr := rfl
@[simp] theorem setVSet_drc (s : State) (v : Nat) :
    (s.setVSet v).drc = s.drc := rfl
@[simp] theorem setVSet_mga (s : State) (v : Nat) :
    (s.setVSet v).mga = s.mga := rfl

/-! ### State.changing: every field but the event queue and the ring interface is the update's -/

@[simp] theorem changing_phase (s : State) (g : State → State) :
    (s.changing g).phase = (g s).phase := rfl
@[simp] theorem changing_pending (s : State) (g : State → State) :
    (s.changing g).pending = (g s).pending := rfl
@[simp] theorem changing_clock (s : State) (g : State → State) :
    (s.changing g).clock = (g s).clock := rfl
@[simp] theorem changing_tables (s : State) (g : State → State) :
    (s.changing g).tables = (g s).tables := rfl
@[simp] theorem changing_smp (s : State) (g : State → State) :
    (s.changing g).smp = (g s).smp := rfl
@[simp] theorem changing_fpu (s : State) (g : State → State) :
    (s.changing g).fpu = (g s).fpu := rfl
@[simp] theorem changing_fct (s : State) (g : State → State) :
    (s.changing g).fct = (g s).fct := rfl
@[simp] theorem changing_ltu (s : State) (g : State → State) :
    (s.changing g).ltu = (g s).ltu := rfl
@[simp] theorem changing_sco (s : State) (g : State → State) :
    (s.changing g).sco = (g s).sco := rfl
@[simp] theorem changing_rcu (s : State) (g : State → State) :
    (s.changing g).rcu = (g s).rcu := rfl
@[simp] theorem changing_stl (s : State) (g : State → State) :
    (s.changing g).stl = (g s).stl := rfl
@[simp] theorem changing_drc (s : State) (g : State → State) :
    (s.changing g).drc = (g s).drc := rfl
@[simp] theorem changing_mga (s : State) (g : State → State) :
    (s.changing g).mga = (g s).mga := rfl

/-! ### The field that an update writes -/

@[simp] theorem modFct_fct (s : State) (f : Feeder) (g : Fct → Fct) :
    (s.modFct f g).fct = s.fct.set f (g s.fct[f]) := rfl
@[simp] theorem modFpu_fpu (s : State) (f : Feeder) (g : Fpu → Fpu) :
    (s.modFpu f g).fpu = s.fpu.set f (g s.fpu[f]) := rfl
@[simp] theorem modSect_sect (s : State) (f : Feeder) (g : Section → Section) :
    (s.modSect f g).sco.sect = s.sco.sect.set f (g s.sco.sect[f]) := rfl
@[simp] theorem modSect_link (s : State) (f : Feeder) (g : Section → Section) :
    (s.modSect f g).sco.link = s.sco.link := rfl
@[simp] theorem modLink_link (s : State) (n : Slot) (g : LinkState → LinkState) :
    (s.modLink n g).sco.link = s.sco.link.set n (g s.sco.link[n]) := rfl
@[simp] theorem modLink_sect (s : State) (n : Slot) (g : LinkState → LinkState) :
    (s.modLink n g).sco.sect = s.sco.sect := rfl
@[simp] theorem modHs_sect (s : State) (f : Feeder) (g : Handshake → Handshake) :
    (s.modHs f g).sco.sect = s.sco.sect.set f { s.sco.sect[f] with hs := g s.sco.sect[f].hs } := rfl
@[simp] theorem modHs_link (s : State) (f : Feeder) (g : Handshake → Handshake) :
    (s.modHs f g).sco.link = s.sco.link := rfl
@[simp] theorem setFar_sect (s : State) (f : Feeder) (e : Option SectionEntry) :
    (s.setFar f e).sco.sect = s.sco.sect.set f { s.sco.sect[f] with far := e } := rfl
@[simp] theorem setFar_link (s : State) (f : Feeder) (e : Option SectionEntry) :
    (s.setFar f e).sco.link = s.sco.link := rfl
@[simp] theorem modPoint_points (s : State) (p : Point) (g : PointRec → PointRec) :
    (s.modPoint p g).smp.points = s.smp.points.set p (g s.smp.points[p]) := rfl
@[simp] theorem setTestSlot_slot (s : State) (k : TestSlot) (ph : TestPhase) :
    (s.setTestSlot k ph).ltu.slot = s.ltu.slot.set k ph := rfl
@[simp] theorem setTestSlot_queue (s : State) (k : TestSlot) (ph : TestPhase) :
    (s.setTestSlot k ph).ltu.queue = s.ltu.queue := rfl
@[simp] theorem setQueue_queue (s : State) (q : List Feeder) : (s.setQueue q).ltu.queue = q := rfl
@[simp] theorem setQueue_slot (s : State) (q : List Feeder) : (s.setQueue q).ltu.slot = s.ltu.slot := rfl
@[simp] theorem popRequest_requests (s : State) :
    s.popRequest.mga.requests = s.mga.requests.drop 1 := rfl
@[simp] theorem respond_rif (s : State) (r : Request) (st : Status) (d : List Byte) :
    (s.respond r st d).rif = s.rif.putResponse (s.responseFrame r st d) := rfl
@[simp] theorem loadTime_evr (s : State) (n : Nat) :
    (s.loadTime n).evr = { s.evr with ms := n } := rfl

/-! ### One element of a table after its update -/

theorem modFct_self (s : State) (f : Feeder) (g : Fct → Fct) :
    (s.modFct f g).fct[f] = g s.fct[f] := by simp
theorem modFct_ne (s : State) (f h : Feeder) (g : Fct → Fct) (hne : f ≠ h) :
    (s.modFct f g).fct[h] = s.fct[h] := by
  simp [Fin.val_ne_of_ne hne]
theorem modFpu_self (s : State) (f : Feeder) (g : Fpu → Fpu) :
    (s.modFpu f g).fpu[f] = g s.fpu[f] := by simp
theorem modFpu_ne (s : State) (f h : Feeder) (g : Fpu → Fpu) (hne : f ≠ h) :
    (s.modFpu f g).fpu[h] = s.fpu[h] := by
  simp [Fin.val_ne_of_ne hne]
theorem modSect_self (s : State) (f : Feeder) (g : Section → Section) :
    (s.modSect f g).sco.sect[f] = g s.sco.sect[f] := by simp
theorem modSect_ne (s : State) (f h : Feeder) (g : Section → Section) (hne : f ≠ h) :
    (s.modSect f g).sco.sect[h] = s.sco.sect[h] := by
  simp [Fin.val_ne_of_ne hne]
theorem modLink_self (s : State) (n : Slot) (g : LinkState → LinkState) :
    (s.modLink n g).sco.link[n] = g s.sco.link[n] := by simp
theorem modLink_ne (s : State) (n m : Slot) (g : LinkState → LinkState) (hne : n ≠ m) :
    (s.modLink n g).sco.link[m] = s.sco.link[m] := by
  simp [Fin.val_ne_of_ne hne]
theorem modPoint_self (s : State) (p : Point) (g : PointRec → PointRec) :
    (s.modPoint p g).smp.points[p] = g s.smp.points[p] := by simp
theorem modPoint_ne (s : State) (p q : Point) (g : PointRec → PointRec) (hne : p ≠ q) :
    (s.modPoint p g).smp.points[q] = s.smp.points[q] := by
  simp [Fin.val_ne_of_ne hne]
theorem setTestSlot_self (s : State) (k : TestSlot) (ph : TestPhase) :
    (s.setTestSlot k ph).ltu.slot[k] = ph := by simp
theorem setTestSlot_ne (s : State) (k j : TestSlot) (ph : TestPhase) (hne : k ≠ j) :
    (s.setTestSlot k ph).ltu.slot[j] = s.ltu.slot[j] := by
  simp [Fin.val_ne_of_ne hne]

/-! ### The event queue and the ring interface after an event -/

/-- An event is taken into the queue; only the carried copy of a notice may be new beside it. -/
theorem post_evr (s : State) (k : EventKind) (x : Subject) (c : Option Cause) (v : Option Int) :
    (s.post k x c v).evr =
      { s.evr.take k x c v with notice := (s.post k x c v).evr.notice } := by
  simp only [State.post, State.changing, State.noteChange, State.notify]
  split <;> rfl

/-- Of the ring interface an event changes at most the REPORT queue. -/
theorem post_rif (s : State) (k : EventKind) (x : Subject) (c : Option Cause) (v : Option Int) :
    (s.post k x c v).rif = { s.rif with reportQ := (s.post k x c v).rif.reportQ } := by
  simp only [State.post, State.changing, State.noteChange, State.notify]
  split <;> rfl

/-- A notice changes of the event queue's block at most the carried copy. -/
theorem notify_evr (s : State) (due : Bool) :
    (s.notify due).evr = { s.evr with notice := (s.notify due).evr.notice } := by
  simp only [State.notify]; split <;> rfl

/-- Of the ring interface a notice changes at most the REPORT queue. -/
theorem notify_rif (s : State) (due : Bool) :
    (s.notify due).rif = { s.rif with reportQ := (s.notify due).rif.reportQ } := by
  simp only [State.notify]; split <;> rfl

theorem changing_evr (s : State) (g : State → State) :
    (s.changing g).evr = { (g s).evr with notice := (s.changing g).evr.notice } :=
  notify_evr (g s) _

theorem changing_rif (s : State) (g : State → State) :
    (s.changing g).rif = { (g s).rif with reportQ := (s.changing g).rif.reportQ } :=
  notify_rif (g s) _

end Sys2Proof.Machine
end

