-- ==== Sys2Proof/Laws/Ops.lean ====
section
/-!
SUPPORT. What each shared operation over queues, events, timers and record memory can do, said once.
-/

namespace Sys2Proof.Machine
open Sys2Proof

/-! ### Checks in order -/

/-- No check of a list fails exactly when every check holds. -/
theorem firstFailing_none_iff (l : List (Bool × Status)) :
    firstFailing l = none ↔ ∀ x ∈ l, x.1 = true := by
  induction l with
  | nil => simp [firstFailing]
  | cons x rest ih => cases h : x.1 <;> simp [firstFailing, h, ih]

/-- The refusal is that of a check that fails, all checks before it holding. -/
theorem firstFailing_some (l : List (Bool × Status)) (st : Status) (h : firstFailing l = some st) :
    ∃ pre post, l = pre ++ (false, st) :: post ∧ ∀ x ∈ pre, x.1 = true := by
  induction l with
  | nil => simp [firstFailing] at h
  | cons x rest ih =>
    obtain ⟨b, st'⟩ := x
    cases b
    · simp [firstFailing] at h
      exact ⟨[], rest, by simp [h], by simp⟩
    · simp [firstFailing] at h
      obtain ⟨pre, post, rfl, hp⟩ := ih h
      exact ⟨(true, st') :: pre, post, by simp, by simpa using hp⟩

/-! ### Timers -/

theorem tickTimer_none : tickTimer none = none := rfl
theorem tickTimer_some (n : Nat) : tickTimer (some n) = some (n - 1) := rfl

/-- A running timer neither starts nor stops at a tick. -/
theorem tickTimer_isSome (t : Option Nat) : (tickTimer t).isSome = t.isSome := by
  cases t <;> rfl

/-! ### The ORDER queue, R207 -/

/-- In a strap fault a handed order changes nothing. -/
theorem putOrder_strap (r : Rif) (p : OrderPlace) (fr : Frame) (h : r.strapFault = true) :
    r.putOrder p fr = r := by
  cases r; simp_all [Rif.putOrder]

/-- An order whose place is taken replaces that order and takes its turn. -/
theorem putOrder_replaces (r : Rif) (p : OrderPlace) (fr : Frame) (h : r.strapFault = false)
    (hs : r.orderQ.any (·.place == p) = true) :
    r.putOrder p fr = { r with orderQ := r.orderQ.map fun x =>
      if x.place == p then { place := p, frame := fr } else x } := by
  simp [Rif.putOrder, h, hs]

/-- An order whose place is free takes a new turn while fewer than 16 stand. -/
theorem putOrder_appends (r : Rif) (p : OrderPlace) (fr : Frame) (h : r.strapFault = false)
    (hs : r.orderQ.any (·.place == p) = false) (hl : r.orderQ.length < 16) :
    r.putOrder p fr = { r with orderQ := r.orderQ ++ [{ place := p, frame := fr }] } := by
  simp [Rif.putOrder, h, hs, hl]

/-- An order handed while 16 others stand is discarded and counted. -/
theorem putOrder_discards (r : Rif) (p : OrderPlace) (fr : Frame) (h : r.strapFault = false)
    (hs : r.orderQ.any (·.place == p) = false) (hl : 16 ≤ r.orderQ.length) :
    r.putOrder p fr = { r with orderDiscard := satInc 65535 r.orderDiscard } := by
  have : ¬ r.orderQ.length < 16 := by omega
  simp [Rif.putOrder, h, hs, hl, this]

theorem map_place_replace (q : List OrderEntry) (p : OrderPlace) (fr : Frame) :
    (q.map fun x => if x.place == p then ({ place := p, frame := fr } : OrderEntry) else x).map
      OrderEntry.place = q.map OrderEntry.place := by
  induction q with
  | nil => rfl
  | cons x rest ih =>
    simp only [List.map_cons, ih]
    by_cases h : x.place = p <;> simp [h]

/-- The form of the ORDER queue is kept by a handed order. -/
theorem putOrder_ok (r : Rif) (p : OrderPlace) (fr : Frame) (h : OrderQueueOk r) :
    OrderQueueOk (r.putOrder p fr) := by
  cases hf : r.strapFault with
  | true => rwa [putOrder_strap r p fr hf]
  | false =>
    cases hs : r.orderQ.any (·.place == p) with
    | true =>
      rw [putOrder_replaces r p fr hf hs]
      exact ⟨by simpa only [map_place_replace] using h.1, by simpa using h.2⟩
    | false =>
      by_cases hl : r.orderQ.length < 16
      · rw [putOrder_appends r p fr hf hs hl]
        refine ⟨?_, by simp; omega⟩
        simp only [List.map_append, List.map_cons, List.map_nil]
        rw [List.nodup_append]
        refine ⟨h.1, by simp, ?_⟩
        intro a ha b hb
        simp at hb
        subst hb
        rintro rfl
        simp only [List.mem_map] at ha
        obtain ⟨x, hx, rfl⟩ := ha
        have := List.any_eq_false.1 hs x hx
        simp at this
      · rw [putOrder_discards r p fr hf hs (by omega)]
        exact h

/-- A handed order changes only the ORDER queue and the discard count. -/
theorem putOrder_rest (r : Rif) (p : OrderPlace) (fr : Frame) :
    r.putOrder p fr = { r with orderQ := (r.putOrder p fr).orderQ,
                               orderDiscard := (r.putOrder p fr).orderDiscard } := rfl

/-! ### The LINK queue, R208 -/

theorem map_slot_replace (q : List LinkEntry) (n : Slot) (fr : Frame) :
    (q.map fun x => if x.slot == n then ({ slot := n, frame := fr } : LinkEntry) else x).map
      LinkEntry.slot = q.map LinkEntry.slot := by
  induction q with
  | nil => rfl
  | cons x rest ih =>
    simp only [List.map_cons, ih]
    by_cases h : x.slot = n <;> simp [h]

/-- The form of the LINK queue is kept by a handed frame. -/
theorem putLink_ok (r : Rif) (n : Slot) (fr : Frame) (h : LinkQueueOk r) :
    LinkQueueOk (r.putLink n fr) := by
  unfold LinkQueueOk Rif.putLink
  by_cases hf : r.strapFault = true
  · simp only [hf, if_true]; exact h
  · by_cases hs : r.linkQ.any (·.slot == n) = true
    · simp only [hf, hs, if_true, if_false, map_slot_replace, Bool.false_eq_true]
      exact h
    · simp only [hf, hs, if_false, Bool.false_eq_true, List.map_append, List.map_cons, List.map_nil]
      rw [List.nodup_append]
      refine ⟨h, by simp, ?_⟩
      intro a ha b hb
      simp at hb
      subst hb
      rintro rfl
      simp only [List.mem_map] at ha
      obtain ⟨x, hx, rfl⟩ := ha
      exact hs (List.any_eq_true.2 ⟨x, hx, by simp⟩)

/-! ### The REPORT queue, R175 and R209 -/

theorem filter_notice_replace (q : List ReportEntry) (fr : Frame) :
    ((q.map fun x => if x.isNotice then ({ isNotice := true, frame := fr } : ReportEntry) else x).filter
      ReportEntry.isNotice).length = (q.filter ReportEntry.isNotice).length := by
  induction q with
  | nil => rfl
  | cons x rest ih => by_cases h : x.isNotice = true <;> simp [h, ih]

theorem filter_others_replace (q : List ReportEntry) (fr : Frame) :
    ((q.map fun x => if x.isNotice then ({ isNotice := true, frame := fr } : ReportEntry) else x).filter
      fun x => !x.isNotice).length = (q.filter fun x => !x.isNotice).length := by
  induction q with
  | nil => rfl
  | cons x rest ih => by_cases h : x.isNotice = true <;> simp [h, ih]

/-- A queue without a notice holds other frames only, and a notice then finds a place (R209). -/
theorem others_of_no_notice (q : List ReportEntry) (h : ¬q.any (·.isNotice) = true) :
    (q.filter fun x => !x.isNotice) = q := by
  rw [List.filter_eq_self]
  intro x hx
  have := List.any_eq_false.1 (by simpa using h) x hx
  simpa using this

/-- The form of the REPORT queue is kept by a notice. -/
theorem putNotice_ok (r : Rif) (fr : Frame) (h : ReportQueueOk r) : ReportQueueOk (r.putNotice fr) := by
  unfold ReportQueueOk Rif.putNotice
  by_cases hs : r.reportQ.any (·.isNotice) = true
  · simp only [hs, if_true, List.length_map, filter_notice_replace, filter_others_replace]
    exact h
  · by_cases hl : r.reportQ.length + r.held < 8
    · simp only [hs, if_false, hl, if_true, Bool.false_eq_true]
      refine ⟨by simp; omega, ?_⟩
      have : r.reportQ.filter ReportEntry.isNotice = [] := by
        rw [List.filter_eq_nil_iff]
        intro x hx
        exact List.any_eq_false.1 (by simpa using hs) x hx
      refine ⟨by simp [List.filter_append, this], ?_⟩
      have := h.2.2
      simpa [List.filter_append] using this
    · simp only [hs, hl, if_false, Bool.false_eq_true]
      exact h

/-- A response that takes a held place keeps the form of the REPORT queue. -/
theorem putResponse_ok (r : Rif) (fr : Frame) (h : ReportQueueOk r) (hh : 0 < r.held) :
    ReportQueueOk (r.putResponse fr) := by
  unfold ReportQueueOk Rif.putResponse at *
  by_cases hf : r.strapFault = true
  · simp only [hf, if_true]; omega
  · simp only [hf, if_false, Bool.false_eq_true, List.length_append, List.filter_append]
    simp; omega

/-! ### Events, R169 and R170 -/

/-- The sequence numbers stay consecutive when an event is taken. -/
theorem take_ok (e : Evr) (k : EventKind) (x : Subject) (c : Option Cause) (v : Option Int)
    (h : EventQueueOk e) : EventQueueOk (e.take k x c v) := by
  obtain ⟨hl, hn, hs⟩ := h
  refine ⟨?_, ?_, ?_⟩
  · simp only [Evr.take]; split <;> simp <;> omega
  · simp only [Evr.take]; omega
  · intro i hi
    simp only [Evr.take] at hi ⊢
    by_cases hlen : e.events.length < 128
    · simp only [hlen, if_true] at hi ⊢
      simp at hi
      by_cases hlt : i < e.events.length
      · rw [List.getElem_append_left hlt]
        have := hs i hlt
        simp; omega
      · have : i = e.events.length := by omega
        subst this
        simp
    · simp only [hlen, if_false] at hi ⊢
      simp at hi
      by_cases hlt : i < e.events.length - 1
      · rw [List.getElem_append_left (by simpa using hlt)]
        have := hs (1 + i) (by omega)
        simp only [List.getElem_drop, List.length_append, List.length_drop, List.length_cons,
          List.length_nil]
        omega
      · have hi' : i = e.events.length - 1 := by omega
        have : i = (List.drop 1 e.events).length := by simpa using hi'
        subst this
        simp

/-- An acknowledgement keeps the sequence numbers consecutive. -/
theorem drop_ok (e : Evr) (n : Nat) (b : Bool) (h : EventQueueOk e) :
    EventQueueOk { e with events := e.events.drop n, lost := b } := by
  obtain ⟨hl, hn, hs⟩ := h
  refine ⟨by simp; omega, hn, ?_⟩
  intro i hi
  simp only [List.length_drop] at hi
  have := hs (n + i) (by omega)
  simp only [List.getElem_drop, List.length_drop]
  rw [show e.events.length - n - i = e.events.length - (n + i) by omega]
  exact this

/-! ### Record memory, R189 -/

/-- An address below every listed one reads as unlisted. -/
theorem memRead_below (m : RecordMemory) (a lo : Nat) (h : memWfFrom lo m = true) (ha : a < lo) :
    memRead m a = unlistedWord := by
  induction m generalizing lo with
  | nil => rfl
  | cons x rest ih =>
    obtain ⟨b, v⟩ := x
    simp only [memWfFrom, Bool.and_eq_true, decide_eq_true_eq] at h
    simp only [memRead]
    rw [if_neg (by omega)]
    exact ih (b + 1) h.2 (by omega)

/-- A written word reads back. -/
theorem memRead_write_self (m : RecordMemory) (a : Nat) (w : Word) (lo : Nat)
    (h : memWfFrom lo m = true) : memRead (memWrite m a w) a = w := by
  induction m generalizing lo with
  | nil => by_cases hw : w = unlistedWord <;> simp [memWrite, memRead, hw]
  | cons x rest ih =>
    obtain ⟨b, v⟩ := x
    simp only [memWfFrom, Bool.and_eq_true, decide_eq_true_eq] at h
    simp only [memWrite]
    split
    · rename_i hab
      split
      · rename_i hw
        subst hw
        have h2 := memRead_below rest a (b + 1) h.2 (by omega)
        simp only [memRead]
        rw [if_neg (by omega)]
        exact h2
      · simp [memRead]
    · split
      · rename_i hab
        subst hab
        split
        · rename_i hw
          subst hw
          exact memRead_below rest a (a + 1) h.2 (by omega)
        · simp [memRead]
      · rename_i h1 h2
        simp only [memRead]
        rw [if_neg (by omega)]
        exact ih (b + 1) h.2

/-- A write leaves every other word as it reads. -/
theorem memRead_write_ne (m : RecordMemory) (a b : Nat) (w : Word) (hne : b ≠ a) :
    memRead (memWrite m a w) b = memRead m b := by
  induction m with
  | nil => by_cases hw : w = unlistedWord <;> simp [memWrite, memRead, hw, Ne.symm hne]
  | cons x rest ih =>
    obtain ⟨c, v⟩ := x
    simp only [memWrite]
    split
    · split
      · rfl
      · simp [memRead, Ne.symm hne]
    · split
      · rename_i h
        subst h
        split <;> simp [memRead, Ne.symm hne]
      · simp only [memRead, ih]

theorem memWfFrom_mono (m : RecordMemory) (l l' : Nat) (h : memWfFrom l m = true) (hl : l' ≤ l) :
    memWfFrom l' m = true := by
  cases m with
  | nil => rfl
  | cons x rest =>
    simp only [memWfFrom, Bool.and_eq_true, decide_eq_true_eq] at h ⊢
    exact ⟨⟨⟨by omega, h.1.1.2⟩, h.1.2⟩, h.2⟩

theorem memWfFrom_write (m : RecordMemory) (a lo : Nat) (w : Word) (h : memWfFrom lo m = true)
    (ha : a < 32768) (hl : lo ≤ a) : memWfFrom lo (memWrite m a w) = true := by
  induction m generalizing lo with
  | nil =>
    by_cases hw : w = unlistedWord
    · simp [memWrite, memWfFrom, hw]
    · simp [memWrite, memWfFrom, hw, ha, hl]
  | cons x rest ih =>
    obtain ⟨b, v⟩ := x
    have h' := h
    simp only [memWfFrom, Bool.and_eq_true, decide_eq_true_eq] at h'
    simp only [memWrite]
    split
    · split
      · exact h
      · rename_i hab hw
        simp only [memWfFrom, Bool.and_eq_true, decide_eq_true_eq]
        exact ⟨⟨⟨hl, ha⟩, hw⟩, ⟨⟨by omega, h'.1.1.2⟩, h'.1.2⟩, h'.2⟩
    · split
      · rename_i hab
        subst hab
        split
        · exact memWfFrom_mono rest (a + 1) lo h'.2 (by omega)
        · rename_i hw
          simp only [memWfFrom, Bool.and_eq_true, decide_eq_true_eq]
          exact ⟨⟨⟨hl, ha⟩, hw⟩, h'.2⟩
      · rename_i h1 h2
        simp only [memWfFrom, Bool.and_eq_true, decide_eq_true_eq]
        exact ⟨h'.1, ih (b + 1) h'.2 (by omega)⟩

/-- Storing a word keeps the canonical form. -/
theorem memStore_wf (m : RecordMemory) (a : Nat) (w : Word) (h : memWf m = true) :
    memWf (memStore m a w) = true := by
  unfold memStore
  split
  · exact memWfFrom_write m a 0 w h (by assumption) (by omega)
  · exact h

/-- What is read at an address after a store. -/
theorem memRead_store (m : RecordMemory) (a b : Nat) (w : Word) (h : memWf m = true) (ha : a < 32768) :
    memRead (memStore m a w) b = if b = a then w else memRead m b := by
  unfold memStore
  rw [if_pos ha]
  split
  · subst b; exact memRead_write_self m a w 0 h
  · exact memRead_write_ne m a b w (by assumption)

theorem foldl_memStore_wf (l : List (Nat × Word)) (m : RecordMemory) (h : memWf m = true) :
    memWf (l.foldl (fun m x => memStore m x.1 x.2) m) = true := by
  induction l generalizing m with
  | nil => exact h
  | cons x rest ih => exact ih _ (memStore_wf m x.1 x.2 h)

/-- The reset memory has the canonical form. -/
theorem memWf_reset : memWf State.reset.drc.mem = true := rfl

/-! ### The recorder, R189 to R194 -/

/-- The write buffer and record memory in their form, whatever the recorder's state. -/
def WritesOk (d : Drc) : Prop := memWf d.mem = true ∧ d.writeBuf.length ≤ 16

theorem buffer_ok (d : Drc) (a : Nat) (w : Word) (h : WritesOk d) :
    WritesOk (d.buffer a w) ∧ (d.buffer a w).state = d.state ∧ (d.buffer a w).missed = d.missed := by
  unfold Drc.buffer
  obtain ⟨hm, hb⟩ := h
  split
  · rename_i x rest hx
    rw [hx] at hb ⊢
    split
    · exact ⟨⟨memStore_wf _ _ _ hm, by simp at hb ⊢; omega⟩, rfl, rfl⟩
    · exact ⟨⟨hm, by simp at *; omega⟩, rfl, rfl⟩
  · exact ⟨⟨hm, by simp⟩, rfl, rfl⟩

theorem placeAt_ok (d : Drc) (c : List ChainDesc) (n : Nat) (w : Word) (h : WritesOk d) :
    WritesOk (d.placeAt c n w) ∧ (d.placeAt c n w).state = d.state ∧
      (d.placeAt c n w).missed = d.missed := by
  unfold Drc.placeAt
  split
  · exact buffer_ok d _ w h
  · exact ⟨h, rfl, rfl⟩

theorem placeFrom_ok (l : List Word) (d : Drc) (c : List ChainDesc) (n : Nat) (h : WritesOk d) :
    WritesOk (d.placeFrom c n l) ∧ (d.placeFrom c n l).state = d.state ∧
      (d.placeFrom c n l).missed = d.missed := by
  induction l generalizing d n with
  | nil => exact ⟨h, rfl, rfl⟩
  | cons w rest ih =>
    obtain ⟨h1, h2, h3⟩ := placeAt_ok d c n w h
    obtain ⟨i1, i2, i3⟩ := ih (d.placeAt c n w) (n + 1) h1
    exact ⟨i1, i2.trans h2, i3.trans h3⟩

theorem flush_ok (d : Drc) (h : WritesOk d) : WritesOk d.flush :=
  ⟨foldl_memStore_wf _ _ h.1, by simp [Drc.flush]⟩

theorem drain_ok (d : Drc) (c : List ChainDesc) (r : RecordInProgress) (reason : EndReason)
    (h : WritesOk d) : RecorderOk (d.drain c r reason) := by
  obtain ⟨h1, -, -⟩ := placeFrom_ok [BitVec.ofNat 32 r.preCount, BitVec.ofNat 32 r.placed,
    reasonWord (some reason) r.retriggers] d c 5 h
  exact ⟨h1.1, h1.2, by simp [Drc.drain]⟩

theorem recorderOk_of (d : Drc) (h : WritesOk d) (hs : ∀ b, d.state ≠ .armed b) : RecorderOk d :=
  ⟨h.1, h.2, fun b hb => absurd hb (hs b)⟩

theorem RecorderOk.writes {d : Drc} (h : RecorderOk d) : WritesOk d := ⟨h.1, h.2.1⟩

theorem startCapture_ok (d : Drc) (t : Tables) (now : Nat) (c : Cause) (x : Subject)
    (b : List (List Int)) (h : WritesOk d) : RecorderOk (d.startCapture t now c x b) := by
  unfold Drc.startCapture
  exact recorderOk_of _ (placeFrom_ok _ d _ 0 h).1 (by simp)

theorem endIfFull_ok (d : Drc) (t : Tables) (h : RecorderOk d) : RecorderOk (d.endIfFull t) := by
  unfold Drc.endIfFull
  split
  · split
    · exact drain_ok _ _ _ _ h.writes
    · exact h
  · exact h

/-- A trigger keeps the recorder's form in every state. -/
theorem trigger_ok (d : Drc) (t : Tables) (now : Nat) (c : Cause) (x : Subject) (h : RecorderOk d) :
    RecorderOk (d.trigger t now c x) := by
  unfold Drc.trigger
  split
  · exact endIfFull_ok _ _ (startCapture_ok d t now c x _ h.writes)
  · exact recorderOk_of _ h.writes (by simp)
  · exact ⟨h.1, h.2.1, h.2.2⟩

/-- A tick keeps the recorder's form. -/
theorem drcTick_ok (d : Drc) (t : Tables) (set : List Int) (h : RecorderOk d) :
    RecorderOk (d.tick t set) := by
  unfold Drc.tick
  split
  · rename_i buffer hs
    refine ⟨h.1, h.2.1, ?_⟩
    rintro b hb
    have := h.2.2 buffer hs
    simp only [RecorderState.armed.injEq] at hb
    subst hb
    split <;> simp <;> omega
  · simp only
    split
    · exact drain_ok _ _ _ _ (placeFrom_ok _ _ _ _ (flush_ok d h.writes)).1
    · exact recorderOk_of _ (placeFrom_ok _ _ _ _ (flush_ok d h.writes)).1 (by simp)
  · exact h

/-! ### Responses, R212 -/

theorem responseData_fits {data : List Byte} (h : data.length ≤ 117) : responseData data = data := if_pos h

theorem responseData_length (data : List Byte) : (responseData data).length ≤ 117 := by
  unfold responseData
  split
  · assumption
  · exact List.length_take_le _ _

/-- The payload of a RESPONSE keeps the limit of R212. -/
theorem responseFrame_length (s : State) (r : Request) (st : Status) (data : List Byte) :
    (s.responseFrame r st data).payload.length ≤ 120 := by
  have := responseData_length data
  simp [State.responseFrame, makeFrame, be16]
  omega

end Sys2Proof.Machine
end

