-- ==== Sys2Proof/Laws/Calm.lean ====
section
/-!
SUPPORT. What the blocks behind a delivery, a report or a timer never touch, for every operation they share: the
settings, the mapper, the link states, the counts of ticks, the agent, the last reports of the nodes and their
supervision, θ and its marks; and the forms of Safety.lean that each of them keeps.
-/

namespace Sys2Proof.Machine
open Sys2Proof

/-- t comes from s by the work of the blocks alone. -/
structure Calm (s t : State) : Prop where
  phase : t.phase = s.phase
  pending : t.pending = s.pending
  clock : t.clock = s.clock
  tables : t.tables = s.tables
  smp : t.smp = s.smp
  mga : t.mga = s.mga
  link : t.sco.link = s.sco.link
  rif : t.rif = { s.rif with orderQ := t.rif.orderQ, reportQ := t.rif.reportQ,
                             orderDiscard := t.rif.orderDiscard }
  ms : t.evr.ms = s.evr.ms
  status : ∀ f : Feeder, t.fct[f].status = s.fct[f].status ∧
    t.fct[f].supervised = s.fct[f].supervised ∧ t.fct[f].supTimer = s.fct[f].supTimer
  theta : ∀ f : Feeder, t.fpu[f].theta = s.fpu[f].theta ∧
    t.fpu[f].alarmMark = s.fpu[f].alarmMark ∧ t.fpu[f].tripMark = s.fpu[f].tripMark
  node : t.rcu.status = s.rcu.status ∧ t.rcu.supervised = s.rcu.supervised ∧
    t.rcu.supTimer = s.rcu.supTimer ∧ t.rcu.adoption = s.rcu.adoption
  events : EventQueueOk s.evr → EventQueueOk t.evr
  orders : OrderQueueOk s.rif → OrderQueueOk t.rif
  reports : ReportQueueOk s.rif → ReportQueueOk t.rif
  recorder : RecorderOk s.drc → RecorderOk t.drc
  handshakes : (∀ f : Feeder, HandshakeOk s.sco.sect[f].hs) → ∀ f : Feeder, HandshakeOk t.sco.sect[f].hs
  phaseBack : PhaseBackOk s.rcu → PhaseBackOk t.rcu

theorem Calm.refl (s : State) : Calm s s where
  phase := rfl
  pending := rfl
  clock := rfl
  tables := rfl
  smp := rfl
  mga := rfl
  link := rfl
  rif := rfl
  ms := rfl
  status := fun _ => ⟨rfl, rfl, rfl⟩
  theta := fun _ => ⟨rfl, rfl, rfl⟩
  node := ⟨rfl, rfl, rfl, rfl⟩
  events := id
  orders := id
  reports := id
  recorder := id
  handshakes := id
  phaseBack := id

theorem Calm.trans {s t u : State} (h : Calm s t) (k : Calm t u) : Calm s u where
  phase := k.phase.trans h.phase
  pending := k.pending.trans h.pending
  clock := k.clock.trans h.clock
  tables := k.tables.trans h.tables
  smp := k.smp.trans h.smp
  mga := k.mga.trans h.mga
  link := k.link.trans h.link
  rif := by rw [k.rif, h.rif]
  ms := k.ms.trans h.ms
  status := fun f => ⟨(k.status f).1.trans (h.status f).1, (k.status f).2.1.trans (h.status f).2.1,
    (k.status f).2.2.trans (h.status f).2.2⟩
  theta := fun f => ⟨(k.theta f).1.trans (h.theta f).1, (k.theta f).2.1.trans (h.theta f).2.1,
    (k.theta f).2.2.trans (h.theta f).2.2⟩
  node := ⟨k.node.1.trans h.node.1, k.node.2.1.trans h.node.2.1, k.node.2.2.1.trans h.node.2.2.1,
    k.node.2.2.2.trans h.node.2.2.2⟩
  events := fun x => k.events (h.events x)
  orders := fun x => k.orders (h.orders x)
  reports := fun x => k.reports (h.reports x)
  recorder := fun x => k.recorder (h.recorder x)
  handshakes := fun x => k.handshakes (h.handshakes x)
  phaseBack := fun x => k.phaseBack (h.phaseBack x)

theorem Calm.after {s t u : State} (k : Calm t u) (h : Calm s t) : Calm s u := h.trans k

theorem Calm.ite {s t u : State} {p : Prop} [Decidable p] (h : p → Calm s t) (k : ¬p → Calm s u) :
    Calm s (if p then t else u) := by
  split
  · exact h (by assumption)
  · exact k (by assumption)

theorem calm_foldl {α : Type} (l : List α) (g : State → α → State) (h : ∀ s x, Calm s (g s x))
    (s : State) : Calm s (l.foldl g s) := by
  induction l generalizing s with
  | nil => exact Calm.refl s
  | cons x rest ih => exact Calm.after (ih (g s x)) (h s x)

/-! ### Notices, events, orders -/

theorem calm_notify (s : State) (due : Bool) : Calm s (s.notify due) :=
  { Calm.refl s with
    rif := by rw [notify_rif]
    ms := by rw [notify_evr]
    events := by rw [notify_evr]; exact id
    orders := by rw [notify_rif]; exact id
    reports := by
      simp only [State.notify]
      split
      · exact putNotice_ok _ _
      · exact id }

theorem calm_noteChange (s : State) (old : Summary) : Calm s (s.noteChange old) := calm_notify s _

/-- An update that is calm is calm with the change of the summary it brings. -/
theorem calm_changing {s : State} {g : State → State} (h : Calm s (g s)) : Calm s (s.changing g) :=
  h.trans (calm_noteChange (g s) _)

theorem calm_post (s : State) (k : EventKind) (x : Subject) (c : Option Cause) (v : Option Int) :
    Calm s (s.post k x c v) :=
  calm_changing { Calm.refl s with events := take_ok s.evr k x c v }

theorem calm_postSection (s : State) (f : Feeder) (k : EventKind) (c : Option Cause) :
    Calm s (s.postSection f k c) := calm_post s k _ c _

/-- A change of the ring interface that hands one order. -/
theorem calm_putOrder (s : State) (p : OrderPlace) (fr : Frame) :
    Calm s { s with rif := s.rif.putOrder p fr } :=
  { Calm.refl s with
    rif := rfl
    orders := (putOrder_ok s.rif p fr)
    reports := id }

theorem calm_sendOrder (s : State) (f : Feeder) (o : BreakerOrder) : Calm s (s.sendOrder f o) := by
  unfold State.sendOrder
  split
  · exact calm_putOrder s _ _
  · exact Calm.refl s

theorem calm_sendGate (s : State) : Calm s s.sendGate := by
  unfold State.sendGate
  split
  · split
    · exact Calm.refl s
    · exact calm_putOrder s _ _
  · exact Calm.refl s

/-! ### One element of a table -/

/-- An update of a controller that leaves its last status and its supervision. -/
theorem calm_modFct (s : State) (f : Feeder) (g : Fct → Fct)
    (h : ∀ c, (g c).status = c.status ∧ (g c).supervised = c.supervised ∧ (g c).supTimer = c.supTimer) :
    Calm s (s.modFct f g) :=
  { Calm.refl s with
    status := by
      intro k
      by_cases hk : f = k
      · subst hk; rw [modFct_self]; exact h _
      · rw [modFct_ne s f k g hk]; exact ⟨rfl, rfl, rfl⟩ }

theorem calm_modFpu (s : State) (f : Feeder) (g : Fpu → Fpu)
    (h : ∀ c, (g c).theta = c.theta ∧ (g c).alarmMark = c.alarmMark ∧ (g c).tripMark = c.tripMark) :
    Calm s (s.modFpu f g) :=
  { Calm.refl s with
    theta := by
      intro k
      by_cases hk : f = k
      · subst hk; rw [modFpu_self]; exact h _
      · rw [modFpu_ne s f k g hk]; exact ⟨rfl, rfl, rfl⟩ }

/-- An update of a section that keeps the form of its handshake. -/
theorem calm_modSect (s : State) (f : Feeder) (g : Section → Section)
    (h : HandshakeOk s.sco.sect[f].hs → HandshakeOk (g s.sco.sect[f]).hs) : Calm s (s.modSect f g) :=
  { Calm.refl s with
    handshakes := by
      intro hs k
      by_cases hk : f = k
      · subst hk; rw [modSect_self]; exact h (hs _)
      · rw [modSect_ne s f k g hk]; exact hs k }

theorem calm_modHs (s : State) (f : Feeder) (g : Handshake → Handshake)
    (h : HandshakeOk s.sco.sect[f].hs → HandshakeOk (g s.sco.sect[f].hs)) : Calm s (s.modHs f g) :=
  calm_modSect s f _ h

theorem calm_setFar (s : State) (f : Feeder) (e : Option SectionEntry) : Calm s (s.setFar f e) :=
  calm_modSect s f _ id

theorem calm_setTestSlot (s : State) (k : TestSlot) (ph : TestPhase) : Calm s (s.setTestSlot k ph) :=
  { Calm.refl s with }

theorem calm_setQueue (s : State) (q : List Feeder) : Calm s (s.setQueue q) := { Calm.refl s with }

theorem calm_dequeue (s : State) (f : Feeder) : Calm s (s.dequeue f) := calm_setQueue s _

theorem calm_stl (s : State) (x : Stl) : Calm s { s with stl := x } := { Calm.refl s with }

/-- An update of the rectifier controller that leaves its node's reports and its PHASE_BACK form. -/
theorem calm_rcu (s : State) (r : Rcu) (h : r.status = s.rcu.status ∧ r.supervised = s.rcu.supervised ∧
    r.supTimer = s.rcu.supTimer ∧ r.adoption = s.rcu.adoption)
    (hp : PhaseBackOk s.rcu → PhaseBackOk r) : Calm s { s with rcu := r } :=
  { Calm.refl s with node := h, phaseBack := hp }

theorem calm_drc (s : State) (d : Drc) (h : RecorderOk s.drc → RecorderOk d) :
    Calm s { s with drc := d } :=
  { Calm.refl s with recorder := h }

/-! ### Recorder and trip context -/

theorem calm_trigger (s : State) (c : Cause) (x : Subject) : Calm s (s.trigger c x) := by
  unfold State.trigger
  split
  · exact Calm.trans (calm_changing (calm_drc s _ fun h => startCapture_ok _ _ _ _ _ _ h.writes))
      (calm_changing (calm_drc _ _ (endIfFull_ok _ _)))
  · exact calm_changing (calm_drc s _ (trigger_ok _ _ _ _ _))

theorem calm_tripNotice (s : State) (f : Feeder) (c : Cause) (r : Option OperateReport) :
    Calm s (s.tripNotice f c r) :=
  calm_changing (calm_modFpu s f _ fun _ => ⟨rfl, rfl, rfl⟩)

theorem calm_emptyContext (s : State) (f : Feeder) : Calm s (s.emptyContext f) :=
  calm_changing (calm_modFpu s f _ fun _ => ⟨rfl, rfl, rfl⟩)

theorem calm_fpuDeliver (s : State) (f : Feeder) (v : Int) (k : Nat) (d : Bool) :
    Calm s (s.fpuDeliver f v k d) := by
  unfold State.fpuDeliver
  simp only
  split
  · refine Calm.trans ?_ (calm_modFct _ f _ fun _ => ⟨rfl, rfl, rfl⟩)
    exact
      { Calm.refl s with
        theta := by
          intro h
          by_cases hk : f = h
          · subst hk; rw [modFpu_self]; exact ⟨rfl, rfl, rfl⟩
          · rw [modFpu_ne s f h _ hk]; exact ⟨rfl, rfl, rfl⟩ }
  · exact Calm.refl s

theorem calm_fpuLoss (s : State) (f : Feeder) : Calm s (s.fpuLoss f) := by
  unfold State.fpuLoss
  split
  · exact calm_modFpu s f _ fun _ => ⟨rfl, rfl, rfl⟩
  · exact Calm.refl s

/-! ### The controller's content -/

theorem calm_fctSet (s : State) (f : Feeder) (g : Fct → Fct)
    (h : ∀ c, (g c).status = c.status ∧ (g c).supervised = c.supervised ∧ (g c).supTimer = c.supTimer) :
    Calm s (s.fctSet f g) := calm_changing (calm_modFct s f g h)

theorem calm_fctEnter (s : State) (f : Feeder) (st : FeederState) (t : Option Nat) :
    Calm s (s.fctEnter f st t) := calm_fctSet s f _ fun _ => ⟨rfl, rfl, rfl⟩

theorem calm_fctOut (s : State) (f : Feeder) : Calm s (s.fctOut f) :=
  calm_fctSet s f _ fun _ => ⟨rfl, rfl, rfl⟩

theorem calm_lockOut (s : State) (f : Feeder) (c : Cause) : Calm s (s.lockOut f c) :=
  Calm.after (calm_post _ _ _ _ _) (calm_fctSet s f _ fun _ => ⟨rfl, rfl, rfl⟩)

/-! ### The rectifier -/

/-- An entry to any state but PHASE_BACK. -/
theorem calm_rectEnter (s : State) (st : RectState) (c : Option Cause) (t : Option Nat)
    (h : st ≠ .phaseBack) : Calm s (s.rectEnter st c t) := by
  refine Calm.after (calm_sendGate _) (Calm.after (calm_post _ _ _ _ _) (calm_changing ?_))
  exact calm_rcu s _ ⟨rfl, rfl, rfl, rfl⟩ fun _ hs => absurd hs h

/-- An entry to PHASE_BACK with the set not empty. -/
theorem calm_enterPhaseBack (s : State) (t : Option Nat) (h : pbEmpty s.rcu.pbSet = false) :
    Calm s (s.rectEnter .phaseBack none t) := by
  refine Calm.after (calm_sendGate _) (Calm.after (calm_post _ _ _ _ _) (calm_changing ?_))
  exact calm_rcu s _ ⟨rfl, rfl, rfl, rfl⟩ fun _ _ => h

theorem calm_rectBlock (s : State) (c : Cause) : Calm s (s.rectBlock c) :=
  calm_rectEnter s _ _ _ (by decide)

theorem calm_toPhaseBack (s : State) : Calm s s.toPhaseBack := by
  unfold State.toPhaseBack
  split
  · exact calm_enterPhaseBack s _ (by rename_i h; exact h.2)
  · exact Calm.refl s

theorem calm_toRegulating (s : State) : Calm s s.toRegulating :=
  Calm.after (calm_toPhaseBack _) (calm_rectEnter s _ _ _ (by decide))

theorem calm_startRegulating (s : State) : Calm s s.startRegulating :=
  Calm.after (calm_toRegulating _) (calm_rcu s _ ⟨rfl, rfl, rfl, rfl⟩ id)

theorem pbEmpty_iff (set : Vector Bool 10) : pbEmpty set = false ↔ ∃ i, ∃ h : i < 10, set[i] = true := by
  simp only [pbEmpty, Bool.not_eq_false', List.any_eq_true, id]
  constructor
  · rintro ⟨x, hx, rfl⟩
    obtain ⟨i, hi, he⟩ := List.getElem_of_mem hx
    exact ⟨i, by simpa using hi, by simpa using he⟩
  · rintro ⟨i, h, hx⟩
    exact ⟨_, List.getElem_mem (by simpa using h), by simpa using hx⟩

theorem pbEmpty_set (set : Vector Bool 10) (f : Feeder) : pbEmpty (set.set f true) = false :=
  (pbEmpty_iff _).2 ⟨f.val, f.isLt, by simp⟩

theorem calm_phaseBackRequest (s : State) (f : Feeder) : Calm s (s.phaseBackRequest f) :=
  Calm.after (calm_toPhaseBack _) (calm_rcu s _ ⟨rfl, rfl, rfl, rfl⟩ fun _ _ => pbEmpty_set _ f)

/-- The rectifier after an entry to a state, but for the orders, events and notices it brings. -/
theorem rectEnter_rcu (s : State) (st : RectState) (c : Option Cause) (t : Option Nat) :
    (s.rectEnter st c t).rcu = s.rcu.enter st c t := rfl

/-- A chain of updates that begins with a rectifier whose PHASE_BACK form is open and ends with one in form. -/
theorem calm_reopen {s u : State} {r : Rcu} (hr : r.status = s.rcu.status ∧
    r.supervised = s.rcu.supervised ∧ r.supTimer = s.rcu.supTimer ∧ r.adoption = s.rcu.adoption)
    (h : Calm { s with rcu := r } u) (hp : PhaseBackOk u.rcu) : Calm s u where
  phase := h.phase
  pending := h.pending
  clock := h.clock
  tables := h.tables
  smp := h.smp
  mga := h.mga
  link := h.link
  rif := h.rif
  ms := h.ms
  status := h.status
  theta := h.theta
  node := ⟨h.node.1.trans hr.1, h.node.2.1.trans hr.2.1, h.node.2.2.1.trans hr.2.2.1,
    h.node.2.2.2.trans hr.2.2.2⟩
  events := h.events
  orders := h.orders
  reports := h.reports
  recorder := h.recorder
  handshakes := h.handshakes
  phaseBack := fun _ => hp

theorem toRegulating_form (s : State) : PhaseBackOk s.toRegulating.rcu := by
  unfold State.toRegulating State.toPhaseBack
  split
  · rename_i h
    intro _
    exact h.2
  · intro h
    exact absurd h (by rw [rectEnter_rcu]; simp [Rcu.enter])

theorem calm_phaseBackWithdraw (s : State) (f : Feeder) : Calm s (s.phaseBackWithdraw f) := by
  unfold State.phaseBackWithdraw
  simp only
  split
  · exact calm_reopen (r := { s.rcu with pbSet := s.rcu.pbSet.set f false }) ⟨rfl, rfl, rfl, rfl⟩
      (calm_toRegulating _) (toRegulating_form _)
  · rename_i h
    refine calm_rcu s _ ⟨rfl, rfl, rfl, rfl⟩ fun _ hs => ?_
    cases he : pbEmpty (s.rcu.pbSet.set f false) with
    | false => rfl
    | true => exact absurd ⟨hs, he⟩ h

theorem calm_stationBlock (s : State) : Calm s s.stationBlock := by
  unfold State.stationBlock
  simp only
  split
  · refine calm_reopen (r := { s.rcu with pbSet := Vector.replicate 10 false }) ⟨rfl, rfl, rfl, rfl⟩
      (calm_rectBlock _ _) ?_
    intro h
    exact absurd h (by unfold State.rectBlock; rw [rectEnter_rcu]; simp [Rcu.enter])
  · rename_i h
    refine calm_rcu s _ ⟨rfl, rfl, rfl, rfl⟩ fun _ hs => ?_
    exact absurd (show Rcu.active _ = true by simp [Rcu.active, show s.rcu.state = .phaseBack from hs]) h

theorem calm_rectStop (s : State) : Calm s s.rectStop.1 := by
  unfold State.rectStop
  split <;> first | exact calm_rectEnter s _ _ _ (by decide) | exact Calm.refl s

theorem calm_rectStarts (s : State) : Calm s s.rectStarts :=
  Calm.after (calm_rectEnter _ _ _ _ (by decide)) (calm_rcu s _ ⟨rfl, rfl, rfl, rfl⟩ id)

theorem calm_overcurrent (s : State) (v : Int) (d : Bool) : Calm s (s.overcurrent v d) := by
  unfold State.overcurrent
  split
  · dsimp only
    exact Calm.ite
      (fun _ => Calm.after (calm_rectBlock _ _) (calm_rcu s _ ⟨rfl, rfl, rfl, rfl⟩ id))
      (fun _ => calm_rcu s _ ⟨rfl, rfl, rfl, rfl⟩ id)
  · exact Calm.refl s

theorem calm_overcurrentLoss (s : State) : Calm s s.overcurrentLoss :=
  calm_rcu s _ ⟨rfl, rfl, rfl, rfl⟩ id

theorem calm_regulate (s : State) : Calm s s.regulate := by
  unfold State.regulate
  simp only
  split
  · exact calm_rcu s _ ⟨rfl, rfl, rfl, rfl⟩ id
  · split
    · split
      · exact calm_rcu s _ ⟨rfl, rfl, rfl, rfl⟩ id
      · exact Calm.after (calm_post _ _ _ _ _) (calm_rcu s _ ⟨rfl, rfl, rfl, rfl⟩ id)
    · exact calm_rcu s _ ⟨rfl, rfl, rfl, rfl⟩ id

theorem calm_controlTick (s : State) : Calm s s.controlTick := by
  unfold State.controlTick
  split <;> first
    | exact Calm.after (calm_sendGate _) (calm_regulate s)
    | exact calm_sendGate s
    | exact Calm.refl s

/-! ### The end of a test -/

theorem calm_toOpening (s : State) (f : Feeder) (c : Cause) (b : Bool) : Calm s (s.toOpening f c b) :=
  calm_fctSet s f _ fun _ => ⟨rfl, rfl, rfl⟩

theorem calm_openWithoutTrip (s : State) (f : Feeder) (c : Cause) : Calm s (s.openWithoutTrip f c) :=
  Calm.after (calm_toOpening _ _ _ _) (calm_sendOrder s f _)

theorem calm_blindOnEntry (s : State) (f : Feeder) : Calm s (s.blindOnEntry f) := by
  unfold State.blindOnEntry
  split
  · exact calm_openWithoutTrip s f _
  · exact Calm.refl s

theorem calm_toClosing (s : State) (f : Feeder) : Calm s (s.toClosing f) :=
  Calm.after (calm_blindOnEntry _ _) (Calm.after (calm_fctEnter _ _ _ _) (calm_sendOrder s f _))

theorem calm_toDeadTime (s : State) (f : Feeder) (n : Nat) (c : Option Cause) :
    Calm s (s.toDeadTime f n c) :=
  Calm.after (calm_post _ _ _ _ _) (calm_fctSet s f _ fun _ => ⟨rfl, rfl, rfl⟩)

theorem calm_takeOutcome (s : State) (f : Feeder) (o : TestOutcome) : Calm s (s.takeOutcome f o) := by
  unfold State.takeOutcome
  simp only
  split
  · exact calm_toClosing s f
  · split
    · exact Calm.after (calm_post _ _ _ _ _) (calm_fctEnter s f _ _)
    · split
      · exact calm_toDeadTime s f _ _
      · exact calm_lockOut s f _

theorem calm_outcomeTaken (s : State) (f : Feeder) (o : TestOutcome) : Calm s (s.outcomeTaken f o) :=
  Calm.ite (fun _ => calm_takeOutcome s f o) fun _ => Calm.refl s

/-! ### The line test unit -/

theorem calm_eachSlot (s : State) (g : State → TestSlot → State) (h : ∀ s k, Calm s (g s k)) :
    Calm s (s.eachSlot g) := Calm.after (h _ 1) (h s 0)

theorem calm_handOutcome (s : State) (f : Feeder) (o : TestOutcome) : Calm s (s.handOutcome f o) :=
  Calm.after (calm_post _ _ _ _ _) (calm_modFct s f _ fun _ => ⟨rfl, rfl, rfl⟩)

theorem calm_endTest (s : State) (k : TestSlot) (f : Feeder) (o : TestOutcome) :
    Calm s (s.endTest k f o) := Calm.after (calm_sendOrder _ _ _) (calm_setTestSlot s k _)

theorem calm_grant (s : State) (k : TestSlot) (f : Feeder) : Calm s (s.grant k f) :=
  Calm.after (calm_sendOrder _ _ _) (Calm.after (calm_fctEnter _ _ _ _) (calm_setTestSlot s k _))

theorem calm_examine (n : Nat) (s : State) : Calm s (s.examine n) := by
  induction n generalizing s with
  | zero => exact Calm.refl s
  | succ n ih =>
    unfold State.examine
    split
    · split
      · split
        · exact Calm.after (ih _) (Calm.after (calm_handOutcome _ _ _) (calm_setQueue s _))
        · exact Calm.after (ih _) (Calm.after (calm_grant _ _ _) (calm_setQueue s _))
      · exact Calm.refl s
    · exact Calm.refl s

theorem calm_examineHead (s : State) : Calm s s.examineHead := calm_examine 10 s

theorem calm_examineFor (s : State) (f : Feeder) : Calm s (s.examineFor f) := by
  unfold State.examineFor
  split
  · exact calm_examineHead s
  · exact Calm.refl s

theorem calm_enqueue (s : State) (f : Feeder) : Calm s (s.enqueue f) :=
  Calm.after (calm_examineFor _ _) (calm_setQueue s _)

theorem calm_leavePlace (s : State) (f : Feeder) : Calm s (s.leavePlace f) :=
  Calm.after (calm_modFct _ f _ fun _ => ⟨rfl, rfl, rfl⟩) (Calm.after (calm_eachSlot _
    (fun s k => s.setTestSlot k (s.ltu.slot[k].withdrawn f)) fun s k => calm_setTestSlot s k _) (calm_dequeue s f))

theorem calm_examineAfter (s before : State) (f : Feeder) : Calm s (s.examineAfter before f) :=
  Calm.ite (fun _ => calm_examineHead s) fun _ => Calm.refl s

theorem calm_ltuWithdraw (s : State) (f : Feeder) : Calm s (s.ltuWithdraw f) :=
  Calm.after (calm_examineAfter _ s f) (calm_leavePlace s f)

theorem calm_ltuUnsupervised (s : State) (f : Feeder) : Calm s (s.ltuUnsupervised f) := by
  refine Calm.after (calm_post _ _ _ _ _) ?_
  exact Calm.trans (calm_leavePlace s f) (Calm.ite (fun _ => calm_sendOrder _ f _) fun _ => Calm.refl _)

theorem calm_releaseEnds (s : State) (k : TestSlot) (f : Feeder) (p : Option TestOutcome) :
    Calm s (s.releaseEnds k f p) := by
  unfold State.releaseEnds
  refine Calm.trans ?_ (calm_examineHead _)
  split
  · exact Calm.after (calm_outcomeTaken _ _ _) (Calm.after (calm_post _ _ _ _ _) (calm_setTestSlot s k _))
  · exact calm_setTestSlot s k _

theorem calm_ltuLine (s : State) (f : Feeder) (v : Int) : Calm s (s.ltuLine f v) := by
  refine calm_eachSlot s _ fun s k => ?_
  split
  · split
    · split
      · exact calm_endTest s k f _
      · simp only
        split
        · exact calm_setTestSlot s k _
        · exact calm_endTest s k f _
    · exact Calm.refl s
  · exact Calm.refl s

theorem calm_ltuLoss (s : State) (u : Feeder → Bool) : Calm s (s.ltuLoss u) := by
  refine calm_eachSlot s _ fun s k => ?_
  split
  · split
    · exact calm_endTest s k _ _
    · exact Calm.refl s
  · exact Calm.refl s

theorem calm_ltuContactor (s : State) (b : Vector TestPhase 2) (f : Feeder) (on : Bool) :
    Calm s (s.ltuContactor b f on) := by
  refine calm_eachSlot s _ fun s k => ?_
  split
  · split
    · exact calm_setTestSlot s k _
    · exact Calm.refl s
  · split
    · exact calm_endTest s k f _
    · exact Calm.refl s
  · split
    · exact calm_endTest s k f _
    · exact Calm.refl s
  · split
    · exact calm_releaseEnds s k f _
    · exact Calm.refl s
  · exact Calm.refl s

theorem calm_ltuYield (s : State) (f : Feeder) : Calm s (s.ltuYield f) := by
  unfold State.ltuYield
  split
  · refine calm_eachSlot s _ fun s k => ?_
    split
    · exact Calm.after (calm_post _ _ _ _ _) (Calm.after (calm_enqueue _ _) (Calm.after (calm_fctEnter _ _ _ _) (Calm.after (calm_sendOrder _ _ _) (calm_setTestSlot s k _))))
    · exact Calm.refl s
  · exact Calm.refl s

theorem calm_ltuSection (s : State) (f : Feeder) : Calm s (s.ltuSection f) :=
  Calm.after (calm_examineFor _ f) (calm_ltuYield s f)

/-! ### The section coordinator's own tables -/

theorem calm_reevaluate (s : State) (f : Feeder) : Calm s (s.reevaluate f) := by
  unfold State.reevaluate
  have h : Calm s (s.changing fun s => s.modSect f fun x =>
      { x with coupled := s.coupledNow f, doubleFed := s.doubleFedNow f,
               bank := bankFor (s.doubleFedNow f) }) :=
    calm_changing (calm_modSect s f _ id)
  simp only
  split
  · exact h.trans (calm_post _ _ _ _ _)
  · exact h

theorem inFlight_iff (h : Handshake) : h.inFlight = true ↔ h.ttReq = true ∨ h.pending = true := by
  simp [Handshake.inFlight]

theorem takeAck_ok (h : Handshake) (ack : Bool) (hk : HandshakeOk h) : HandshakeOk (h.takeAck ack) := by
  obtain ⟨a, b, c, d, e, g, i, j⟩ := h
  cases ack <;> cases a <;> cases b <;> cases d <;> cases c <;>
    simp_all [HandshakeOk, Handshake.takeAck, Handshake.inFlight]

/-- A new local request, sent at once or pending, on a section that has none in flight. -/
theorem newRequest_ok (h : Handshake) (req : Bool) (n : Nat) (st : Bool) (hk : HandshakeOk h)
    (hf : h.inFlight = false) :
    HandshakeOk { h with ttReq := req, pending := !req, timer := some n, fromStation := st } := by
  obtain ⟨a, b, c, d, e, g, i, j⟩ := h
  cases a <;> cases b <;> cases d <;> cases req <;> simp_all [HandshakeOk, Handshake.inFlight]

theorem calm_ttRequest (s : State) (f : Feeder) (st : Bool) : Calm s (s.ttRequest f st) := by
  unfold State.ttRequest
  simp only
  split
  · exact Calm.refl s
  · split
    · split
      · exact Calm.after (calm_modFct _ f _ fun _ => ⟨rfl, rfl, rfl⟩) (calm_postSection s f _ _)
      · exact Calm.refl s
    · rename_i hf
      have hfl : s.sco.sect[f].hs.inFlight = false := by simpa using hf
      split
      · refine calm_modHs s f _ fun hk => ?_
        have := newRequest_ok _ false (s.ttTicks f) st hk hfl
        rwa [show s.sco.sect[f].hs.ttReq = false by simp_all [Handshake.inFlight]] at *
      · refine Calm.after (calm_postSection _ _ _ _) (calm_modHs s f _ fun hk => ?_)
        have := newRequest_ok _ true (s.ttTicks f) st hk hfl
        rwa [show s.sco.sect[f].hs.pending = false by simp_all [Handshake.inFlight]]

theorem calm_takeFarAck (s : State) (f : Feeder) (ack : Bool) : Calm s (s.takeFarAck f ack) := by
  unfold State.takeFarAck
  have h : Calm s (s.modHs f fun h => h.takeAck ack) := calm_modHs s f _ (takeAck_ok _ ack)
  simp only
  split
  · exact h.trans (calm_postSection _ _ _ _)
  · exact h

theorem calm_takeStanding (s : State) (f : Feeder) (e : SectionEntry) : Calm s (s.takeStanding f e) := by
  unfold State.takeStanding
  have h : Calm s (s.modHs f fun h =>
      { h with seenReq := e.ttReq, seenAck := e.ttAck,
               ttAck := h.ttAck || e.ttReq && s.sco.sect[f].coupled }) := calm_modHs s f _ id
  simp only
  split
  · exact h.trans (calm_postSection _ _ _ _)
  · exact h

/-! ### The feeder controller -/

theorem calm_enterService (s : State) (f : Feeder) : Calm s (s.enterService f) := calm_fctEnter s f _ _

theorem calm_closedToService (s : State) (f : Feeder) : Calm s (s.closedToService f) :=
  Calm.after (calm_blindOnEntry _ _) (Calm.after (calm_post _ _ _ _ _) (calm_enterService s f))

theorem calm_toTestWait (s : State) (f : Feeder) (b : Bool) (n : Nat) : Calm s (s.toTestWait f b n) :=
  Calm.after (calm_enqueue _ _) (calm_fctSet s f _ fun _ => ⟨rfl, rfl, rfl⟩)

theorem calm_withdrawPending (s : State) (f : Feeder) : Calm s (s.withdrawPending f) := by
  unfold State.withdrawPending
  split
  · exact calm_ltuWithdraw s f
  · exact Calm.after (calm_ltuWithdraw _ _) (calm_sendOrder s f _)
  · exact Calm.refl s

theorem calm_takeDecision (s : State) (f : Feeder) (c : Option Cause) (d : Decision) :
    Calm s (s.takeDecision f c d) := by
  unfold State.takeDecision
  split
  · exact calm_lockOut s f _
  · exact calm_fctOut s f
  · exact calm_fctEnter s f _ _
  · exact calm_toDeadTime s f _ _

theorem calm_dropPhaseBack (s : State) (f : Feeder) : Calm s (s.dropPhaseBack f) := by
  unfold State.dropPhaseBack
  split
  · exact Calm.after (calm_phaseBackWithdraw _ _) (calm_modFct s f _ fun _ => ⟨rfl, rfl, rfl⟩)
  · exact Calm.refl s

theorem calm_openingCompletes (s : State) (f : Feeder) : Calm s (s.openingCompletes f) :=
  Calm.after (calm_takeDecision _ _ _ _) (Calm.after (calm_post _ _ _ _ _) (Calm.after (calm_dropPhaseBack _ _) (calm_modFct s f _ fun _ => ⟨rfl, rfl, rfl⟩)))

theorem calm_tripHands (s : State) (f : Feeder) (c : Cause) (r : Option OperateReport) :
    Calm s (s.tripHands f c r) := by
  unfold State.tripHands
  have h : Calm s (((s.sendOrder f (if s.fct[f].state = .testing then .testOff else .opened)).tripNotice f c
      r).post .feederTrip (.feeder f) (some c) (some (s.tripCurrent f r))) :=
    Calm.after (calm_post _ _ _ _ _) (Calm.after (calm_tripNotice _ _ _ _) (calm_sendOrder s f _))
  simp only
  split
  · exact h.trans (calm_trigger _ _ _)
  · exact h

theorem calm_tripRequests (s : State) (f : Feeder) (r : Option OperateReport) :
    Calm s (s.tripRequests f r) := by
  unfold State.tripRequests
  split
  · exact Calm.refl s
  · rename_i r
    have h : Calm s (if r.phaseBack then
        (s.modFct f fun c => { c with pbRaised := true }).phaseBackRequest f else s) :=
      Calm.ite (fun _ => Calm.after (calm_phaseBackRequest _ _) (calm_modFct s f _ fun _ => ⟨rfl, rfl, rfl⟩))
        fun _ => Calm.refl s
    simp only
    split
    · exact h.trans (calm_ttRequest _ _ _)
    · exact h

theorem calm_trip (s : State) (f : Feeder) (c : Cause) (r : Option OperateReport) :
    Calm s (s.trip f c r) := by
  unfold State.trip
  simp only
  split
  · exact calm_tripHands s f c r
  · have h : Calm s (if s.fct[f].state = .testing then ((s.tripHands f c r).tripRequests f r).ltuWithdraw f
        else (s.tripHands f c r).tripRequests f r) :=
      Calm.after (Calm.ite (fun _ => calm_ltuWithdraw _ _) fun _ => Calm.refl _) (Calm.after (calm_tripRequests _ _ _) (calm_tripHands s f c r))
    split
    · exact Calm.after (calm_openingCompletes _ _) (h.trans (calm_toOpening _ _ _ _))
    · exact h.trans (calm_toOpening _ _ _ _)

theorem calm_takeOperate (s : State) (f : Feeder) (r : OperateReport) : Calm s (s.takeOperate f r) := by
  unfold State.takeOperate
  simp only
  split
  · exact calm_trip s f _ _
  · exact Calm.refl s

theorem calm_takeTransfer (s : State) (f : Feeder) : Calm s (s.takeTransfer f) := by
  unfold State.takeTransfer
  split
  · exact calm_trip s f _ _
  · exact Calm.refl s

theorem calm_stationNotice (s : State) (f : Feeder) : Calm s (s.stationNotice f) := by
  unfold State.stationNotice
  simp only
  split
  · exact calm_trip s f _ _
  · split
    · exact Calm.after (calm_tripNotice _ _ _ _) (calm_modFct s f _ fun _ => ⟨rfl, rfl, rfl⟩)
    · split
      · exact Calm.after (calm_lockOut _ _ _) (calm_withdrawPending s f)
      · split
        · exact calm_sendOrder s f _
        · exact Calm.refl s

theorem calm_stationNotices (s : State) : Calm s s.stationNotices :=
  calm_foldl allFeeders _ (fun s f => Calm.ite (fun _ => calm_stationNotice s f) fun _ => Calm.refl s) s

theorem calm_examineHolds (s : State) (f : Feeder) : Calm s (s.examineHolds f) := by
  unfold State.examineHolds
  split
  · split
    · exact calm_toClosing s f
    · exact calm_toTestWait s f _ _
  · exact Calm.refl s

theorem calm_examineFollow (s : State) (f : Feeder) : Calm s (s.examineFollow f) := by
  unfold State.examineFollow
  split
  · exact calm_toClosing s f
  · exact Calm.refl s

theorem calm_fctSection (s : State) (f : Feeder) : Calm s (s.fctSection f) := by
  unfold State.fctSection
  split
  · exact calm_lockOut s f _
  · exact calm_examineFollow s f

theorem calm_takeTtFail (s : State) (f : Feeder) : Calm s (s.takeTtFail f) := by
  unfold State.takeTtFail
  simp only
  split
  · exact calm_modFct s f _ fun _ => ⟨rfl, rfl, rfl⟩
  · split
    · exact Calm.after (calm_lockOut _ _ _) (calm_withdrawPending s f)
    · exact Calm.refl s

theorem calm_fctLoss (s : State) (f : Feeder) : Calm s (s.fctLoss f) := by
  unfold State.fctLoss
  simp only
  split
  · exact Calm.refl s
  · split
    · exact calm_openWithoutTrip s f _
    · split
      · exact Calm.after (calm_lockOut _ _ _) (calm_withdrawPending s f)
      · exact Calm.refl s

theorem calm_fctPosition (s : State) (f : Feeder) (p : Position) : Calm s (s.fctPosition f p) := by
  unfold State.fctPosition
  split
  · exact Calm.after (calm_blindOnEntry _ _) (Calm.after (calm_enterService _ _) (calm_modFct s f _ fun _ => ⟨rfl, rfl, rfl⟩))
  · exact calm_fctEnter s f _ _
  · exact Calm.after (calm_closedToService _ _) (calm_modFct s f _ fun _ => ⟨rfl, rfl, rfl⟩)
  · exact Calm.after (calm_closedToService _ _) (calm_withdrawPending s f)
  · exact Calm.after (calm_closedToService _ _) (calm_withdrawPending s f)
  · exact calm_closedToService s f
  · exact Calm.after (calm_post _ _ _ _ _) (calm_fctOut s f)
  · exact calm_openingCompletes s f
  · exact calm_closedToService s f
  · exact calm_examineHolds s f
  · exact calm_closedToService s f
  · exact calm_examineFollow s f
  · exact Calm.refl s

theorem calm_feederOpens (s : State) (f : Feeder) : Calm s (s.feederOpens f) := by
  unfold State.feederOpens
  simp only
  split <;> first
    | exact calm_openWithoutTrip s f _
    | exact Calm.after (calm_fctOut _ _) (calm_withdrawPending s f)
    | exact calm_modFct s f _ fun _ => ⟨rfl, rfl, rfl⟩
    | exact Calm.refl s
    | (split
       · exact calm_sendOrder s f _
       · exact Calm.refl s)

/-! ### The section coordinator and the station trip logic -/

theorem calm_clearHandshake (s : State) (f : Feeder) (c : Cause) : Calm s (s.clearHandshake f c) := by
  unfold State.clearHandshake
  have h : Calm s (if s.sco.sect[f].hs.inFlight && !s.sco.sect[f].hs.failed then
      (s.postSection f .ttFail (some c)).takeTtFail f else s) :=
    Calm.ite (fun _ => Calm.after (calm_takeTtFail _ _) (calm_postSection s f _ _)) fun _ => Calm.refl s
  refine h.trans (calm_modHs _ f _ fun _ => ?_)
  simp [HandshakeOk, Handshake.reset]

theorem calm_reportSection (s b : State) (f : Feeder) : Calm s (s.reportSection b f) := by
  unfold State.reportSection
  split
  · exact Calm.after (calm_ltuSection _ _) (calm_fctSection s f)
  · exact Calm.refl s

theorem calm_takeFarReq (s : State) (f : Feeder) (b : Bool) : Calm s (s.takeFarReq f b) := by
  unfold State.takeFarReq
  simp only
  split
  · split
    · exact Calm.refl s
    · split
      · exact Calm.after (Calm.after (calm_trigger _ _ _) (calm_takeTransfer _ _)) (Calm.after (calm_postSection _ _ _ _) (calm_modHs s f _ id))
      · exact calm_modHs s f _ id
  · exact calm_modHs s f _ id

theorem calm_advance (s b : State) (f : Feeder) : Calm s (s.advance b f) := by
  unfold State.advance
  split
  · exact Calm.refl s
  · split
    · exact calm_takeStanding s f _
    · exact Calm.after (calm_takeFarReq _ _ _) (calm_takeFarAck s f _)

theorem calm_clearUnlisted (s b : State) (f : Feeder) : Calm s (s.clearUnlisted b f) := by
  unfold State.clearUnlisted
  split
  · exact calm_clearHandshake s f _
  · exact Calm.refl s

theorem calm_eachOnSlot (s : State) (n : Slot) (g : State → Feeder → State)
    (h : ∀ s f, Calm s (g s f)) : Calm s (s.eachOnSlot n g) :=
  calm_foldl _ g h s

theorem calm_setLockout (s : State) (b : Bool) : Calm s (s.setLockout b) :=
  calm_changing (calm_stl s _)

theorem calm_stationRequests (s : State) : Calm s s.stationRequests :=
  calm_foldl allFeeders _ (fun s f => Calm.ite (fun _ => calm_ttRequest s f _) fun _ => Calm.refl s) s

theorem calm_stationReport (s : State) (c : Cause) (v : Option Int) : Calm s (s.stationReport c v) :=
  Calm.after (calm_trigger _ _ _) (calm_post s _ _ _ _)

theorem calm_stationTrip (s : State) (c : Cause) (v : Int) : Calm s (s.stationTrip c v) :=
  Calm.after (calm_stationReport _ _ _) (Calm.after (calm_stationRequests _) (Calm.after (calm_stationNotices _) (Calm.after (calm_stationBlock _) (calm_setLockout s _))))

theorem calm_emergency (s : State) : Calm s s.emergency :=
  Calm.after (calm_stationReport _ _ _) (Calm.after (calm_stationNotices _) (calm_rectStop s))

theorem calm_leakDeliver (s : State) (v : Int) (k : Nat) (d : Bool) : Calm s (s.leakDeliver v k d) := by
  unfold State.leakDeliver
  dsimp only
  exact Calm.ite (fun _ => Calm.after (calm_stationTrip _ _ _) (calm_stl s _)) (fun _ => calm_stl s _)

theorem calm_leakLoss (s : State) : Calm s s.leakLoss := calm_stl s _

/-! ### Deliveries and losses, R3 -/

theorem calm_deliver (s : State) (p : Point) (v : Int) (k : Nat) (d : Bool) :
    Calm s (s.deliver p v k d) := by
  unfold State.deliver
  split
  · exact Calm.after (calm_examineHolds _ _) (calm_fpuDeliver s _ _ _ _)
  · exact Calm.after (calm_ltuLine _ _ _) (calm_examineFollow s _)
  · exact calm_examineHead s
  · exact calm_overcurrent s _ _
  · exact Calm.refl s
  · exact calm_leakDeliver s _ _ _

theorem calm_lossNotice (s : State) (p : Point) : Calm s (s.lossNotice p) := by
  unfold State.lossNotice
  split
  · exact Calm.after (calm_fctLoss _ _) (calm_fpuLoss s _)
  · exact calm_ltuLoss s _
  · exact calm_ltuLoss s _
  · exact calm_overcurrentLoss s
  · exact Calm.refl s
  · exact calm_leakLoss s

end Sys2Proof.Machine
end

