-- ==== Sys2Proof/Laws/PerInstr.lean ====
section
/-!
SUPPORT. The family NoWord: no word of the opcode table's bits spells the command, since the table gives no row any
bits. One lemma per constructor of Instr.
-/

namespace Sys2Proof.Laws

/-- The statement of the family: no word decodes to the command. -/
def NoWord.Statement (i : Instr) : Prop := ∀ nbits w : Nat, decodeTableWord nbits w ≠ some i

theorem NoWord.powerOn (straps : Byte) :
    NoWord.Statement (.powerOn straps) := fun _ _ => nofun
theorem NoWord.settingsLoadEnd (answer : MemoryAnswer) :
    NoWord.Statement (.settingsLoadEnd answer) := fun _ _ => nofun
theorem NoWord.tick :
    NoWord.Statement (.tick) := fun _ _ => nofun
theorem NoWord.millisecondAdvance :
    NoWord.Statement (.millisecondAdvance) := fun _ _ => nofun
theorem NoWord.pointLoss (p : Point) :
    NoWord.Statement (.pointLoss p) := fun _ _ => nofun
theorem NoWord.controlTick :
    NoWord.Statement (.controlTick) := fun _ _ => nofun
theorem NoWord.thermalPeriodEnd :
    NoWord.Statement (.thermalPeriodEnd) := fun _ _ => nofun
theorem NoWord.neighbourFramePeriod :
    NoWord.Statement (.neighbourFramePeriod) := fun _ _ => nofun
theorem NoWord.ringWindowEnd :
    NoWord.Statement (.ringWindowEnd) := fun _ _ => nofun
theorem NoWord.ringFrameReceived (bytes : List Byte) :
    NoWord.Statement (.ringFrameReceived bytes) := fun _ _ => nofun
theorem NoWord.sampleFrame (fr : RxFrame) :
    NoWord.Statement (.sampleFrame fr) := fun _ _ => nofun
theorem NoWord.timeFrame (fr : RxFrame) :
    NoWord.Statement (.timeFrame fr) := fun _ _ => nofun
theorem NoWord.breakerStatusFrame (fr : RxFrame) :
    NoWord.Statement (.breakerStatusFrame fr) := fun _ _ => nofun
theorem NoWord.rectStatusFrame (fr : RxFrame) :
    NoWord.Statement (.rectStatusFrame fr) := fun _ _ => nofun
theorem NoWord.linkInFrame (fr : RxFrame) :
    NoWord.Statement (.linkInFrame fr) := fun _ _ => nofun
theorem NoWord.requestFrame (fr : RxFrame) :
    NoWord.Statement (.requestFrame fr) := fun _ _ => nofun
theorem NoWord.arbiterTake :
    NoWord.Statement (.arbiterTake) := fun _ _ => nofun
theorem NoWord.frameSendEnd :
    NoWord.Statement (.frameSendEnd) := fun _ _ => nofun
theorem NoWord.operateReport (f : Feeder) (source : ReportSource) :
    NoWord.Statement (.operateReport f source) := fun _ _ => nofun
theorem NoWord.testOutcome (f : Feeder) :
    NoWord.Statement (.testOutcome f) := fun _ _ => nofun
theorem NoWord.ttFailReport (f : Feeder) :
    NoWord.Statement (.ttFailReport f) := fun _ _ => nofun
theorem NoWord.breakerFailNotice (f : Feeder) :
    NoWord.Statement (.breakerFailNotice f) := fun _ _ => nofun
theorem NoWord.breakerSupervisionExpiry (f : Feeder) :
    NoWord.Statement (.breakerSupervisionExpiry f) := fun _ _ => nofun
theorem NoWord.tOpenExpiry (f : Feeder) :
    NoWord.Statement (.tOpenExpiry f) := fun _ _ => nofun
theorem NoWord.tCloseExpiry (f : Feeder) :
    NoWord.Statement (.tCloseExpiry f) := fun _ _ => nofun
theorem NoWord.deadTimeExpiry (f : Feeder) :
    NoWord.Statement (.deadTimeExpiry f) := fun _ _ => nofun
theorem NoWord.reclaimExpiry (f : Feeder) :
    NoWord.Statement (.reclaimExpiry f) := fun _ _ => nofun
theorem NoWord.followTimeout (f : Feeder) :
    NoWord.Statement (.followTimeout f) := fun _ _ => nofun
theorem NoWord.contactorTimerExpiry (k : TestSlot) :
    NoWord.Statement (.contactorTimerExpiry k) := fun _ _ => nofun
theorem NoWord.settleTimerExpiry (k : TestSlot) :
    NoWord.Statement (.settleTimerExpiry k) := fun _ _ => nofun
theorem NoWord.releaseTimerExpiry (k : TestSlot) :
    NoWord.Statement (.releaseTimerExpiry k) := fun _ _ => nofun
theorem NoWord.linkTimerExpiry (n : Slot) :
    NoWord.Statement (.linkTimerExpiry n) := fun _ _ => nofun
theorem NoWord.tTtExpiry (f : Feeder) :
    NoWord.Statement (.tTtExpiry f) := fun _ _ => nofun
theorem NoWord.gateDriverSupervisionExpiry :
    NoWord.Statement (.gateDriverSupervisionExpiry) := fun _ _ => nofun
theorem NoWord.tAcExpiry :
    NoWord.Statement (.tAcExpiry) := fun _ _ => nofun
theorem NoWord.acTimerExpiry :
    NoWord.Statement (.acTimerExpiry) := fun _ _ => nofun
theorem NoWord.tPbExpiry :
    NoWord.Statement (.tPbExpiry) := fun _ _ => nofun
theorem NoWord.storeTimerExpiry :
    NoWord.Statement (.storeTimerExpiry) := fun _ _ => nofun
theorem NoWord.storeConfirm (readBack : Nat) :
    NoWord.Statement (.storeConfirm readBack) := fun _ _ => nofun
theorem NoWord.drainingEnd :
    NoWord.Statement (.drainingEnd) := fun _ _ => nofun
theorem NoWord.stationWrite :
    NoWord.Statement (.stationWrite) := fun _ _ => nofun
theorem NoWord.mapPointWrite :
    NoWord.Statement (.mapPointWrite) := fun _ _ => nofun
theorem NoWord.mapRangeWrite :
    NoWord.Statement (.mapRangeWrite) := fun _ _ => nofun
theorem NoWord.feederWrite :
    NoWord.Statement (.feederWrite) := fun _ _ => nofun
theorem NoWord.bankWrite :
    NoWord.Statement (.bankWrite) := fun _ _ => nofun
theorem NoWord.neighbourWrite :
    NoWord.Statement (.neighbourWrite) := fun _ _ => nofun
theorem NoWord.regulatorWrite :
    NoWord.Statement (.regulatorWrite) := fun _ _ => nofun
theorem NoWord.curveWrite :
    NoWord.Statement (.curveWrite) := fun _ _ => nofun
theorem NoWord.recorderWrite :
    NoWord.Statement (.recorderWrite) := fun _ _ => nofun
theorem NoWord.chainWrite :
    NoWord.Statement (.chainWrite) := fun _ _ => nofun
theorem NoWord.mapperStatusRead :
    NoWord.Statement (.mapperStatusRead) := fun _ _ => nofun
theorem NoWord.ringStatusRead :
    NoWord.Statement (.ringStatusRead) := fun _ _ => nofun
theorem NoWord.readSummary :
    NoWord.Statement (.readSummary) := fun _ _ => nofun
theorem NoWord.readEvents :
    NoWord.Statement (.readEvents) := fun _ _ => nofun
theorem NoWord.readRecord :
    NoWord.Statement (.readRecord) := fun _ _ => nofun
theorem NoWord.feederOpen :
    NoWord.Statement (.feederOpen) := fun _ _ => nofun
theorem NoWord.feederClose :
    NoWord.Statement (.feederClose) := fun _ _ => nofun
theorem NoWord.feederReset :
    NoWord.Statement (.feederReset) := fun _ _ => nofun
theorem NoWord.clearContext :
    NoWord.Statement (.clearContext) := fun _ _ => nofun
theorem NoWord.rectStart :
    NoWord.Statement (.rectStart) := fun _ _ => nofun
theorem NoWord.rectStop :
    NoWord.Statement (.rectStop) := fun _ _ => nofun
theorem NoWord.rectReset :
    NoWord.Statement (.rectReset) := fun _ _ => nofun
theorem NoWord.setSetpoint :
    NoWord.Statement (.setSetpoint) := fun _ _ => nofun
theorem NoWord.stationReset :
    NoWord.Statement (.stationReset) := fun _ _ => nofun
theorem NoWord.emergencyOpen :
    NoWord.Statement (.emergencyOpen) := fun _ _ => nofun
theorem NoWord.setMode :
    NoWord.Statement (.setMode) := fun _ _ => nofun
theorem NoWord.setTime :
    NoWord.Statement (.setTime) := fun _ _ => nofun
theorem NoWord.ackEvents :
    NoWord.Statement (.ackEvents) := fun _ _ => nofun
theorem NoWord.ackNotice :
    NoWord.Statement (.ackNotice) := fun _ _ => nofun
theorem NoWord.recArm :
    NoWord.Statement (.recArm) := fun _ _ => nofun
theorem NoWord.recDisarm :
    NoWord.Statement (.recDisarm) := fun _ _ => nofun
theorem NoWord.recTrigger :
    NoWord.Statement (.recTrigger) := fun _ _ => nofun
theorem NoWord.store :
    NoWord.Statement (.store) := fun _ _ => nofun
theorem NoWord.restart :
    NoWord.Statement (.restart) := fun _ _ => nofun

end Sys2Proof.Laws
end

