-- ==== Sys2Proof/Laws/Reports.lean ====
section
/-!
SUPPORT. How `Reports` travels along the operations that bring events and notices: each lemma takes a state that is
already known but for reports through one more operation.
-/

namespace Sys2Proof.Machine
open Sys2Proof

/-! ### One notice at most -/

theorem oneNotice_refl (u : State) : OneNoticeAtMost u u := Or.inl ⟨rfl, rfl⟩

/-- A change of the summary taken after t keeps t within one notice of u, when t is u but for reporting. -/
theorem oneNotice_noteChange {u t : State} (hs : SameButReports u t) (hm : t.evr.ms = u.evr.ms)
    (h : OneNoticeAtMost u t) (old : Summary) : OneNoticeAtMost u (t.noteChange old) := by
  unfold SameButReports at hs
  have hn : t.rif.node = u.rif.node := by rw [hs]
  have hf : t.rif.strapFault = u.rif.strapFault := by rw [hs]
  have hh : t.rif.held = u.rif.held := by rw [hs]
  have hg : t.tables = u.tables := by rw [hs]
  by_cases hd : (old != t.summary && t.evr.notice.isNone && t.canNotify) = true
  · have hc := hd
    simp only [Bool.and_eq_true, State.canNotify, Option.isNone_iff_eq_none, Bool.not_eq_true'] at hc
    obtain ⟨⟨_, hnone⟩, hgate, hstrap⟩ := hc
    obtain ⟨n, hn'⟩ := Option.isSome_iff_exists.1 hgate
    rcases h with ⟨h1, h2⟩ | ⟨_, _, _, copy, _, _, h3, _⟩
    · refine Or.inr ⟨h1 ▸ hnone, hf ▸ hstrap, n, t.summary, t.evr.nextSeq, hg ▸ hn', ?_, ?_⟩
      · simp [State.noteChange, State.notify, hd]
      · simp only [State.noteChange, State.notify, hd, if_true]
        simp only [State.noticeFrame, noticeTo, Rif.putNotice, h2, hh, hn', hm, hn, Option.getD_some, kindNotice]
    · rw [h3] at hnone
      exact absurd hnone (by simp)
  · have e : t.noteChange old = t := by
      simp only [State.noteChange, State.notify, hd]
      rfl
    rw [e]
    exact h

/-! ### Reports -/

theorem reports_refl (u : State) : Reports u u [] := ⟨rfl, rfl, oneNotice_refl u⟩

/-- The counter is the same before and after reporting. -/
theorem Reports.ms {u t : State} {ps : List (EventKind × Subject × Option Cause × Option Int)}
    (h : Reports u t ps) : t.evr.ms = u.evr.ms := by
  have h2 := h.2.1
  unfold QueueIs at h2
  rw [h2]
  show (ps.foldl _ u.evr).ms = _
  clear h h2
  generalize u.evr = e
  induction ps generalizing e with
  | nil => rfl
  | cons x rest ih => exact (ih _).trans rfl

theorem reports_noteChange {u t : State} {ps : List (EventKind × Subject × Option Cause × Option Int)}
    (h : Reports u t ps) (old : Summary) : Reports u (t.noteChange old) ps := by
  have hm := h.ms
  obtain ⟨h1, h2, h3⟩ := h
  refine ⟨?_, ?_, oneNotice_noteChange h1 hm h3 old⟩
  · unfold SameButReports at h1
    unfold SameButReports State.noteChange State.notify
    rw [h1]
    cases old != _ && _ && _ <;> rfl
  · unfold QueueIs at h2
    unfold QueueIs State.noteChange State.notify
    rw [h2]
    cases old != _ && _ && _ <;> rfl

/-- The event queue of a state is the one its taker leaves, and the rest of reporting stays. -/
theorem reports_post {u t : State} {ps : List (EventKind × Subject × Option Cause × Option Int)}
    (h : Reports u t ps) (k : EventKind) (x : Subject) (c : Option Cause) (v : Option Int) :
    Reports u (t.post k x c v) (ps ++ [(k, x, c, v)]) := by
  obtain ⟨h1, h2, h3⟩ := h
  refine reports_noteChange (t := { t with evr := t.evr.take k x c v }) ⟨?_, ?_, h3⟩ _
  · unfold SameButReports at *
    rw [h1]
  · unfold QueueIs at *
    rw [List.foldl_append]
    rw [h2]
    rfl

/-- An update of the state that neither reads nor writes what reporting touches, nor what a notice depends on. -/
def ReportFree (g : State → State) : Prop :=
  ∀ u : State, (∀ (e : Evr) (q : List ReportEntry),
    g { u with evr := e, rif := { u.rif with reportQ := q } } =
      { g u with evr := e, rif := { (g u).rif with reportQ := q } }) ∧
    (g u).evr = u.evr ∧ (g u).rif.reportQ = u.rif.reportQ ∧ (g u).rif.held = u.rif.held ∧
    (g u).rif.node = u.rif.node ∧ (g u).rif.strapFault = u.rif.strapFault ∧
    (g u).tables.station = u.tables.station

theorem reports_update {u t : State} {ps : List (EventKind × Subject × Option Cause × Option Int)}
    {g : State → State} (hg : ReportFree g) (h : Reports u t ps) : Reports (g u) (g t) ps := by
  obtain ⟨h1, h2, h3⟩ := h
  unfold SameButReports at h1
  unfold QueueIs at h2
  obtain ⟨_, et, eq, _⟩ := hg t
  obtain ⟨ku, eu, equ, ehu, enu, efu, egu⟩ := hg u
  have k := ku t.evr t.rif.reportQ
  rw [← h1] at k
  refine ⟨?_, ?_, ?_⟩
  · unfold SameButReports
    rw [et, k]
  · unfold QueueIs
    rw [et, eu]
    exact h2
  · rcases h3 with ⟨h3, h4⟩ | ⟨h3, h4, n, copy, seq, h5, h6, h7⟩
    · exact Or.inl ⟨by rw [et, eu, h3], by rw [eq, equ, h4]⟩
    · refine Or.inr ⟨by rw [eu, h3], by rw [efu, h4], n, copy, seq, by rw [egu, h5], by rw [et, h6], ?_⟩
      rw [eq, h7]
      simp only [Rif.putNotice, noticeTo, equ, ehu, enu, eu]

theorem reports_changing {u t : State} {ps : List (EventKind × Subject × Option Cause × Option Int)}
    {g : State → State} (hg : ReportFree g) (h : Reports u t ps) : Reports (g u) (t.changing g) ps :=
  reports_noteChange (reports_update hg h) _

theorem reportFree_modFct (f : Feeder) (g : Fct → Fct) : ReportFree fun s => s.modFct f g :=
  fun _ => ⟨fun _ _ => rfl, rfl, rfl, rfl, rfl, rfl, rfl⟩

theorem reportFree_modFpu (f : Feeder) (g : Fpu → Fpu) : ReportFree fun s => s.modFpu f g :=
  fun _ => ⟨fun _ _ => rfl, rfl, rfl, rfl, rfl, rfl, rfl⟩

theorem reportFree_modSect (f : Feeder) (g : Section → Section) : ReportFree fun s => s.modSect f g :=
  fun _ => ⟨fun _ _ => rfl, rfl, rfl, rfl, rfl, rfl, rfl⟩

theorem reportFree_modLink (n : Slot) (g : LinkState → LinkState) : ReportFree fun s => s.modLink n g :=
  fun _ => ⟨fun _ _ => rfl, rfl, rfl, rfl, rfl, rfl, rfl⟩

theorem reportFree_modPoint (p : Point) (g : PointRec → PointRec) : ReportFree fun s => s.modPoint p g :=
  fun _ => ⟨fun _ _ => rfl, rfl, rfl, rfl, rfl, rfl, rfl⟩

theorem reportFree_setTestSlot (k : TestSlot) (ph : TestPhase) : ReportFree fun s => s.setTestSlot k ph :=
  fun _ => ⟨fun _ _ => rfl, rfl, rfl, rfl, rfl, rfl, rfl⟩

theorem reportFree_setQueue (q : List Feeder) : ReportFree fun s => s.setQueue q :=
  fun _ => ⟨fun _ _ => rfl, rfl, rfl, rfl, rfl, rfl, rfl⟩

theorem reportFree_stl (g : Stl → Stl) : ReportFree fun s => { s with stl := g s.stl } :=
  fun _ => ⟨fun _ _ => rfl, rfl, rfl, rfl, rfl, rfl, rfl⟩

theorem reportFree_rcu (g : Rcu → Rcu) : ReportFree fun s => { s with rcu := g s.rcu } :=
  fun _ => ⟨fun _ _ => rfl, rfl, rfl, rfl, rfl, rfl, rfl⟩

theorem reportFree_mga (g : Mga → Mga) : ReportFree fun s => { s with mga := g s.mga } :=
  fun _ => ⟨fun _ _ => rfl, rfl, rfl, rfl, rfl, rfl, rfl⟩

theorem reportFree_sendOrder (f : Feeder) (o : BreakerOrder) : ReportFree fun s => s.sendOrder f o := by
  intro u
  refine ⟨fun _ _ => ?_, rfl, ?_, ?_, ?_, ?_, rfl⟩ <;> simp only [State.sendOrder] <;> cases u.tables.feeder[f].breakerNode <;> rfl

theorem reportFree_sendGate : ReportFree State.sendGate := by
  intro u
  refine ⟨fun _ _ => ?_, rfl, ?_, ?_, ?_, ?_, rfl⟩ <;> simp only [State.sendGate] <;>
    cases u.tables.regulator.gateNode <;> first | rfl | (cases u.rcu.adoption <;> rfl)

theorem reports_fctSet {u t : State} {ps : List (EventKind × Subject × Option Cause × Option Int)}
    (h : Reports u t ps) (f : Feeder) (g : Fct → Fct) : Reports (u.modFct f g) (t.fctSet f g) ps :=
  reports_changing (reportFree_modFct f g) h

theorem reports_sendOrder {u t : State} {ps : List (EventKind × Subject × Option Cause × Option Int)}
    (h : Reports u t ps) (f : Feeder) (o : BreakerOrder) : Reports (u.sendOrder f o) (t.sendOrder f o) ps :=
  reports_update (reportFree_sendOrder f o) h

/-- What is the same before and after reporting. -/
theorem Reports.same {u t : State} {ps : List (EventKind × Subject × Option Cause × Option Int)}
    (h : Reports u t ps) : t.phase = u.phase ∧ t.pending = u.pending ∧ t.clock = u.clock ∧
      t.tables = u.tables ∧ t.smp = u.smp ∧ t.fpu = u.fpu ∧ t.fct = u.fct ∧ t.ltu = u.ltu ∧
      t.sco = u.sco ∧ t.rcu = u.rcu ∧ t.stl = u.stl ∧ t.drc = u.drc ∧ t.mga = u.mga := by
  have h1 := h.1
  unfold SameButReports at h1
  rw [h1]
  exact ⟨rfl, rfl, rfl, rfl, rfl, rfl, rfl, rfl, rfl, rfl, rfl, rfl, rfl⟩

/-- What a trigger leaves in the recorder, whatever notices its changes of the summary bring. -/
@[simp] theorem trigger_drc (s : State) (c : Cause) (x : Subject) :
    (s.trigger c x).drc = s.drc.trigger s.tables s.evr.ms c x := by
  unfold State.trigger
  split
  · rename_i h
    simp [State.changing, Drc.trigger, h]
  · simp [State.changing]

end Sys2Proof.Machine
end

