-- ==== Sys2Proof/Tests/Slice0.lean ====
section
/-!
SUPPORT. Tests of the model: ill-formed commands, the worked examples of spec/ (each named by its section), layouts of
R212, and for every statement with hypotheses a state and operands that meet them.
-/

namespace Sys2Proof.Machine
open Sys2Proof

-- One declaration after the other: the kernel evaluates the tests, and many at once run out of threads.
set_option Elab.async false

/-! ### WellFormed refuses an ill-formed term for each check -/

theorem test_wf_read_kind_as_ring_bytes :
    wellFormed (.ringFrameReceived [5, 20, 3, 0, 0, 0]) = false := by decide

theorem test_wf_unread_kind_and_short_bytes :
    wellFormed (.ringFrameReceived [5, 20, 4, 0, 0, 0]) = true ∧
      wellFormed (.ringFrameReceived [5, 20, 3, 0, 0]) = true := by decide

/-- A load of the image `t`. -/
def loadOf (t : Tables) : Instr := .settingsLoadEnd (.image t 0)

theorem test_wf_image_points : wellFormed (loadOf { defaultTables with
    recorder := { defaultRecorder with points := List.replicate 256 0 } }) = false := by decide +kernel

theorem test_wf_image_chain : wellFormed (loadOf { defaultTables with
    chain := List.replicate 256 { start := 0, length := 1, last := false } }) = false := by decide +kernel

theorem test_wf_image_nodes :
    wellFormed (loadOf { defaultTables with station := { defaultStation with panel := some 256 } }) = false ∧
    wellFormed (loadOf { defaultTables with station := { defaultStation with gateway := some 256 } }) = false ∧
    wellFormed (loadOf { defaultTables with
      regulator := { defaultRegulator with gateNode := some 256 } }) = false := by decide +kernel

theorem test_wf_image_curve : wellFormed (loadOf { defaultTables with
    curve := Vector.replicate 65 65536 }) = false := by decide +kernel

theorem test_wf_good_image : wellFormed (loadOf defaultTables) = true := by decide +kernel

/-! ### Layouts of R212 -/

/-- The check value of the digits 1 to 9 that the generator and preset of R212 are known by. -/
theorem test_check_of_digits :
    crc [0x31, 0x32, 0x33, 0x34, 0x35, 0x36, 0x37, 0x38, 0x39] = 0x29B1#16 := by decide +kernel

/-- An entry of section 1000 with feeder closed, test end and test active: bits 0, 2 and 6 (R212, LINK_IN). -/
theorem test_link_entry : linkEntries [0x03, 0xE8, 0x45] =
    [{ secNo := 1000, closed := true, coupled := false, testEnd := true, ttReq := false, ttAck := false,
       lineLive := false, testActive := true }] := by decide

/-- Bit 0 ready, bit 1 local operation, bit 2 test contactor (R212, BREAKER_STATUS). -/
theorem test_breaker_status : breakerStatusOf [2, 6] =
    { position := .travel, ready := false, localOp := true, contactor := true } := by decide

/-- α in bytes 0..3, block in bit 0 and AC demand in bit 1 of byte 4 (R212, GATE). -/
theorem test_gate_payload :
    gatePayload { alpha := 1726, block := false, acClosed := true } = [0x06, 0xBE, 0x06, 0xBE, 2] := by decide

/-! ### Worked conversions, 1.4.1 -/

def workedFeed : Feed := { point := 0, gain := 100, shift := 6, offset := -6 }

theorem test_worked_conversions :
    ([1234, -14, -1234, 31000].map (sampleValue workedFeed · .good)) =
      [some 1938, some (-12), some (-1919), some 48447] ∧
    ([500, -20].map (sampleValue workedFeed · .overrange)) = [some 60000, some (-60000)] ∧
    sampleValue workedFeed 800 .invalid = none ∧
    sampleValue { workedFeed with gain := 200 } 31000 .good = some 60000 := by decide

/-- MAP_RANGE[1] of 1.4.1: accepted, refused RANGE with first point 14, refused ALIGN with node base 20; node 21
feeds point 15. -/
theorem test_worked_range :
    let e : MapRange := { base := 16, size := 8, channel := 0, first := 10, gain := 1, shift := 0, offset := 0 }
    checkMapRange defaultTables 1 (some e) = none ∧
    checkMapRange defaultTables 1 (some { e with first := 14 }) = some .range ∧
    checkMapRange defaultTables 1 (some { e with base := 20 }) = some .align ∧
    (lookup { defaultTables with mapRange := defaultTables.mapRange.set 1 (some e) } (21, 0)).map Feed.point =
      some 15 := by decide +kernel

/-! ### Worked DDL, 2.4.1 and 2.4.2 -/

def workedBank : BankRec :=
  { defaultBank with diStart := 40, diReset := 10, deltaTrip := 2500, tMin := 8, tMax := 160, tReset := 12 }

/-- Feeder 4 in use with the bank of 2.4.1 in use; the last delivery as given. -/
def ddlState (prev : Int) : State :=
  { State.reset with
    phase := .running
    tables := { defaultTables with
      feeder := defaultTables.feeder.set 4 { defaultFeeder with inUse := true }
      bankB := defaultTables.bankB.set 4 workedBank }
    fpu := State.reset.fpu.set 4 { Fpu.reset with ddl := { iPrev := some prev, run := none } } }

/-- Deliveries of feeder 4 one after the other, each a value with its interval. -/
def ddlRun (s : State) (xs : List (Int × Nat)) : State :=
  xs.foldl (fun s x => s.fpuDeliver 4 x.1 x.2 false) s

/-- The distant fault operates at the tenth sample of the run with ΔI 2510 and t 10. -/
theorem test_ddl_distant_fault :
    ((ddlRun (ddlState 815) [(820, 1), (880, 1), (1150, 1), (1420, 1), (1700, 1), (2250, 2), (2520, 1), (2790, 1),
      (3060, 1)]).fpu[4].ddl.run.map fun r => (r.base, r.t, r.low)) = some (820, 9, 0) ∧
    ((ddlRun (ddlState 815) [(820, 1), (880, 1), (1150, 1), (1420, 1), (1700, 1), (2250, 2), (2520, 1), (2790, 1),
      (3060, 1), (3330, 1)]).fct[4].operateIn.map fun r => (r.cause, r.delta, r.t, r.transfer, r.phaseBack)) =
      [(.ddl, some 2510, some 10, true, false)] := by decide +kernel

/-- The tram start returns to QUIET without a report at its thirteenth sample, with the current it then has. -/
theorem test_ddl_tram_start :
    let xs : List (Int × Nat) := (400, 1) :: (List.range 13).map fun i => (460 + 5 * (i : Int), 1)
    (ddlRun (ddlState 400) xs).fpu[4].ddl = { iPrev := some 520, run := none } ∧
      (ddlRun (ddlState 400) xs).fct[4].operateIn = [] ∧
      ((ddlRun (ddlState 400) (xs.take 13)).fpu[4].ddl.run.map fun r => (r.t, r.low)) = some (12, 11) := by
  decide +kernel

/-! ### Worked thermal arithmetic, 2.5.1 -/

/-- Feeder 7 of 2.5.1 with this θ, this sum of squares over 400 deliveries and these marks. -/
def thermalState (theta sum : Nat) (alarm trip : Bool) : State :=
  { State.reset with
    phase := .running
    tables := { defaultTables with feeder := (defaultTables.feeder.set 7 { defaultFeeder with
      inUse := true, iTh := 1000, tauT := 600, thetaAlarm := 9000, thetaTrip := 11000 }) }
    smp := { State.reset.smp with points := (State.reset.smp.points.set 7
      { PointRec.reset with sighted := true, ref := some 0 }) }
    fpu := (State.reset.fpu.set 7 { Fpu.reset with
      sum := sum, count := 400, theta := theta, alarmMark := alarm, tripMark := trip }) }

theorem test_thermal_alarm :
    ((thermalState 8950 1600000000 false false).fpuPeriodEnd 7).fpu[7].theta = 9001 ∧
      ((thermalState 8950 1600000000 false false).fpuPeriodEnd 7).evr.events.map
        (fun e => (e.kind, e.value)) = [(.thermalAlarm, some 9001)] ∧
      ((thermalState 9001 1600000000 true false).fpuPeriodEnd 7).fpu[7].theta = 9052 ∧
      ((thermalState 10960 1600000000 true false).fpuPeriodEnd 7).fct[7].operateIn.map
        (fun r => (r.cause, r.theta)) = [(.thermal, some 11008)] := by decide +kernel

theorem test_thermal_cooling :
    ((thermalState 11008 0 true true).fpuPeriodEnd 7).fpu[7].theta = 10990 ∧
      ((thermalState 11008 0 true true).fpuPeriodEnd 7).fpu[7].tripMark = false ∧
      ((thermalState 500 0 false false).fpuPeriodEnd 7).fpu[7].theta = 499 := by decide +kernel

/-! ### Worked line tests, 4.8.1 -/

theorem test_line_results :
    lineResult defaultFeeder 152000 3040000 = { kind := .fail, rLine := some 131 } ∧
    lineResult defaultFeeder 172400 3040000 = { kind := .pass, rLine := some 150 } ∧
    lineResult defaultFeeder 172000 3040000 = { kind := .fail, rLine := some 149 } ∧
    lineResult defaultFeeder 100 100 = { kind := .live, rLine := none } := by decide +kernel

/-! ### Worked regulator case, 6.3.1 -/

/-- The rectifier REGULATING with T 40 and last α 1760 on these values of V_bus, I_rect and V_ac. -/
def regulating (vBus iRect vAc : Int) : State :=
  let seen (v : Int) : PointRec := { PointRec.reset with sighted := true, ref := some 0, last := v }
  { State.reset with
    phase := .running
    clock := { State.reset.clock with control := 8 }
    tables := { defaultTables with regulator := { defaultRegulator with gateNode := some 25 } }
    smp := { State.reset.smp with
      points := ((State.reset.smp.points.set 20 (seen vBus)).set 21 (seen iRect)).set 22 (seen vAc) }
    rcu := { Rcu.reset with state := .regulating, adoption := false, trim := 40, lastAlpha := 1760 } }

/-- The state a command leads to. -/
def after (r : Result) (s : State) : State :=
  match r with
  | .next t => t
  | _ => s

theorem test_regulator_case :
    let t := after (exec .controlTick (regulating 7450 1500 3100)) State.reset
    t.rcu.trim = 43 ∧ t.rcu.lastAlpha = 1726 ∧
      t.rcu.working = some { vRef := 7500, e := 50, u := 7993, vD0 := 8370, d := 3911 } ∧
      t.rif.orderQ.map (fun x => x.frame.payload) = [[0x06, 0xBE, 0x06, 0xBE, 2]] := by decide +kernel

theorem test_regulator_limit_and_low_supply :
    (after (exec .controlTick (regulating 7450 4600 3100)) State.reset).rcu.trim = -183 ∧
    (let t := after (exec .controlTick (regulating 7450 1500 1400)) State.reset
     t.rcu.trim = 40 ∧ t.rcu.lastAlpha = 1760 ∧ t.rcu.acLow = true ∧
       t.evr.events.map (fun e => (e.kind, e.value)) = [(.acLow, some 3780)]) := by decide +kernel

/-! ### Worked leakage trip, 7.6 -/

theorem test_leakage_run :
    ([(45, 1), (95, 1), (110, 1), (75, 1), (120, 1), (125, 1), (130, 3), (-135, 1), (140, 1)].foldl
      (fun l (x : Int × Nat) => (leakageStep l (decide (80 ≤ x.1.natAbs)) x.2 8).1) Leakage.normal) =
        .pickup 7 ∧
    leakageStep (.pickup 7) (decide (80 ≤ (150 : Int).natAbs)) 1 8 = (.operated, true) := by decide

/-! ### Worked queue, 8.3.1 -/

/-- The full queue of 8.3.1: sequence numbers 65500 to 91. -/
def fullQueue : Evr :=
  { ms := 0, nextSeq := 92, lost := false, notice := none
    events := (List.range 128).map fun i =>
      { seq := (65500 + i) % 65536, time := 0, kind := .sighted, subject := .station, cause := none
        value := none } }

theorem test_event_overflow :
    let e := fullQueue.take .feederTrip (.feeder 2) (some .imax) (some 9400)
    e.events.length = 128 ∧ (e.events.head?.map EventRec.seq) = some 65501 ∧ e.nextSeq = 93 ∧ e.lost = true ∧
      (e.placeOf 65506) = some 5 ∧ ({ e with events := e.events.drop 6 }.placeOf 65500) = none ∧
      ({ e with events := e.events.drop 6 }.placeOf 92) = some 121 := by decide +kernel

/-! ### Worked chain, 9.9 -/

def workedChain : List ChainDesc :=
  [{ start := 1000, length := 1002, last := false }, { start := 8192, length := 600, last := true }]

theorem test_chain :
    checkChain workedChain true = none ∧ chainCapacity workedChain = 1602 ∧
      chainAddr workedChain 1001 = some 2001 ∧ chainAddr workedChain 1002 = some 8192 ∧
      chainAddr workedChain 1601 = some 8791 ∧ chainAddr workedChain 1602 = none := by decide

/-! ### Small states the statements' hypotheses are met by -/

/-- A frame with its length and check as R212 computes them. -/
def rx (dest src kind : Byte) (payload : List Byte) : RxFrame :=
  { dest := dest, src := src, len := BitVec.ofNat 8 payload.length, payload := payload
    check := frameCheck dest src kind (BitVec.ofNat 8 payload.length) payload }

/-- Panel node 1, control gateway node 9; feeder 0 in use with breaker node 20 and section 7 on slot 0, whose link
node is 30; gate driver node 25; the key (12, 3) feeds point 0. -/
def testTables : Tables :=
  { defaultTables with
    station := { defaultStation with panel := some 1, gateway := some 9 }
    mapPoint := (defaultTables.mapPoint.set 0
      (some { node := 12, channel := 3, point := 0, gain := 100, shift := 6, offset := -6 }))
    feeder := (defaultTables.feeder.set 0
      { defaultFeeder with inUse := true, breakerNode := some 20, secNo := 7, localCoupled := true, testEnd := true })
    neighbour := (defaultTables.neighbour.set 0
      { defaultNeighbour with stationId := 33, linkNode := some 30, channel := 1 })
    regulator := { defaultRegulator with gateNode := some 25 }
    chain := workedChain }

/-- The part at node 5, running on these tables. -/
def base : State :=
  { State.reset with
    phase := .running
    tables := testTables
    rif := { Rif.reset with node := 5 }
    mga := { State.reset.mga with unconfigured := false } }

/-- A request of this source. -/
def req (src op obj index : Nat) (data : List Byte) : Request :=
  { src := src, tag := 7, op := op, obj := obj, index := index, data := data }

/-- s with r at the head of the list and a place held for it. -/
def asked (s : State) (r : Request) : State :=
  { s with mga := { s.mga with requests := [r] }, rif := { s.rif with held := 1 } }

theorem granted {s : State} {r : Request} {op obj : Nat} (h : s.phase = .running ∧
    s.mga.requests.head? = some r ∧ r.op = op ∧ r.obj = obj ∧ s.agentRefusal r = none) : Granted s r op obj :=
  ⟨h.1, h.2.1, h.2.2.1, h.2.2.2.1, h.2.2.2.2⟩

theorem forPart {s : State} {kind : Byte} {fr : RxFrame} (h : s.phase = .running ∧ s.rif.strapFault = false ∧
    frameGood kind fr = true ∧ fr.src.toNat ≠ s.rif.node ∧ (fr.src.toNat ≠ 0 ∧ fr.src.toNat ≠ 255) ∧
    fr.dest.toNat = s.rif.node ∧ payloadFits kind.toNat fr.payload = true) : ForPart s kind fr :=
  ⟨h.1, h.2.1, h.2.2.1, h.2.2.2.1, h.2.2.2.2.1, h.2.2.2.2.2.1, h.2.2.2.2.2.2⟩

/-- Feeder 0's controller as given. -/
def withFct (s : State) (g : Fct → Fct) : State := s.modFct 0 g

/-- These points SIGHTED at these values, with reference 500. -/
def sees (s : State) (xs : List (Point × Int)) : State :=
  xs.foldl (fun s x => s.modPoint x.1 fun p => { p with sighted := true, ref := some 500, last := x.2 }) s

def frame (dest : Nat) : Frame := makeFrame 5 dest 4 [1]

/-- A record whose two recorded sets lead the recorder to HELD. -/
def aRecord : RecordInProgress :=
  { time := 0, cause := .imax, subject := .feeder 0, preCount := 1, placed := 1, remaining := 0, words := 12
    retriggers := 0, reason := some .complete, frozen := [] }

/-! ### Witnesses: queue, power, ring -/

/-- A state that is not the reset state and meets the invariant, with a command that leads on: feeder 0 waits in the
test queue, feeder 1 is in CONTACT, feeder 2 has the outcome of a dead bus waiting, slot 1 is released by feeder 3. -/
def invState : State :=
  { base with
    pending := [.tick]
    evr := { base.evr with nextSeq := 3, events :=
      [{ seq := 1, time := 0, kind := .sighted, subject := .station, cause := none, value := none },
       { seq := 2, time := 0, kind := .blind, subject := .station, cause := none, value := none }] }
    rif := { base.rif with orderQ := [{ place := .breaker 20, frame := frame 20 }, { place := .gate, frame := frame 25 }]
                           held := 1 }
    fct := ((base.fct.set 0 { Fct.reset with state := .testWait }).set 1 { Fct.reset with state := .testing }).set 2
      { Fct.reset with state := .testWait, outcomeIn := [inconclusive] }
    ltu := { queue := [0], slot := #v[.contact 1 5, .release 3 2 none] }
    drc := { base.drc with state := .armed [[1, 2]], mem := [(3, 7), (32767, 1)] } }

theorem test_tests_ok : TestsOk invState where
  queuedOnce := by decide +kernel
  queued := by decide +kernel
  held := by decide +kernel
  released := by
    intro k f n h
    have shown : ∀ k : TestSlot, (match invState.ltu.slot[k] with
      | .release f _ none => decide (invState.fct[f].state ≠ .testing)
      | _ => true) = true := by decide +kernel
    have := shown k
    rw [h] at this
    exact of_decide_eq_true this
  apart := by decide +kernel
  waiting := by decide +kernel
  testing := by decide +kernel
  handed := by decide +kernel
  atMostTwo := by decide +kernel
  atRest := fun h => absurd rfl h

theorem test_invariant_witness : Inv invState ∧ ∃ t, step invState = .next t := by
  refine ⟨{ events := ?_, orders := ?_, links := ?_, reports := ?_, transit := ?_, requests := by decide
            recorder := ⟨by decide, by decide, fun b h => by cases h; decide⟩, handshakes := ?_
            phaseBack := ?_, tests := test_tests_ok }, _, rfl⟩
  · unfold EventQueueOk; decide +kernel
  · unfold OrderQueueOk; decide +kernel
  · unfold LinkQueueOk; decide +kernel
  · unfold ReportQueueOk; decide +kernel
  · unfold TransitOk; decide +kernel
  · unfold HandshakeOk; decide +kernel
  · unfold PhaseBackOk; decide +kernel

theorem test_idle_witness : State.reset.pending = [] ∧ step State.reset = .next State.reset := ⟨rfl, rfl⟩

/-- The part while the image is read. -/
def loading : State := { State.reset with phase := .loading }

theorem test_good_store_witness : loading.phase = .loading ∧
    Config.imageCheck testTables = Config.imageCheck testTables ∧ imageContentOk testTables = true :=
  ⟨rfl, rfl, by decide +kernel⟩

theorem test_bad_store_witness : loading.phase = .loading ∧ MemoryAnswer.silent = .silent ∧
    Config.imageCheck testTables + 1 ≠ Config.imageCheck testTables ∧
    imageContentOk { testTables with station := { defaultStation with lossTime := 201 } } = false :=
  ⟨rfl, rfl, Nat.succ_ne_self _, by decide +kernel⟩

theorem test_time_witness : State.reset.phase = .held ∧ loading.phase = .loading ∧ base.phase = .running ∧ ({ base.clock with ms := 4 } : Clock).ms = 4 ∧
    loading.phase ≠ .held ∧ ({ base.clock with window := 4000 } : Clock).window = 4000 := by decide

/-- A RESTART with both test slots taken and with the recorder IDLE, DRAINING and HELD. -/
theorem test_restart_witness : ∀ st ∈ ([.idle, .draining aRecord, .held 12 .complete] : List RecorderState),
    let s : State := { invState with drc := { base.drc with state := st } }
    Granted (asked s (req 1 3 50 0 [])) (req 1 3 50 0 []) 3 50 ∧
      s.ltu.slot.toList.map slotFeeder = [some 1, some 3] := by
  intro st hst
  refine ⟨granted ?_, by rfl⟩
  revert st
  decide +kernel

/-- DRAINING with two words of the record and the three final header words in the write buffer: RESTART places the
words of the record and leaves the header as the entry placed it (R198). -/
theorem test_restart_from_draining :
    let words : List (Nat × Word) := [(1000, 1), (1001, 2), (1005, 3), (1006, 4), (1007, 5)]
    let s := { base with drc := { base.drc with state := .draining aRecord, writeBuf := words } }
    let t := after (exec .restart (asked s (req 1 3 50 0 []))) s
    t.drc.state = .idle ∧ t.drc.mem = [(1000, 1), (1001, 2)] ∧ t.drc.writeBuf = [] := by decide +kernel

theorem test_bad_frame_witness : base.phase ≠ .held ∧ ([1, 2, 3, 4, 5] : List Byte).length < 6 ∧
    frameOf (.sampleFrame { rx 5 12 1 [0, 1] with check := 0 }) =
      some (1, { rx 5 12 1 [0, 1] with check := 0 }) ∧
    isBad 1 { rx 5 12 1 [0, 1] with check := 0 } ∧ isBad 1 { rx 5 12 1 [0, 1] with payload := [0] } ∧
    isBad 1 { rx 5 12 1 [0, 1] with len := 121 } := by
  unfold isBad
  decide +kernel

/-- The 17th bad frame of a window posts RING_DEGRADED during the load too, and a frame that does not fit is counted there
(R200, R203; log entry 20). -/
theorem test_ring_in_load :
    let s : State := { base with phase := .loading, rif := { base.rif with windowBad := 16 } }
    (after (exec (.sampleFrame { rx 5 12 1 [0, 1] with check := 0 }) s) s).evr.events.map EventRec.kind =
      [.ringDegraded] ∧
    (after (exec (.breakerStatusFrame (rx 5 20 3 [3, 0])) s) s).rif.malformed = 1 ∧
    (after (exec (.requestFrame (rx 5 1 9 [0, 1, 1])) s) s).rif.malformed = 0 := by decide +kernel

/-- A good frame for each row of R201: own, impossible sources, consumed, broadcast, forwarded to 254 and to 0. -/
theorem test_disposition_witness : base.phase ≠ .held ∧ base.rif.strapFault = false ∧
    (∀ fr ∈ [rx 20 5 3 [0, 0], rx 5 0 3 [0, 0], rx 5 255 3 [0, 0], rx 254 20 3 [0, 0], rx 0 20 3 [0, 0],
      rx 255 20 3 [0, 0], rx 5 20 3 [0, 0]],
      frameOf (.breakerStatusFrame fr) = some (3, fr) ∧ ¬isBad 3 fr) ∧
    ({ base.rif with strapFault := true } : Rif).strapFault = true := by
  unfold isBad
  decide +kernel

/-- The bytes of a frame of this kind for node 5. -/
def bytesOf (kind : Byte) : List Byte := frameBytes (makeFrame 20 5 kind.toNat [])

theorem test_unread_witness :
    (∀ kind ∈ ([4, 6, 8, 10, 11, 0, 12, 255] : List Byte),
      ((frameOf (.ringFrameReceived (bytesOf kind))).any fun x =>
        x.1 == kind && frameGood kind x.2 && x.2.src == 20 && x.2.dest == 5) = true) ∧
    payloadFits 1 [0] = false ∧ payloadFits 2 [0, 0, 0] = false ∧ payloadFits 3 [3, 0] = false ∧
    payloadFits 5 [0] = false ∧ payloadFits 7 [4, 0, 1, 0, 0] = false ∧ payloadFits 9 [0, 1, 1, 1] = false ∧
    payloadFits 3 [2, 0] = true ∧ loading.phase ≠ .held ∧
    splitFrame (bytesOf 4) = some (4, rx 5 20 4 []) := by
  decide +kernel

theorem test_broadcast_witness : base.rif.node ≠ 255 ∧
    (∀ x ∈ frameRows (rx 255 20 3 [0, 0]), x.2 = 3 → ¬isBad x.2 (rx 255 20 3 [0, 0])) ∧
    ¬isBad 3 (rx 5 20 3 [0, 0]) ∧ ¬isBad 9 (rx 255 20 9 [0, 1, 1, 16, 0]) ∧
    frameOf (.breakerStatusFrame (rx 255 20 3 [3, 0])) = some (3, rx 255 20 3 [3, 0]) ∧
    ¬isBad 3 (rx 255 20 3 [3, 0]) ∧ payloadFits 3 [3, 0] = false ∧ payloadFits 3 [0, 0] = true ∧
    frameOf (.ringFrameReceived (frameBytes (makeFrame 20 255 12 []))) = some (12, rx 255 20 12 []) ∧
    ¬isBad 12 (rx 255 20 12 []) ∧ loading.phase = .loading := by
  unfold isBad
  decide +kernel

theorem test_arbiter_witness :
    let q : Rif := { base.rif with
      transit := [frame 1], orderQ := [{ place := .gate, frame := frame 2 }]
      linkQ := [{ slot := 0, frame := frame 3 }], reportQ := [{ isNotice := false, frame := frame 4 }] }
    let q1 : Rif := { q with transit := [] }
    let q2 : Rif := { q1 with orderQ := [] }
    let q3 : Rif := { q2 with linkQ := [] }
    q.take.port = some { forwarded := true, frame := frame 1 } ∧
    q1.take.port = some { forwarded := false, frame := frame 2 } ∧
    q2.take.port = some { forwarded := false, frame := frame 3 } ∧
    q3.take.port = some { forwarded := false, frame := frame 4 } := by
  decide +kernel

/-- Fifteen and sixteen orders of breaker nodes 1 upward. -/
def orders (n : Nat) : Rif :=
  { base.rif with orderQ := (List.range n).map fun i => { place := .breaker (i + 1), frame := frame (i + 1) } }

theorem test_orders_witness : OrderQueueOk (orders 15) ∧ OrderQueueOk (orders 16) ∧
    ((orders 16).orderQ[0]?.map OrderEntry.place) = some (.breaker 1) ∧
    (∀ x ∈ (orders 16).orderQ, x.place ≠ .gate) ∧ (orders 15).orderQ.length < 16 ∧
    (orders 16).orderQ.length = 16 ∧ base.tables.feeder[0].breakerNode = some 20 ∧
    base.tables.feeder[9].breakerNode = none := by
  unfold OrderQueueOk
  decide +kernel

/-! ### Witnesses: requests -/

theorem test_request_witness : ForPart base 9 (rx 5 1 9 [0, 7, 1, 16, 0]) ∧
    ForPart { base with rif := { base.rif with held := 6 } } 9 (rx 5 1 9 [0, 7, 1, 16, 0]) ∧
    ForPart { base with rif := { base.rif with held := 7 } } 9 (rx 5 1 9 [0, 7, 1, 16, 0]) :=
  ⟨forPart (by decide +kernel), forPart (by decide +kernel), forPart (by decide +kernel)⟩

/-- A request of a node without a role is refused ACCESS; a head of another kind leaves the row without effect. -/
theorem test_refusal_witness :
    (Instr.feederOpen, 3, [32]) ∈ requestRows ∧ base.phase = .running ∧
    (asked base (req 77 3 32 0 [])).agentRefusal (req 77 3 32 0 []) = some .access ∧
    (req 1 3 33 0 []).obj ∉ [32] := by decide +kernel

theorem test_plain_witness : hasRow (req 1 1 23 0 []) = false ∧ hasRow (req 1 3 36 0 []) = true ∧
    (asked base (req 1 1 23 0 [])).mga.requests.length ≤ 7 := by decide

/-- Plain reads that the agent accepts, at the last index of each object; of CURVE a count of 0, 1, 16 and 17, and a chunk
that ends at entry 64 and one that runs past it. -/
theorem test_plain_accepted_witness :
    (∀ r ∈ [req 9 1 1 0 [], req 9 1 2 31 [], req 9 1 3 3 [], req 9 1 4 9 [], req 9 1 5 9 [], req 9 1 6 9 [],
        req 9 1 7 3 [], req 9 1 8 0 [], req 9 1 10 0 [], req 9 1 11 0 [], req 9 1 17 23 [], req 9 1 18 9 [],
        req 9 1 19 9 [], req 9 1 20 0 [], req 9 1 21 3 [], req 9 1 22 9 [], req 9 1 23 0 [], req 9 1 24 0 [],
        req 9 1 25 0 []], base.agentRefusal r = none ∧ hasRow r = false) ∧
    (∀ x ∈ ([(64, 0, .range), (64, 1, .ok), (49, 16, .ok), (50, 16, .range), (0, 17, .range)] :
        List (Nat × Byte × Status)),
      base.agentRefusal (req 9 1 9 x.1 [x.2.1]) = none ∧ (base.plainRead (req 9 1 9 x.1 [x.2.1])).1 = x.2.2) := by
  decide +kernel

/-- The timer that runs with its rest (R76), `none` as the content of a RELEASE without an outcome and no field in the
other phases (R95), and a presence byte before a field that is present and inside a group (R221). -/
theorem test_status_fields :
    ((withFct base fun x => { x with state := .service, timer := some 1200 }).switchingStatus 0)[10]? =
      some (.maybe (some [3, 3])) ∧
    (slotFields (.release 0 8 none))[4]? = some (.group (some [none, none])) ∧
    (slotFields (.contact 0 8))[4]? = some (.group none) ∧
    (fieldBytes 19 0 (.plain [1])).head? = some 1 ∧ fieldBytes 20 6 (.group (some [none, none])) = [1, 0, 0] := by
  decide +kernel

/-- R212: 117 data bytes are sent as they are, and of 118 no more than 117. -/
theorem test_long_answer : responseData (List.replicate 117 7) = List.replicate 117 7 ∧
    (responseData (List.replicate 118 7)).length ≤ 117 :=
  ⟨by decide +kernel, responseData_length _⟩

/-- R174 and R190: a trigger that leaves no room for a set enters CAPTURING, whose notice is built, and then DRAINING. -/
theorem test_capture_without_room :
    let s : State := { base with
      tables := { base.tables with
        station := { base.tables.station with gateway := some 9 }
        recorder := { base.tables.recorder with points := [20, 21] }
        chain := [{ start := 0, length := 9, last := true }] }
      rif := { base.rif with strapFault := false }
      evr := { base.evr with notice := none }
      drc := { base.drc with state := .armed [] } }
    let t := s.trigger .command .station
    t.drc.state.name = .draining ∧ t.evr.notice.map Summary.recorder = some .capturing := by
  decide +kernel

/-- R182, R192 and R212: while a capture runs the end reason is IN_PROGRESS, code 0, the point list is shown with its
count, and the write buffer with its words. -/
theorem test_recorder_status :
    (recordParts [20, 21] { aRecord with reason := none })[10]? = some (some [0]) ∧
    (recordParts [20, 21] aRecord)[10]? = some (some [1]) ∧
    (recordParts [20, 21] aRecord)[3]? = some (some [2]) ∧ (recordParts [20, 21] aRecord)[4]? = some (some [20, 21]) ∧
    (State.recorderStatus { base with drc := { base.drc with
      state := .capturing aRecord, writeBuf := [(5, 7), (6, 9)] } })[9]? = some (.maybe (some [7, 9])) ∧
    (State.recorderStatus { base with drc := { base.drc with state := .idle } })[9]? = some (.maybe none) := by
  decide +kernel

/-! ### Witnesses: streams and protection -/

theorem test_conversion_witness : ({ workedFeed with point := 0 } : Feed).point < 24 ∧
    ({ workedFeed with point := 23 } : Feed).point < 24 := by decide

/-- Key (12, 3) is mapped to point 0 and (12, 4) is not; with reference 500 the sequences 500, 501, 504 and 505 are
stale, of interval 1 and 4, and marked. -/
theorem test_sample_witness : lookup testTables (12, 4) = none ∧
    (lookup testTables (12, 3)).map Feed.point = some 0 ∧ (sees base [(0, 10)]).smp.points[0].ref = some 500 ∧
    judge (sees base [(0, 10)]).smp.points[0] 500 = .stale ∧
    judge (sees base [(0, 10)]).smp.points[0] 501 = .interval 1 ∧
    judge (sees base [(0, 10)]).smp.points[0] 504 = .interval 4 ∧
    judge (sees base [(0, 10)]).smp.points[0] 505 = .marked ∧
    judge base.smp.points[0] 500 = .marked := by decide +kernel

/-- Key (18, 0) by the range entry of 1.4.1 and, with a point entry beside it, by that one; keys just outside the span;
and points with and without a feed. -/
theorem test_lookup_witness :
    let e : MapRange := { base := 16, size := 8, channel := 0, first := 10, gain := 2, shift := 0, offset := 0 }
    let m : MapPoint := { node := 18, channel := 0, point := 12, gain := 1, shift := 0, offset := 0 }
    let t : Tables := { testTables with mapRange := testTables.mapRange.set 1 (some e) }
    (lookup t (18, 0)).map (fun x => (x.point, x.gain)) = some (12, 2) ∧
    (lookup { t with mapPoint := t.mapPoint.set 31 (some m) } (18, 0)).map (fun x => (x.point, x.gain)) =
      some (12, 1) ∧
    lookup t (15, 0) = none ∧ (lookup t (16, 0)).isSome = true ∧ (lookup t (23, 0)).isSome = true ∧
    lookup t (24, 0) = none ∧ (feedOf t 17).isSome = true ∧ feedOf t 18 = none := by decide +kernel

theorem test_stream_frames_witness : ForPart base 1 (rx 5 12 1 [1, 244, 4, 210, 0]) ∧
    ForPart base 2 (rx 5 9 2 [0, 0, 1, 0]) ∧ ForPart base 2 (rx 5 10 2 [0, 0, 1, 0]) ∧
    base.tables.station.gateway = some 9 :=
  ⟨forPart (by decide +kernel), forPart (by decide +kernel), forPart (by decide +kernel), rfl⟩

/-- Point p SIGHTED with its loss due. -/
def lossDue (p : Point) : State := base.modPoint p fun x => { x with sighted := true, lossDue := true }

theorem test_loss_witness : ∀ p ∈ ([0, 9, 10, 19, 20, 21, 22, 23] : List Point),
    (lossDue p).phase = .running ∧ (lossDue p).smp.points[p].sighted = true ∧
      (lossDue p).smp.points[p].lossDue = true := by decide +kernel

/-- The loss of its current takes a feeder in SERVICE with blind action OPEN to OPENING and a queued one to LOCKOUT (R73);
the loss of the bus voltage ends the tests of both slots (R90). -/
theorem test_loss_actions :
    let s (p : Point) (st : FeederState) : State := withFct { (lossDue p) with tables :=
      { base.tables with feeder := (base.tables.feeder.set 0 { base.tables.feeder[0] with blindOpen := true }) } }
      fun x => { x with state := st }
    let t (p : Point) (st : FeederState) : State := after (exec (.pointLoss p) (s p st)) base
    (t 0 .service).fct[0].openingCause = some .blind ∧ (t 0 .testWait).fct[0].lockCause = some .blind ∧
      (t 0 .unknown).fct[0].state = .unknown ∧
      ((((lossDue 20).setTestSlot 0 (.contact 0 3)).setTestSlot 1 (.settle 1 3)).lossNotice 20).ltu.slot.toList =
        [.release 0 800 (some inconclusive), .release 1 800 (some inconclusive)] := by decide +kernel

/-- Confirm count 2 with a run of 0 and of 1, at I_max and one below it, on the bank in use of feeder 0. -/
theorem test_imax_witness : base.tables.feeder[0].inUse = true ∧ (base.bankInUse 0).imaxEnable = true ∧
    (base.bankInUse 0).iMax = 8000 ∧ (base.bankInUse 0).confirm = 2 ∧
    (base.fpuDeliver 0 8000 1 false).fpu[0].imaxRun = 1 ∧
    ((base.fpuDeliver 0 8000 1 false).fpuDeliver 0 (-8000) 1 false).fct[0].operateIn.length = 1 ∧
    (base.fpuDeliver 0 7999 1 false).fpu[0].imaxRun = 0 := by decide +kernel

/-- Feeder 4 of 2.4.1 in use and at rest with a previous sample, and RUNNING after the delivery of 880 A. -/
theorem test_ddl_witness : (ddlState 820).tables.feeder[4].inUse = true ∧
    (ddlState 820).fpu[4].ddl = { iPrev := some 820, run := none } ∧
    ((ddlState 820).fpuDeliver 4 880 1 false).fpu[4].ddl.run.isSome = true ∧
    State.reset.fpu[4].ddl.iPrev = none := by decide +kernel

theorem test_thermal_witness : (thermalState 8999 0 false false).tables.feeder[7].inUse = true ∧
    (thermalState 8999 0 false false).smp.points[7].sighted = true ∧ base.smp.points[0].sighted = false ∧
    ({ base with clock := { base.clock with thermal := 400 } } : State).phase = .running ∧
    base.phase = .running ∧ base.clock.thermal < 400 := by decide +kernel

/-! ### Witnesses: feeder switching -/

def anOperate (c : Cause) : OperateReport :=
  { cause := c, bank := .b, current := 9400, delta := none, t := none, theta := none, phaseBack := true
    transfer := true }

def statusOf (p : Position) : BreakerStatus :=
  { position := p, ready := true, localOp := false, contactor := false }

theorem test_operate_witness :
    [anOperate .thermal, anOperate .imax].find? (fun x => x.from .delivery) = some (anOperate .imax) ∧
    [anOperate .imax, anOperate .thermal].find? (fun x => x.from .periodEnd) = some (anOperate .thermal) ∧
    lastPosition { Fct.reset with status := some (statusOf .travel) } = some .travel ∧
    lastPosition Fct.reset = none := by decide

/-- The four states that take a transfer trip, with the breaker open and not, and those that discard it. -/
theorem test_transfer_trip_witness :
    (∀ st ∈ ([.unknown, .service, .closing, .testing] : List FeederState),
      ∀ b ∈ ([.opened, .closed, .travel] : List Position),
      let c := (withFct base fun x => { x with state := st, status := some (statusOf b) }).fct[0]
      c.state = st ∧ (lastPosition c = some .opened ↔ b = .opened)) ∧
    (∀ st ∈ ([.out, .testWait, .opening, .deadTime, .follow, .lockout] : List FeederState),
      (withFct base fun x => { x with state := st }).fct[0].state = st) := by decide +kernel

/-- The deliveries of R3: points 0, 10, 20, 21, 22 and 23; an overcurrent run at 0 and at 1 with I_rect at its limit in
the four active states; and feeder 0 with its dead time run out, and in FOLLOW, its line dead and live. -/
theorem test_deliveries_witness :
    (∀ st ∈ ([.starting, .regulating, .phaseBack, .stopping, .off] : List RectState), ∀ n ∈ [0, 1],
      let s : State := { base with rcu := { base.rcu with state := st, ocRun := n } }
      s.rcu.state = st ∧ s.rcu.ocRun = n ∧ (s.tables.station.iRectTrip : Int) ≤ s.tables.station.iRectTrip) ∧
    (∀ st ∈ ([.deadTime, .follow] : List FeederState), ∀ v ∈ ([3999, 4000] : List Int),
      let s := withFct (sees base [(0, 0), (10, v)]) fun x =>
        { x with state := st, supervised := true, status := some (statusOf .opened) }
      s.fct[0].state = st ∧ s.fct[0].timer = none ∧ s.closable 0 = true ∧ s.thermalClear 0 = true ∧
        s.lineLive 0 = decide (v = 4000)) := by decide +kernel

/-- OPENING with each cause the decision knows. -/
theorem test_decision_witness : ∀ c ∈ ([.imax, .ddl, .thermal, .transfer, .station, .command, .blind] : List Cause),
    (withFct base fun x => { x with state := .opening, openingCause := some c }).fct[0].openingCause = some c := by
  decide +kernel

/-- Each kind of outcome for a feeder in test and for one that is not, below its last attempt and at it. -/
theorem test_outcome_witness : ∀ kind ∈ ([.pass, .live, .fail, .inconclusive] : List OutcomeKind),
    ∀ st ∈ ([.testWait, .testing, .out] : List FeederState), ∀ n ∈ [1, 2],
    let s := withFct (sees base [(0, 0)]) fun x =>
      { x with state := st, attempts := n, outcomeIn := [{ kind := kind, rLine := none }] }
    s.phase = .running ∧ s.fct[0].outcomeIn = [{ kind := kind, rLine := none }] ∧ s.fct[0].state = st ∧
      s.smp.points[0].sighted = true ∧ s.fct[0].attempts = n ∧ s.tables.feeder[0].attempts = 2 := by
  decide +kernel

theorem test_tt_fail_witness :
    let s := withFct base fun x => { x with ttFailIn := 1 }
    let h := s.modHs 0 fun x => { x with ttReq := true, timer := some 0 }
    s.phase = .running ∧ 0 < s.fct[0].ttFailIn ∧ base.fct[0].ttFailIn = 0 ∧ h.sco.sect[0].hs.ttReq = true ∧
      h.sco.sect[0].hs.timer = some 0 := by decide +kernel

theorem test_switching_timers_witness : ∀ st ∈ ([.opening, .closing, .service, .follow, .deadTime] : List FeederState),
    let s := withFct base fun x => { x with state := st, timer := some 0 }
    s.phase = .running ∧ s.fct[0].state = st ∧ s.fct[0].timer = some 0 := by decide +kernel

/-- In DEAD_TIME without a status the holds apply; closable with the line dead, and with it live and the far end
closed. -/
theorem test_holds_witness :
    let s := withFct (sees base [(0, 0), (10, 0)]) fun x =>
      { x with state := .deadTime, timer := some 0, supervised := true, status := some (statusOf .opened) }
    let e : SectionEntry := { secNo := 7, closed := true, coupled := true, testEnd := false, ttReq := false
                              ttAck := false, lineLive := true, testActive := false }
    let live := (sees s [(10, 4000)]).modSect 0 fun x => { x with coupled := true, far := some e }
    base.closable 0 = false ∧ s.closable 0 = true ∧ s.thermalClear 0 = true ∧ s.lineLive 0 = false ∧
      live.lineLive 0 = true ∧ live.coupledFarClosed 0 = true := by decide +kernel

/-- Feeder 0 in test with its supervision timer run out: queued, and under test. -/
theorem test_supervision_witness :
    let s := withFct base fun x => { x with state := .testing, supTimer := some 0 }
    s.phase = .running ∧ s.fct[0].supTimer = some 0 ∧ s.fct[0].state ∈ [.testWait, .testing] ∧
      s.fct[0].attempts < s.tables.feeder[0].attempts ∧
      (s.setQueue [0]).ltu.queue.head? = some 0 ∧ (s.setTestSlot 1 (.contact 0 3)).ltu.slot[1].testing = some 0 := by
  decide +kernel

/-- A pending PASS does not close the feeder after its supervision has run out, and its slot stays in RELEASE (R93). -/
theorem test_supervision_drops_outcome :
    let s := withFct ((sees base [(0, 0)]).setTestSlot 0 (.release 0 300 (some { kind := .pass, rLine := some 150 })))
      fun x => { x with state := .testing, supTimer := some 0 }
    let t := after (exec (.breakerSupervisionExpiry 0) s) s
    t.fct[0].state = .deadTime ∧ t.ltu.slot[0] = .release 0 300 none ∧
      t.evr.events.map (fun e => (e.kind, e.cause)) =
        [(.lineTestResult, some .inconclusive), (.recloseStart, some .inconclusive)] := by decide +kernel

theorem test_breaker_status_witness : ForPart base 3 (rx 5 20 3 [0, 1]) ∧ ForPart base 3 (rx 5 20 3 [1, 1]) ∧
    ForPart base 3 (rx 5 20 3 [2, 7]) ∧ ForPart base 3 (rx 5 21 3 [2, 7]) ∧
    (base.tables.feeder[0].inUse = true ∧ base.tables.feeder[0].breakerNode = some 20) ∧
    (∀ g : Feeder, base.tables.feeder[g].inUse = true → base.tables.feeder[g].breakerNode = some 20 → g = 0) ∧
    (0 : Feeder) ∉ base.ltu.queue ∧ (sees base [(0, 0)]).smp.points[0].sighted = true :=
  ⟨forPart (by decide +kernel), forPart (by decide +kernel), forPart (by decide +kernel),
    forPart (by decide +kernel), by decide +kernel, by decide +kernel, by decide, by decide +kernel⟩

/-- Every state of the controller as a report finds it, and the phases that the test contactor field moves. -/
theorem test_report_states_witness :
    (∀ st ∈ ([.unknown, .out, .testWait, .testing, .closing, .service, .opening, .deadTime, .follow, .lockout] :
        List FeederState), (withFct base fun x => { x with state := st }).fct[0].state = st ∧
          (withFct base fun x => { x with state := st }).phase = .running) ∧
    (∀ ph ∈ ([.contact 0 1, .settle 0 1, .window 0 16 0 0 0, .release 0 1 none, .release 0 1 (some inconclusive)] :
        List TestPhase), (base.setTestSlot 0 ph).ltu.slot[0] = ph ∧ slotFeeder ph = some 0) := by decide +kernel

/-- A release that the report itself began is not ended by its test contactor field (log entry 15). -/
theorem test_contactor_own_release :
    let s := withFct (base.setTestSlot 0 (.window 0 16 3 0 0)) fun x => { x with state := .testing }
    (after (exec (.breakerStatusFrame (rx 5 20 3 [1, 1])) s) s).ltu.slot[0] = .release 0 800 none ∧
    (after (exec (.breakerStatusFrame (rx 5 20 3 [0, 1])) s) s).ltu.slot[0] =
      .release 0 800 (some inconclusive) := by decide +kernel

theorem test_feeder_open_witness : Granted (asked base (req 1 3 32 0 [])) (req 1 3 32 0 []) 3 32 ∧
    Granted (asked base (req 1 3 32 9 [])) (req 1 3 32 9 []) 3 32 ∧ base.tables.feeder[9].inUse = false :=
  ⟨granted (by decide +kernel), granted (by decide +kernel), by decide +kernel⟩

theorem test_feeder_commands_witness :
    let s := withFct (sees base [(0, 0)]) fun x =>
      { x with supervised := true, status := some (statusOf .opened) }
    Granted (asked s (req 1 3 33 0 [])) (req 1 3 33 0 []) 3 33 ∧ s.feederCloseRefusal 0 = none ∧
      Granted (asked s (req 1 3 34 0 [])) (req 1 3 34 0 []) 3 34 ∧
      (withFct s fun x => { x with state := .lockout }).feederResetRefusal 0 = none ∧
      Granted (asked s (req 1 3 35 0 [])) (req 1 3 35 0 []) 3 35 :=
  ⟨granted (by decide +kernel), by decide +kernel, granted (by decide +kernel), by decide +kernel,
    granted (by decide +kernel)⟩

/-! ### Witnesses: line testing and coordination -/

/-- Feeder 0 with its far end reported coupled and closed, its slot UP and the far bus live. -/
def linked : State :=
  let e : SectionEntry := { secNo := 7, closed := true, coupled := true, testEnd := false, ttReq := false
                            ttAck := false, lineLive := true, testActive := false }
  (base.modSect 0 fun x => { x with far := some e }).modLink 0 fun _ =>
    { up := true, timer := some 0
      last := some { stationId := 33, rectRunning := true, busLive := true, entries := [e], acceptedAt := 0 } }

/-- The head waits with the bus LOST; it is granted with the bus at V_bus_min, and has its outcome one below it. -/
theorem test_head_witness :
    let s (v : Int) := (sees base [(20, v)]).setQueue [0]
    (base.setQueue [0]).ltu.queue = [0] ∧ (s 4000).smp.points[20].sighted = true ∧
      (s 4000).busDead = false ∧ (s 3999).busDead = true ∧ (s 4000).ltu.slot[0] = .free ∧
      ((s 4000).setTestSlot 0 (.settle 1 3)).ltu.slot[0] ≠ .free ∧
      (s 4000).sco.sect[0].far.any SectionEntry.testActive = false := by decide +kernel

/-- 4.8.2, step 5: a slot becomes FREE while the other tests; its feeder leaves TESTING and the head is granted at once,
the result of the test standing before what the controller posts (4.8.1). -/
theorem test_release_grants :
    let s : State := { (sees invState [(20, 5000)]) with
      fct := (invState.fct.set 2 { Fct.reset with state := .testing, attempts := 1 })
      ltu := { queue := [0], slot := #v[.contact 1 5, .release 2 0 (some { kind := .pass, rLine := some 150 })] } }
    let t := after (exec (.releaseTimerExpiry 1) s) s
    t.fct[2].state = .deadTime ∧ t.fct[2].attempts = 2 ∧ t.fct[0].state = .testing ∧
      t.ltu.slot[1] = .contact 0 800 ∧ (t.evr.events.drop 2).map (fun e => (e.kind, e.cause)) =
        [(.lineTestResult, some .inconclusive), (.recloseStart, some .inconclusive)] := by
  decide +kernel

/-- A LIVE outcome closes the feeder while the section is coupled and the far end closed, and counts as INCONCLUSIVE
otherwise; LINE_TEST_RESULT carries LIVE in both (R87, R94). -/
theorem test_live_counts :
    let s (b : Bool) : State := withFct (sees (linked.modSect 0 fun x => { x with coupled := b }) [(0, 0)]) fun x =>
      { x with state := .testing }
    let t (b : Bool) : State := (s b).releaseEnds 0 0 (some { kind := .live, rLine := none })
    (t true).fct[0].state = .closing ∧ (t false).fct[0].state = .deadTime ∧
      (t true).evr.events.map EventRec.cause = [some .live] ∧
      (t false).evr.events.map EventRec.cause = [some .live, some .inconclusive] := by decide +kernel

theorem test_slot_timers_witness : base.phase = .running ∧
    (base.setTestSlot 0 (.contact 0 0)).ltu.slot[0] = .contact 0 0 ∧
    (base.setTestSlot 1 (.settle 0 0)).ltu.slot[1] = .settle 0 0 ∧
    (base.setTestSlot 1 (.release 0 0 none)).ltu.slot[1] = .release 0 0 none := by decide +kernel

theorem test_window_witness :
    let s := base.setTestSlot 1 (.window 0 400 399 152000 3040000)
    s.ltu.slot[1] = .window 0 400 399 152000 3040000 ∧ slotFeeder s.ltu.slot[0] ≠ some 0 := by decide +kernel

theorem test_coupling_witness : linked.coupledNow 0 = true ∧ linked.doubleFedNow 0 = true ∧
    (linked.reevaluate 0).sco.sect[0].bank = .a ∧ base.coupledNow 0 = false := by decide +kernel

/-- A coupled section at rest, with its far TT_ACK seen, with a request in flight, pending and failed. -/
theorem test_handshake_witness : ∀ h ∈ [({ Handshake.reset with seenReq := true } : Handshake),
      { Handshake.reset with seenAck := true }, { Handshake.reset with ttReq := true },
      { Handshake.reset with pending := true }, { Handshake.reset with pending := true, failed := true }],
    let s := linked.modSect 0 fun x => { x with coupled := true, hs := h }
    s.sco.sect[0].coupled = true ∧ s.sco.sect[0].hs = h ∧ HandshakeOk h := by
  unfold HandshakeOk
  decide +kernel

theorem test_link_witness : ForPart base 7 (rx 5 30 7 [1, 0, 33, 3, 1, 0, 7, 3]) ∧
    ForPart base 7 (rx 5 30 7 [2, 0, 33, 3, 0]) ∧ ForPart base 7 (rx 5 30 7 [1, 0, 34, 3, 0]) ∧
    base.slotFor 30 1 = some 0 ∧ base.slotFor 30 2 = none :=
  ⟨forPart (by decide +kernel), forPart (by decide +kernel), forPart (by decide +kernel), by decide +kernel,
    by decide +kernel⟩

/-- Section 7 coupled and listed with the far end testing: it yields at an end that is not the test end; and in FOLLOW
without coupling its feeder is locked out. -/
theorem test_section_report_witness :
    let e : SectionEntry := { secNo := 7, closed := false, coupled := true, testEnd := true, ttReq := false
                              ttAck := false, lineLive := false, testActive := true }
    let s := linked.modSect 0 fun x => { x with coupled := true, far := some e }
    let f (b : Bool) : State := { s with tables := { s.tables with
      feeder := s.tables.feeder.set 0 { s.tables.feeder[0] with testEnd := b } } }
    (((f false).setTestSlot 0 (.settle 0 3)).ltuYield 0).ltu.slot[0] = .release 0 800 none ∧
    (((f true).setTestSlot 0 (.settle 0 3)).ltuYield 0).ltu.slot[0] = .settle 0 3 ∧
    ((withFct base fun x => { x with state := .follow }).fctSection 0).fct[0].lockCause = some .uncoord := by
  decide +kernel

theorem test_link_timer_witness : linked.phase = .running ∧ linked.sco.link[0].up = true ∧
    linked.sco.link[0].timer = some 0 ∧ linked.onSlot 0 0 = true := by decide +kernel

theorem test_neighbour_frames_witness :
    ({ base with clock := { base.clock with link := 40 } } : State).phase = .running ∧
    base.phase = .running ∧ base.clock.link < 40 ∧
    LinkQueueOk { base.rif with linkQ := [{ slot := 0, frame := frame 30 }] } ∧
    (∀ x ∈ ([{ slot := 0, frame := frame 30 }] : List LinkEntry), x.slot ≠ 3) := by
  unfold LinkQueueOk
  decide +kernel

/-! ### Witnesses: rectifier, station -/

theorem test_rect_status_witness : ForPart base 5 (rx 5 25 5 [1, 1]) ∧ ForPart base 5 (rx 5 25 5 [0, 1]) ∧
    ForPart base 5 (rx 5 25 5 [2, 3]) ∧ ForPart base 5 (rx 5 26 5 [0, 1]) ∧
    base.tables.regulator.gateNode = some 25 ∧ base.rcu.adoption = true :=
  ⟨forPart (by decide +kernel), forPart (by decide +kernel), forPart (by decide +kernel),
    forPart (by decide +kernel), by decide +kernel, by decide⟩

theorem test_rect_timers_witness : ∀ st ∈ ([.starting, .stopping, .blocked, .phaseBack] : List RectState),
    let s := { base with rcu := { base.rcu with state := st, timer := some 0, supTimer := some 0 } }
    s.phase = .running ∧ s.rcu.state = st ∧ s.rcu.timer = some 0 ∧ s.rcu.supTimer = some 0 := by decide +kernel

/-- Feeder 0 alone in the set and beside feeder 1, in REGULATING, PHASE_BACK and OFF. -/
theorem test_phase_back_witness : ∀ st ∈ ([.regulating, .phaseBack, .off] : List RectState),
    let s : State := { base with rcu := { base.rcu with state := st, pbSet := base.rcu.pbSet.set 0 true } }
    let t : State := { s with rcu := { s.rcu with pbSet := s.rcu.pbSet.set 1 true } }
    s.rcu.state = st ∧ (∀ g : Feeder, g ≠ 0 → s.rcu.pbSet[g] = false) ∧ t.rcu.pbSet[1] = true := by
  decide +kernel

/-- A report of the gate driver in each state that acts on it, with adoption over, and with a gate fault. -/
theorem test_rect_status_states_witness :
    ∀ st ∈ ([.off, .starting, .regulating, .phaseBack, .stopping, .blocked, .tripped] : List RectState),
    let s : State := { base with rcu := { base.rcu with state := st, adoption := false } }
    ForPart s 5 (rx 5 25 5 [0, 1]) ∧ ForPart s 5 (rx 5 25 5 [1, 3]) ∧ ForPart base 5 (rx 5 25 5 [1, 3]) ∧
      s.rcu.state = st := by
  intro st _
  exact ⟨forPart (by cases st <;> decide +kernel), forPart (by cases st <;> decide +kernel),
    forPart (by decide +kernel), rfl⟩

/-- A gate fault beside a change of the AC breaker: an adoption in REGULATING and a start go on to BLOCKED (R152, R135),
an opening in REGULATING ends in TRIPPED with its own cause (log entry 16). -/
theorem test_gate_fault_with_ac :
    let s (st : RectState) (b : Bool) : State := { base with rcu := { base.rcu with state := st, adoption := b } }
    let t (x : State) (ac : Byte) : State := after (exec (.rectStatusFrame (rx 5 25 5 [ac, 3])) x) x
    (t (s .off true) 1).rcu.cause = some .gateFault ∧ (t (s .starting false) 1).rcu.cause = some .gateFault ∧
      (t (s .regulating false) 0).rcu.cause = some .acOpened ∧ (t (s .off true) 0).rcu.state = .off := by
  decide +kernel

theorem test_control_tick_witness :
    let s := regulating 7450 1500 3100
    s.phase = .running ∧ 8 ≤ s.clock.control ∧ s.rcu.state = .regulating ∧ s.smp.points[20].sighted = true ∧
      s.smp.points[21].sighted = true ∧ s.smp.points[22].sighted = true := by decide +kernel

theorem test_rect_commands_witness :
    let s := { base with rcu := { base.rcu with
      adoption := false, supervised := true, status := some { ac := .opened, ready := true, gateFault := false } } }
    Granted (asked s (req 1 3 36 0 [])) (req 1 3 36 0 []) 3 36 ∧ s.rectStartRefusal = none ∧
      Granted (asked s (req 1 3 37 0 [])) (req 1 3 37 0 []) 3 37 ∧
      Granted (asked s (req 1 3 38 0 [])) (req 1 3 38 0 []) 3 38 ∧
      ({ s with rcu := { s.rcu with state := .tripped } }).rectResetRefusal = none :=
  ⟨granted (by decide +kernel), by decide +kernel, granted (by decide +kernel), granted (by decide +kernel),
    by decide +kernel⟩

/-- T_leak 40: a run that stands at 39 and one that has reached 40. -/
theorem test_leakage_witness : base.tables.station.tLeak = 40 ∧ base.tables.station.iLeak = 80 ∧
    leakageStep (.pickup 38) true 1 40 = (.pickup 39, false) ∧
    leakageStep (.pickup 39) true 1 40 = (.operated, true) := by decide

theorem test_station_trip_witness :
    let s := { base with stl := { base.stl with failNotices := [0] } }
    s.phase = .running ∧ (0 : Feeder) ∈ s.stl.failNotices ∧ (1 : Feeder) ∉ s.stl.failNotices ∧
      (∀ g ∈ s.ltu.queue, s.fct[g].state = .testWait) := by decide +kernel

theorem test_station_commands_witness :
    Granted (asked base (req 1 3 41 0 [])) (req 1 3 41 0 []) 3 41 ∧
    Granted (asked base (req 1 3 40 0 [])) (req 1 3 40 0 []) 3 40 ∧
    (base.setLockout true).stationResetRefusal = none :=
  ⟨granted (by decide +kernel), granted (by decide +kernel), by decide +kernel⟩

/-! ### Witnesses: set commands, events, reads, recorder, writes, store -/

theorem test_set_commands_witness :
    Granted (asked base (req 1 3 39 0 [0, 0, 0x9C, 0x40])) (req 1 3 39 0 [0, 0, 0x9C, 0x40]) 3 39 ∧
    Granted (asked base (req 1 3 39 0 [0, 0, 0x9C, 0x41])) (req 1 3 39 0 [0, 0, 0x9C, 0x41]) 3 39 ∧
    Granted (asked base (req 1 3 42 0 [1])) (req 1 3 42 0 [1]) 3 42 ∧
    Granted (asked base (req 1 3 42 0 [0])) (req 1 3 42 0 [0]) 3 42 ∧
    Granted (asked base (req 1 3 42 0 [2])) (req 1 3 42 0 [2]) 3 42 ∧
    Granted (asked base (req 1 3 43 0 [0, 0, 0, 1])) (req 1 3 43 0 [0, 0, 0, 1]) 3 43 :=
  ⟨granted (by decide +kernel), granted (by decide +kernel), granted (by decide +kernel),
    granted (by decide +kernel), granted (by decide +kernel), granted (by decide +kernel)⟩

/-- The full queue of 8.3.1 and an acknowledgement of its record 65506; a notice outstanding for node 9. -/
theorem test_ack_witness :
    let s := { base with evr := fullQueue }
    let n := { base with evr := { base.evr with notice := some base.summary } }
    Granted (asked s (req 9 3 44 0 [0xFF, 0xE2])) (req 9 3 44 0 [0xFF, 0xE2]) 3 44 ∧ EventQueueOk fullQueue ∧
      (∀ e ∈ fullQueue.events, e.seq < 65536) ∧ (fullQueue.events[6]?.map EventRec.seq) = some 65506 ∧
      Granted (asked n (req 9 3 45 0 [])) (req 9 3 45 0 []) 3 45 ∧
      (asked n (req 9 3 45 0 [])).evr.notice = some base.summary :=
  ⟨granted (by decide +kernel), by unfold EventQueueOk; decide +kernel, by decide +kernel, by decide +kernel,
    granted (by decide +kernel), by decide +kernel⟩

theorem test_reads_witness : Granted (asked base (req 9 1 16 0 [])) (req 9 1 16 0 []) 1 16 ∧
    Granted (asked base (req 9 1 26 0 [])) (req 9 1 26 0 []) 1 26 ∧
    Granted (asked base (req 9 1 28 0 [])) (req 9 1 28 0 []) 1 28 ∧
    Granted (asked base (req 9 1 27 0 [1])) (req 9 1 27 0 [1]) 1 27 ∧
    Granted (asked base (req 9 1 29 0 [0x7F, 0xFF, 24])) (req 9 1 29 0 [0x7F, 0xFF, 24]) 1 29 ∧
    Granted (asked base (req 9 1 29 0 [0x80, 0, 25])) (req 9 1 29 0 [0x80, 0, 25]) 1 29 ∧
    writerOf base (req 9 1 27 0 [1]) = .control :=
  ⟨granted (by decide +kernel), granted (by decide +kernel), granted (by decide +kernel),
    granted (by decide +kernel), granted (by decide +kernel), granted (by decide +kernel), by decide +kernel⟩

theorem test_recorder_commands_witness : Granted (asked base (req 1 3 48 0 [])) (req 1 3 48 0 []) 3 48 ∧
    Granted (asked base (req 1 3 46 0 [])) (req 1 3 46 0 []) 3 46 ∧
    Granted (asked base (req 1 3 47 0 [])) (req 1 3 47 0 []) 3 47 ∧
    ¬(chainCapacity base.tables.chain < 8 + base.tables.recorder.points.length) ∧ base.tables.chain ≠ [] :=
  ⟨granted (by decide +kernel), granted (by decide +kernel), granted (by decide +kernel), by decide +kernel,
    by decide +kernel⟩

/-- Words 3, 4 and 7 of a header for five points (R192, R212), and a word that finds 16 in the write buffer (R189). -/
theorem test_header_words :
    let w := headerWords [0, 10, 20, 21, 3] aRecord
    w[3]? = some 0x5000A515#32 ∧ w[4]? = some 0xC0000#32 ∧ w[7]? = some 0#32 ∧
    (let d : Drc := { base.drc with writeBuf := (List.range 16).map fun a => (a, 7), mem := [] }
     let e := d.placeAt [{ start := 5, length := 9, last := true }] 8 1
     e.writeBuf.length = 16 ∧ e.mem = [(0, 7)] ∧ e.writeBuf.getLast? = some (13, 1)) := by decide +kernel

/-- A summary in the bytes of R212: feeder 0 in SERVICE, blind, with its context held and bank B; slot 0 UP. -/
theorem test_summary_bytes :
    let s := (withFct linked fun x => { x with state := .service }).modFpu 0 fun x =>
      { x with context := some { cause := .imax, time := 0, bank := .a, current := 0, delta := none, t := none
                                 theta := none, secNo := none, further := 0 } }
    (summaryBytes s.summary)[1]? = some 0x75#8 ∧ (summaryBytes s.summary)[12]? = some 0x01#8 ∧
      (summaryBytes s.summary).length = 13 := by decide +kernel

/-- The words just before and just after each region of the chain, with a word of it waiting in the write buffer. -/
theorem test_inside_chain_witness :
    let s : State := { base with drc := { base.drc with mem := [(0, 5)], writeBuf := [(1000, 7)], state := .armed [] } }
    (∃ t, exec .tick s = .next t) ∧ memWf s.drc.mem = true ∧
      (∀ a ∈ [0, 999, 2002, 8191, 8792], (∀ x ∈ s.tables.chain,
        a < x.start ∨ x.start + (if x.length = 0 then 4096 else x.length) ≤ a) ∧ ∀ x ∈ s.drc.writeBuf, x.1 ≠ a) := by
  refine ⟨⟨_, rfl⟩, ?_⟩
  decide +kernel

theorem test_draining_witness :
    let s := { base with drc := { base.drc with state := .draining aRecord } }
    s.phase = .running ∧ s.drc.state = .draining aRecord ∧ aRecord.reason = some .complete := by decide +kernel

/-- An accepted write of every settings object: its own record sent back, and an empty map entry. -/
def writeOf (obj index : Nat) (data : List Byte) : Request := req 1 2 obj index data

theorem test_writes_witness :
    let s := { base with rcu := { base.rcu with adoption := false } }
    ∀ r ∈ [writeOf 1 0 (encodeStation testTables.station), writeOf 2 31 [0], writeOf 3 3 [0],
        writeOf 4 0 (encodeFeeder testTables.feeder[0]), writeOf 5 9 (encodeBank defaultBank),
        writeOf 6 0 (encodeBank defaultBank), writeOf 7 0 (encodeNeighbour testTables.neighbour[0]),
        writeOf 8 0 (encodeRegulator testTables.regulator), writeOf 9 64 [0, 0],
        writeOf 10 0 (encodeRecorder defaultRecorder), writeOf 11 0 (encodeChain workedChain)],
      Granted (asked s r) r 2 r.obj := by
  intro s r h
  exact granted ((by decide +kernel : ∀ r ∈ [writeOf 1 0 (encodeStation testTables.station), writeOf 2 31 [0],
    writeOf 3 3 [0], writeOf 4 0 (encodeFeeder testTables.feeder[0]), writeOf 5 9 (encodeBank defaultBank),
    writeOf 6 0 (encodeBank defaultBank), writeOf 7 0 (encodeNeighbour testTables.neighbour[0]),
    writeOf 8 0 (encodeRegulator testTables.regulator), writeOf 9 64 [0, 0],
    writeOf 10 0 (encodeRecorder defaultRecorder), writeOf 11 0 (encodeChain workedChain)],
    (asked s r).phase = .running ∧ (asked s r).mga.requests.head? = some r ∧ r.op = 2 ∧ r.obj = r.obj ∧
      (asked s r).agentRefusal r = none) r h)

/-- The same records pass the checks of their rules, as the statement of the writes asks for an acceptance. -/
theorem test_writes_accepted_witness :
    checkStation testTables (decodeStation (encodeStation testTables.station)) = none ∧
    decodeMapPoint [0] = some none ∧ decodeMapRange [0] = some none ∧
    ((decodeFeeder (encodeFeeder testTables.feeder[0])).any fun x =>
      (checkFeeder testTables 0 x true).isNone) = true ∧
    decodeBank (encodeBank defaultBank) = some defaultBank ∧
    checkNeighbour testTables 0 (decodeNeighbour (encodeNeighbour testTables.neighbour[0])) = none ∧
    checkRegulator testTables (decodeRegulator (encodeRegulator testTables.regulator)) true = none ∧
    checkCurve 64 (decodeCurve [0, 0]) true = none ∧
    checkRecorder (decodeRecorder (encodeRecorder defaultRecorder)) true = none ∧
    checkChain (decodeChain (encodeChain workedChain)) true = none := by decide +kernel

/-- Writes that move a feeder to another section, take it out of use, and reset a used slot are accepted too. -/
theorem test_moving_writes_witness :
    checkFeeder testTables 0 { testTables.feeder[0] with secNo := 8 } true = none ∧
    checkFeeder testTables 0 { testTables.feeder[0] with inUse := false } true = none ∧
    checkNeighbour testTables 0 { testTables.neighbour[0] with stationId := 34 } = none ∧
    linked.sco.link[0].up = true ∧ base.sco.link[0].up = false := by decide +kernel

/-- Each refusal of the checks, with values at the ends of their ranges. -/
theorem test_check_refusals :
    checkStation testTables { defaultStation with panel := some 255 } = some .range ∧
    checkStation testTables { defaultStation with panel := some 254, vSetMin := 9500, vSetMax := 9500 } = none ∧
    checkStation testTables { defaultStation with vSetMin := 9001 } = some .range ∧
    checkStation testTables { defaultStation with gateway := some 20 } = some .conflict ∧
    checkStation testTables { defaultStation with ownId := 33 } = some .conflict ∧
    checkFeeder testTables 1 { defaultFeeder with thetaTrip := 9000 } true = some .range ∧
    checkFeeder testTables 0 { testTables.feeder[0] with secNo := 8 } false = some .state ∧
    checkFeeder testTables 1 { defaultFeeder with inUse := true } true = some .range ∧
    checkFeeder testTables 1 { defaultFeeder with inUse := true, breakerNode := some 21, secNo := 7 } true =
      some .conflict ∧
    checkNeighbour testTables 1 { defaultNeighbour with channel := 4 } = some .range ∧
    checkNeighbour testTables 1 { defaultNeighbour with stationId := 33, linkNode := some 31 } = some .conflict ∧
    checkRegulator testTables { testTables.regulator with vSet := 9001 } true = some .range ∧
    checkRegulator testTables { testTables.regulator with gateNode := some 26 } false = some .state ∧
    checkRegulator testTables { testTables.regulator with gateNode := some 20 } true = some .conflict ∧
    checkChain [] false = some .busy ∧ checkChain [] true = some .range ∧
    checkChain [{ start := 0, length := 1, last := false }] true = some .range ∧
    checkChain [{ start := 32767, length := 2, last := true }] true = some .range ∧
    checkChain [{ start := 4095, length := 2, last := true }] true = some .align ∧
    checkChain [{ start := 0, length := 0, last := true }] true = none ∧
    checkChain [{ start := 0, length := 5, last := false }, { start := 4, length := 1, last := true }] true =
      some .overlap := by decide +kernel

/-- The refusals of the map's checks that 1.4.1 does not show. -/
theorem test_map_refusals :
    let m : MapPoint := { node := 12, channel := 3, point := 1, gain := 1, shift := 0, offset := 0 }
    let e : MapRange := { base := 16, size := 8, channel := 0, first := 10, gain := 1, shift := 0, offset := 0 }
    let t : Tables := { testTables with mapRange := testTables.mapRange.set 0 (some e) }
    checkMapPoint testTables 1 (some { m with shift := 16 }) = some .range ∧
    checkMapPoint testTables 1 (some m) = some .duplicate ∧ checkMapPoint testTables 0 (some m) = none ∧
    checkMapPoint testTables 1 (some { m with channel := 4, point := 0 }) = some .conflict ∧
    checkMapRange t 1 (some { e with base := 20, size := 4 }) = some .overlap ∧
    checkMapRange t 1 (some { e with channel := 1 }) = some .conflict ∧
    checkMapRange t 1 (some { e with base := 24, size := 2, first := 9 }) = some .range := by decide +kernel

/-- Records at the ends of their ranges, as the laws of their formats ask for. -/
theorem test_formats_witness :
    StationInRange { defaultStation with ownId := 4095, panel := some 254, iRectTrip := 60000 } ∧
    MapPointInRange { node := 254, channel := 15, point := 23, gain := 65535, shift := 15, offset := -32768 } ∧
    MapRangeInRange { base := 254, size := 2, channel := 15, first := 23, gain := 65535, shift := 15
                      offset := 32767 } ∧
    FeederInRange { defaultFeeder with thetaTrip := 65535, tauT := 36000, secNo := 1023, slot := 3 } ∧
    BankInRange { defaultBank with iMax := 40000, tMin := 0 } ∧
    NeighbourInRange { defaultNeighbour with stationId := 4095, channel := 3 } ∧
    RegulatorInRange defaultTables { defaultRegulator with kD0 := 40000, gateNode := some 1 } ∧
    ChainInRange [{ start := 32767, length := 4095, last := true }, { start := 0, length := 0, last := false }] := by
  unfold StationInRange FeederInRange NeighbourInRange RegulatorInRange NodeInRange
  refine ⟨?_, ?_, ?_, ?_, ?_, ?_, ?_, ?_⟩ <;>
    simp [MapPointInRange, MapRangeInRange, BankInRange, ChainInRange, defaultStation, defaultFeeder, defaultBank,
      defaultNeighbour, defaultRegulator, defaultTables]

theorem test_store_witness : Granted (asked base (req 1 3 49 0 [])) (req 1 3 49 0 []) 3 49 ∧
    (let s := { base with mga := { base.mga with busy := true, storeTimer := some 0, image := some (testTables, 5) } }
     s.phase = .running ∧ s.mga.busy = true ∧ s.mga.storeTimer = some 0 ∧
       (s.mga.image.map Prod.snd) = some 5) ∧ base.mga.busy = false :=
  ⟨granted (by decide +kernel), by decide +kernel, by decide⟩

end Sys2Proof.Machine
end

-- ==== Conversion of a GOOD sample, R10 ====
section
/-!
The conversion of R10 as a sum, a quotient rounded toward minus infinity, and the limit of R2.
-/

namespace Sys2Proof.Machine
open Sys2Proof

/-- The exact sum that R10 divides by 2^shift: the scaled difference and the half h of the divisor, spelt as R10 does. -/
def scaledSum (x : Feed) (raw : Int) : Int :=
  (raw - x.offset) * x.gain + (if 1 ≤ x.shift then 2 ^ (x.shift - 1) else 0)

/-- The current points of R2 by number: the feeder currents (group 0) and the station currents 21 and 23 (group 3). -/
theorem pointGroup_current_iff {p : Nat} (hp : p < 24) :
    (pointGroup p = 0 ∨ pointGroup p = 3) ↔ (p < 10 ∨ p = 21 ∨ p = 23) := by
  unfold pointGroup
  split_ifs with feederCurrent lineVoltage stationVoltage
  · simp [feederCurrent]
  · simp; omega
  · simp; omega
  · simp; omega

/-- The limit column of R2 by point number: current points have 60000 and voltage points 40000. -/
theorem pointLimit_of_lt {p : Nat} (hp : p < 24) :
    pointLimit p = if p < 10 ∨ p = 21 ∨ p = 23 then 60000 else 40000 := by
  simp only [pointLimit, pointGroup_current_iff hp]

/-- R10 through `scaledSum`: the model tests `shift = 0` where the rule's h tests `1 ≤ shift`. -/
theorem convert_eq_clampInt_scaledSum (x : Feed) (raw : Int) :
    convert x raw = clampInt (scaledSum x raw / 2 ^ x.shift) (-pointLimit x.point) (pointLimit x.point) := by
  rcases Nat.eq_zero_or_pos x.shift with unshifted | shifted
  · simp [convert, scaledSum, unshifted]
  · simp [convert, scaledSum, Nat.one_le_iff_ne_zero, shifted.ne']

/-- The value of a GOOD sample: the rounded quotient, brought to the limit of R2. -/
theorem sampleValue_good {x : Feed} {limit : Int} (raw : Int) (hlimit : pointLimit x.point = limit) :
    sampleValue x raw .good = some (clampInt (scaledSum x raw / 2 ^ x.shift) (-limit) limit) := by
  rw [sampleValue, convert_eq_clampInt_scaledSum, hlimit]

/-- Settles O18. Euclidean division by the positive 2^shift is the floor, also of a negative sum, so the quotient meets
the two bounds that determine it. -/
theorem conversionRoundsDown : Obligations.ConversionRoundsDown := by
  intro x raw hpoint
  have divisor_pos : (0 : Int) < 2 ^ x.shift := by positivity
  refine ⟨scaledSum x raw / 2 ^ x.shift, _, ?lower, ?upper, rfl, ?value⟩
  case lower => exact Int.ediv_mul_le (scaledSum x raw) divisor_pos.ne'
  case upper => exact Int.lt_ediv_add_one_mul_self (scaledSum x raw) divisor_pos
  case value => exact sampleValue_good raw (pointLimit_of_lt hpoint)

end Sys2Proof.Machine
end

-- ==== A delivery at the feeder protection unit, R22 to R34 ====
section
/-!
What a delivery leaves of IMAX, of DDL and of the protection unit, branch by branch of the rules, and the two
statements about it.
-/

namespace Sys2Proof.Machine
open Sys2Proof

/-! ### IMAX, R28 -/

theorem imaxCount_of_off {b : BankRec} (off : b.imaxEnable = false) (run : Nat) (v : Int) (disc : Bool) :
    imaxCount b run v disc = 0 := by
  simp [imaxCount, off]

theorem imaxCount_of_below {b : BankRec} {v : Int} (below : v.natAbs < b.iMax) (run : Nat) (disc : Bool) :
    imaxCount b run v disc = 0 := by
  simp [imaxCount, below]

theorem imaxCount_of_reached {b : BankRec} {v : Int} (enabled : b.imaxEnable = true)
    (reached : b.iMax ≤ v.natAbs) (run : Nat) (disc : Bool) :
    imaxCount b run v disc = min 4 ((if disc = true then 0 else run) + 1) := by
  simp [imaxCount, enabled, reached]

/-- The condition of R28 for an operation, spelt with the count that the delivery reaches. -/
theorem imaxOperates_iff (b : BankRec) (run : Nat) (v : Int) (disc : Bool) :
    imaxOperates b run v disc = true ↔ b.imaxEnable = true ∧ b.iMax ≤ v.natAbs ∧
      b.confirm ≤ min 4 ((if disc = true then 0 else run) + 1) := by
  rw [imaxOperates, Bool.and_eq_true, Bool.and_eq_true, decide_eq_true_iff, decide_eq_true_iff, and_assoc]
  refine and_congr_right fun enabled => and_congr_right fun reached => ?_
  rw [imaxCount_of_reached enabled reached]

/-- An operation clears the run count. -/
theorem imaxRunAfter_of_operates {b : BankRec} {run : Nat} {v : Int} {disc : Bool}
    (operates : imaxOperates b run v disc = true) : imaxRunAfter b run v disc = 0 := by
  rw [imaxRunAfter, if_pos operates]

theorem imaxRunAfter_of_not_operates {b : BankRec} {run : Nat} {v : Int} {disc : Bool}
    (silent : ¬ imaxOperates b run v disc = true) : imaxRunAfter b run v disc = imaxCount b run v disc := by
  rw [imaxRunAfter, if_neg silent]

/-- A count of 0 stays 0, with or without an operation. -/
theorem imaxRunAfter_of_count_zero {b : BankRec} {run : Nat} {v : Int} {disc : Bool}
    (zero : imaxCount b run v disc = 0) : imaxRunAfter b run v disc = 0 := by
  rw [imaxRunAfter, zero, ite_self]

/-! ### DDL, R24 and R31 to R34 -/

theorem trips_iff (r : DdlRun) (delta : Int) :
    r.trips delta = true ↔ (r.deltaTrip : Int) ≤ delta ∧ r.tMin ≤ r.t := by
  simp [DdlRun.trips]

theorem returns_iff (r : DdlRun) (delta : Int) :
    r.returns delta = true ↔ delta < 0 ∨ r.tReset ≤ r.low ∨ r.tMax < r.t := by
  simp [DdlRun.returns, or_assoc]

section
variable {d : Ddl} {b : BankRec} {i prev : Int} {k : Nat} {disc : Bool} {r0 : DdlRun} (bank : Bank)

/-- R24: a marked delivery, or one without a previous value, leaves DDL QUIET with the new previous value. -/
theorem ddlStep_of_marked (marked : disc = true ∨ d.iPrev = none) :
    ddlStep d bank b i k disc = ({ iPrev := some i, run := none }, none) := by
  rcases marked with marked | absent
  · simp [ddlStep, marked]
  · simp [ddlStep, absent]

/-- R31: a QUIET element that does not start. -/
theorem ddlStep_of_no_start (unmarked : disc = false) (hprev : d.iPrev = some prev) (quiet : d.run = none)
    (noStart : b.ddlEnable = false ∨ riseRate i prev k < b.diStart) :
    ddlStep d bank b i k disc = ({ iPrev := some i, run := none }, none) := by
  simp [ddlStep, unmarked, hprev, quiet, noStart]

/-- R31: the starting delivery takes the trip test and no return test. -/
theorem ddlStep_of_start (unmarked : disc = false) (hprev : d.iPrev = some prev) (quiet : d.run = none)
    (enabled : b.ddlEnable = true) (rises : (b.diStart : Int) ≤ riseRate i prev k) :
    ddlStep d bank b i k disc = if (ddlLatch bank b prev k).trips (increment i prev) = true then
        ({ iPrev := some i, run := none }, some (ddlLatch bank b prev k, increment i prev))
      else ({ iPrev := some i, run := some (ddlLatch bank b prev k) }, none) := by
  simp [ddlStep, unmarked, hprev, quiet, enabled, rises]

/-- R32: a RUNNING element takes the trip test and, where it does not trip, the return test. -/
theorem ddlStep_of_running (unmarked : disc = false) (hprev : d.iPrev = some prev) (running : d.run = some r0) :
    ddlStep d bank b i k disc = if (r0.advance i prev k).trips (increment i (r0.advance i prev k).base) = true then
        ({ iPrev := some i, run := none }, some (r0.advance i prev k, increment i (r0.advance i prev k).base))
      else if (r0.advance i prev k).returns (increment i (r0.advance i prev k).base) = true then
        ({ iPrev := some i, run := none }, none)
      else ({ iPrev := some i, run := some (r0.advance i prev k) }, none) := by
  simp [ddlStep, unmarked, hprev, running]

end

/-! ### The report of a delivery, R34 and R39 -/

/-- The operate report of IMAX. -/
def imaxReport (bank : Bank) (b : BankRec) (v : Int) : OperateReport :=
  { cause := .imax, bank := bank, current := v, delta := none, t := none, theta := none,
    phaseBack := b.pbImax, transfer := b.trImax }

/-- The operate report of DDL for the run and the increment of its operation. -/
def ddlReport (v : Int) (r : DdlRun) (delta : Int) : OperateReport :=
  { cause := .ddl, bank := r.bank, current := v, delta := some delta, t := some r.t, theta := none,
    phaseBack := r.phaseBack, transfer := r.transfer }

/-- IMAX's report is handed alone, whatever DDL did. -/
theorem deliveryReport_of_imax (bank : Bank) (b : BankRec) (v : Int) (x : Option (DdlRun × Int)) :
    deliveryReport bank b v true x = some (imaxReport bank b v) := rfl

theorem deliveryReport_of_ddl (bank : Bank) (b : BankRec) (v : Int) (r : DdlRun) (delta : Int) :
    deliveryReport bank b v false (some (r, delta)) = some (ddlReport v r delta) := rfl

/-- Without an operation of IMAX only DDL reports. -/
theorem cause_of_not_imax {bank : Bank} {b : BankRec} {v : Int} {x : Option (DdlRun × Int)} {r : OperateReport}
    (mem : r ∈ (deliveryReport bank b v false x).toList) : r.cause = .ddl := by
  cases x with
  | none => simp [deliveryReport] at mem
  | some x =>
    rw [deliveryReport_of_ddl, Option.toList_some, List.mem_singleton] at mem
    rw [mem, ddlReport]

/-- Without an operation of DDL only IMAX reports. -/
theorem cause_of_not_ddl {bank : Bank} {b : BankRec} {v : Int} {imax : Bool} {r : OperateReport}
    (mem : r ∈ (deliveryReport bank b v imax none).toList) : r.cause = .imax := by
  cases imax with
  | false => simp [deliveryReport] at mem
  | true =>
    rw [deliveryReport_of_imax, Option.toList_some, List.mem_singleton] at mem
    rw [mem, imaxReport]

/-! ### The state after a delivery, R22 -/

section
variable (s : State) (f : Feeder) (v : Int) (k : Nat) (disc : Bool)

/-- IMAX of feeder f operates at the delivery. -/
def State.imaxAt : Bool := imaxOperates (s.bankInUse f) s.fpu[f].imaxRun v disc

/-- The dead-banded current of a value delivered to feeder f. -/
def State.deadBanded : Int := deadBand s.tables.feeder[f].iDb v

/-- DDL of feeder f after the delivery, with the run and ΔI of an operation. -/
def State.ddlAt : Ddl × Option (DdlRun × Int) :=
  ddlStep s.fpu[f].ddl s.sco.sect[f].bank (s.bankInUse f) (s.deadBanded f v) k disc

/-- The report that the protection unit of feeder f hands at the delivery. -/
def State.reportAt : Option OperateReport :=
  deliveryReport s.sco.sect[f].bank (s.bankInUse f) v (s.imaxAt f v disc) (s.ddlAt f v k disc).2

/-- The square as the model writes it and as the statement does. -/
theorem toNat_mul_self (i : Int) : (i * i).toNat = i.natAbs * i.natAbs := by
  rw [← Int.natAbs_mul_self, Int.toNat_natCast]

theorem fpuDeliver_of_not_inUse (unused : s.tables.feeder[f].inUse = false) : s.fpuDeliver f v k disc = s := by
  rw [State.fpuDeliver, if_neg (ne_true_of_eq_false unused)]

variable {s f v k disc} (inUse : s.tables.feeder[f].inUse = true)
include inUse

theorem fpuDeliver_of_inUse : s.fpuDeliver f v k disc =
    (s.modFpu f fun p => { p with imaxRun := imaxRunAfter (s.bankInUse f) p.imaxRun v disc
                                  ddl := (s.ddlAt f v k disc).1
                                  sum := p.sum + (s.deadBanded f v).natAbs * (s.deadBanded f v).natAbs
                                  count := p.count + 1 }).modFct f
      fun c => { c with operateIn := c.operateIn ++ (s.reportAt f v k disc).toList } := by
  rw [State.fpuDeliver, if_pos inUse, ← toNat_mul_self]
  rfl

theorem fpuDeliver_fpu_self : (s.fpuDeliver f v k disc).fpu[f] =
    { s.fpu[f] with imaxRun := imaxRunAfter (s.bankInUse f) s.fpu[f].imaxRun v disc
                    ddl := (s.ddlAt f v k disc).1
                    sum := s.fpu[f].sum + (s.deadBanded f v).natAbs * (s.deadBanded f v).natAbs
                    count := s.fpu[f].count + 1 } := by
  rw [fpuDeliver_of_inUse inUse, modFct_fpu, modFpu_self]

theorem fpuDeliver_fct_self : (s.fpuDeliver f v k disc).fct[f] =
    { s.fct[f] with operateIn := s.fct[f].operateIn ++ (s.reportAt f v k disc).toList } := by
  rw [fpuDeliver_of_inUse inUse, modFct_self, modFpu_fct]

theorem fpuDeliver_of_ne {g : Feeder} (other : g ≠ f) :
    (s.fpuDeliver f v k disc).fpu[g] = s.fpu[g] ∧ (s.fpuDeliver f v k disc).fct[g] = s.fct[g] := by
  rw [fpuDeliver_of_inUse inUse]
  constructor
  · rw [modFct_fpu, modFpu_ne s f g _ other.symm]
  · rw [modFct_ne _ f g _ other.symm, modFpu_fct]

/-- A delivery changes the protection units and the controllers only. -/
theorem fpuDeliver_frame : s.fpuDeliver f v k disc =
    { s with fpu := (s.fpuDeliver f v k disc).fpu, fct := (s.fpuDeliver f v k disc).fct } := by
  rw [fpuDeliver_of_inUse inUse]
  rfl

theorem fpuDeliver_imaxRun : (s.fpuDeliver f v k disc).fpu[f].imaxRun =
    imaxRunAfter (s.bankInUse f) s.fpu[f].imaxRun v disc := by
  rw [fpuDeliver_fpu_self inUse]

theorem fpuDeliver_ddl : (s.fpuDeliver f v k disc).fpu[f].ddl = (s.ddlAt f v k disc).1 := by
  rw [fpuDeliver_fpu_self inUse]

theorem fpuDeliver_operateIn : (s.fpuDeliver f v k disc).fct[f].operateIn =
    s.fct[f].operateIn ++ (s.reportAt f v k disc).toList := by
  rw [fpuDeliver_fct_self inUse]

/-- Where IMAX operates, its report is the one handed. -/
theorem fpuDeliver_operateIn_of_imax (operates : s.imaxAt f v disc = true) :
    (s.fpuDeliver f v k disc).fct[f].operateIn =
      s.fct[f].operateIn ++ [imaxReport s.sco.sect[f].bank (s.bankInUse f) v] := by
  rw [fpuDeliver_operateIn inUse, State.reportAt, operates, deliveryReport_of_imax, Option.toList_some]

/-- Where DDL operates and IMAX does not, DDL's report is the one handed. -/
theorem fpuDeliver_operateIn_of_ddl {r : DdlRun} {delta : Int} (silent : ¬ s.imaxAt f v disc = true)
    (operates : (s.ddlAt f v k disc).2 = some (r, delta)) :
    (s.fpuDeliver f v k disc).fct[f].operateIn = s.fct[f].operateIn ++ [ddlReport v r delta] := by
  rw [fpuDeliver_operateIn inUse, State.reportAt, Bool.eq_false_of_not_eq_true silent, operates,
    deliveryReport_of_ddl, Option.toList_some]

theorem cause_of_imax_silent (silent : ¬ s.imaxAt f v disc = true) :
    ∀ r ∈ (s.fpuDeliver f v k disc).fct[f].operateIn, r ∈ s.fct[f].operateIn ∨ r.cause = .ddl := by
  intro r mem
  rw [fpuDeliver_operateIn inUse, List.mem_append, State.reportAt,
    Bool.eq_false_of_not_eq_true silent] at mem
  exact mem.imp_right cause_of_not_imax

theorem cause_of_ddl_silent (silent : (s.ddlAt f v k disc).2 = none) :
    ∀ r ∈ (s.fpuDeliver f v k disc).fct[f].operateIn, r ∈ s.fct[f].operateIn ∨ r.cause = .imax := by
  intro r mem
  rw [fpuDeliver_operateIn inUse, List.mem_append, State.reportAt, silent] at mem
  exact mem.imp_right cause_of_not_ddl

end

/-- Settles O22. The run count follows the table of R28 row by row; the report is the delivery's one report, which is
IMAX's where IMAX operates. -/
theorem imaxAtDelivery : Obligations.ImaxAtDelivery := by
  intro s f v k disc b i hb hi run t
  obtain rfl : b = s.bankInUse f := hb
  obtain rfl : i = s.deadBanded f v := hi
  refine ⟨fpuDeliver_of_not_inUse s f v k disc, fun inUse => ?_⟩
  have runAfter : t.fpu[f].imaxRun = imaxRunAfter (s.bankInUse f) s.fpu[f].imaxRun v disc :=
    fpuDeliver_imaxRun inUse
  have operates_iff := imaxOperates_iff (s.bankInUse f) s.fpu[f].imaxRun v disc
  refine ⟨?off, ?below, ?counting, ?operation, ?silent, ?unit, ?others, ?controller, ?frame⟩
  case off => exact fun off => runAfter.trans (imaxRunAfter_of_count_zero (imaxCount_of_off off _ v disc))
  case below => exact fun _ below => runAfter.trans (imaxRunAfter_of_count_zero (imaxCount_of_below below _ disc))
  case counting =>
    intro enabled reached short
    have silent : ¬ imaxOperates (s.bankInUse f) s.fpu[f].imaxRun v disc = true := by
      intro operates
      obtain ⟨-, -, confirmed⟩ := operates_iff.1 operates
      exact short.not_ge confirmed
    rw [runAfter, imaxRunAfter_of_not_operates silent, imaxCount_of_reached enabled reached]
  case operation =>
    intro enabled reached confirmed
    have operates := operates_iff.2 ⟨enabled, reached, confirmed⟩
    exact ⟨runAfter.trans (imaxRunAfter_of_operates operates),
      fpuDeliver_operateIn_of_imax inUse operates⟩
  case silent => exact fun silent => cause_of_imax_silent inUse (mt operates_iff.1 silent)
  case unit =>
    show (s.fpuDeliver f v k disc).fpu[f] = _
    rw [fpuDeliver_fpu_self inUse]
  case others => exact fun g other => fpuDeliver_of_ne inUse other
  case controller =>
    show (s.fpuDeliver f v k disc).fct[f] = _
    rw [fpuDeliver_fct_self inUse]
  case frame => exact fpuDeliver_frame inUse

/-- Settles O23. Each branch of R24, R31 and R32 gives the outcome of the DDL step, and an outcome determines both
the element and the report: one with an operation is reported unless IMAX operates too, one without is silent. -/
theorem ddlAtDelivery : Obligations.DdlAtDelivery := by
  intro s f v k disc b bank i t inUse hbank hb hi ht delta imax operates rests
  subst hbank ht
  obtain rfl : b = s.bankInUse f := hb
  obtain rfl : i = s.deadBanded f v := hi
  have imax_iff : s.imaxAt f v disc = true ↔ imax := imaxOperates_iff _ _ v disc
  have operates_of_step {r : DdlRun} (step : s.ddlAt f v k disc =
      ({ iPrev := some (s.deadBanded f v), run := none }, some (r, delta r.base))) : operates r := by
    refine ⟨?_, fun silent => ?_, fun due => ?_⟩
    · rw [fpuDeliver_ddl inUse, step]
    · exact fpuDeliver_operateIn_of_ddl inUse (mt imax_iff.1 silent) (congrArg Prod.snd step)
    · exact fpuDeliver_operateIn_of_imax inUse (imax_iff.2 due)
  have rests_of_step {run : Option DdlRun} (step : s.ddlAt f v k disc =
      ({ iPrev := some (s.deadBanded f v), run := run }, none)) : rests run := by
    refine ⟨?_, ?_⟩
    · rw [fpuDeliver_ddl inUse, step]
    · exact cause_of_ddl_silent inUse (congrArg Prod.snd step)
  refine ⟨fun marked => rests_of_step (ddlStep_of_marked _ marked), fun prev unmarked hprev => ?_⟩
  refine ⟨?quiet, ?running⟩
  case quiet =>
    intro quiet
    refine ⟨fun noStart => ?_, fun enabled rises => ?_⟩
    · exact rests_of_step (ddlStep_of_no_start _ unmarked hprev quiet noStart)
    have step := ddlStep_of_start s.sco.sect[f].bank unmarked hprev quiet enabled rises
    refine ⟨ddlLatch s.sco.sect[f].bank (s.bankInUse f) prev k, rfl, fun trips => ?_, fun stays => ?_⟩
    · exact operates_of_step (step.trans (if_pos ((trips_iff _ _).2 trips)))
    · exact rests_of_step (step.trans (if_neg (mt (trips_iff _ _).1 stays)))
  case running =>
    intro r0 running
    have step := ddlStep_of_running s.sco.sect[f].bank (b := s.bankInUse f) (i := s.deadBanded f v) (k := k)
      unmarked hprev running
    refine ⟨r0.advance (s.deadBanded f v) prev k, rfl, fun trips => ?_, fun noTrip => ?_⟩
    · exact operates_of_step (step.trans (if_pos ((trips_iff _ _).2 trips)))
    · have tested := step.trans (if_neg (mt (trips_iff _ _).1 noTrip))
      refine ⟨fun returns => ?_, fun stays => ?_⟩
      · exact rests_of_step (tested.trans (if_pos ((returns_iff _ _).2 returns)))
      · exact rests_of_step (tested.trans (if_neg (mt (returns_iff _ _).1 stays)))

end Sys2Proof.Machine
end

-- ==== A delivery of LINE_VOLTAGE at the line test unit, R86, R87 and R89 ====
section
/-!
What a delivery of LINE_VOLTAGE makes of each slot, and the statement about the slot that holds the feeder's window.
-/

namespace Sys2Proof.Machine
open Sys2Proof

/-! ### The visits of the two slots -/

/-- Both visits come to the visit of slot k alone when that visit leaves the other slot as it stands and the visit of
the other slot, found so, changes nothing. -/
theorem eachSlot_eq_of_other {s : State} {visit : State → TestSlot → State} {k : TestSlot}
    (frame : ∀ j, j ≠ k → (visit s k).ltu.slot[j] = s.ltu.slot[j])
    (idle : ∀ j, j ≠ k → ∀ t : State, t.ltu.slot[j] = s.ltu.slot[j] → visit t j = t) :
    s.eachSlot visit = visit s k := by
  match k with
  | 0 => exact idle 1 (by decide) _ (frame 1 (by decide))
  | 1 => exact congrArg (visit · 1) (idle 0 (by decide) s rfl)

theorem endTest_slot_of_ne (s : State) {k j : TestSlot} (f : Feeder) (o : TestOutcome) (other : j ≠ k) :
    (s.endTest k f o).ltu.slot[j] = s.ltu.slot[j] := by
  rw [State.endTest, sendOrder_ltu, setTestSlot_ne s k j _ other.symm]

/-! ### The result from the exact sums, R87 -/

theorem clampInt_eq_min_max {a b : Int} (x : Int) (ordered : a ≤ b) : clampInt x a b = min b (max a x) := by
  unfold clampInt
  split_ifs <;> omega

theorem lineResult_of_nonpos {line bus : Int} (r : FeederRec) (nonpos : bus - line ≤ 0) :
    lineResult r line bus = { kind := .live, rLine := none } := if_pos nonpos

/-- R_line is the limited quotient, which is a natural number since the lower limit is 0. -/
theorem lineResult_of_pos {line bus : Int} (r : FeederRec) (pos : 0 < bus - line) : ∃ rLine : Nat,
    (rLine : Int) = min 65535 (max 0 (((r.rTest : Int) * line).tdiv (bus - line))) ∧
    lineResult r line bus = { kind := if r.rMin ≤ rLine then .pass else .fail, rLine := some rLine } := by
  refine ⟨(clampInt (((r.rTest : Int) * line).tdiv (bus - line)) 0 65535).toNat, ?_, if_neg pos.not_ge⟩
  rw [clampInt_eq_min_max _ (by decide), Int.toNat_of_nonneg (by omega)]

/-! ### The delivery at one slot, R86 and R89 -/

theorem farClosed_eq_any (x : Section) : x.farClosed = x.far.any SectionEntry.closed := by
  rw [Section.farClosed, Section.farValue]
  cases x.far <;> rfl

theorem coupledFarClosed_iff (s : State) (f : Feeder) : s.coupledFarClosed f = true ↔
    s.sco.sect[f].coupled = true ∧ s.sco.sect[f].far.any SectionEntry.closed = true := by
  rw [State.coupledFarClosed, Bool.and_eq_true, farClosed_eq_any]

/-- The value `v` delivered to the window of feeder f in slot k: the early LIVE end, the pair, or the result. -/
def State.windowAt (s : State) (f : Feeder) (v : Int) (k : TestSlot) (w n : Nat) (line bus : Int) : State :=
  if (s.tables.feeder[f].vLive : Int) ≤ v ∧ s.coupledFarClosed f = true then
    s.endTest k f { kind := .live, rLine := none }
  else if n + 1 < w then s.setTestSlot k (.window f w (n + 1) (line + v) (bus + s.last busPoint))
  else s.endTest k f (lineResult s.tables.feeder[f] (line + v) (bus + s.last busPoint))

/-- The visit of slot k at a delivery of LINE_VOLTAGE(f). -/
def State.lineAt (s : State) (f : Feeder) (v : Int) (k : TestSlot) : State :=
  match s.ltu.slot[k] with
  | .window g w n line bus => if g = f then s.windowAt f v k w n line bus else s
  | _ => s

theorem ltuLine_eq_eachSlot (s : State) (f : Feeder) (v : Int) :
    s.ltuLine f v = s.eachSlot fun t k => t.lineAt f v k := rfl

section
variable {s : State} {f : Feeder} {k : TestSlot}

theorem windowAt_slot_of_ne {j : TestSlot} (v : Int) (w n : Nat) (line bus : Int) (other : j ≠ k) :
    (s.windowAt f v k w n line bus).ltu.slot[j] = s.ltu.slot[j] := by
  rw [State.windowAt]
  split_ifs with live short
  · exact endTest_slot_of_ne s f _ other
  · exact setTestSlot_ne s k j _ other.symm
  · exact endTest_slot_of_ne s f _ other

theorem lineAt_of_window {w n : Nat} {line bus : Int} (v : Int) (window : s.ltu.slot[k] = .window f w n line bus) :
    s.lineAt f v k = s.windowAt f v k w n line bus := by
  rw [State.lineAt, window]
  exact if_pos rfl

theorem lineAt_of_no_window (v : Int)
    (absent : ∀ (w n : Nat) (line bus : Int), s.ltu.slot[k] ≠ .window f w n line bus) : s.lineAt f v k = s := by
  rw [State.lineAt]
  split
  next g w n line bus window => exact if_neg fun same => absent w n line bus (by rw [window, same])
  next => rfl

theorem ltuLine_of_no_window (v : Int)
    (absent : ∀ (k : TestSlot) (w n : Nat) (line bus : Int), s.ltu.slot[k] ≠ .window f w n line bus) :
    s.ltuLine f v = s := by
  rw [ltuLine_eq_eachSlot, State.eachSlot, lineAt_of_no_window v (absent 0), lineAt_of_no_window v (absent 1)]

/-- The one slot that holds feeder f, in WINDOW, takes the delivery. -/
theorem ltuLine_of_window {w n : Nat} {line bus : Int} (v : Int) (window : s.ltu.slot[k] = .window f w n line bus)
    (alone : ∀ j, j ≠ k → slotFeeder s.ltu.slot[j] ≠ some f) :
    s.ltuLine f v = s.windowAt f v k w n line bus := by
  rw [ltuLine_eq_eachSlot, eachSlot_eq_of_other (k := k), lineAt_of_window v window]
  case frame =>
    intro j other
    rw [lineAt_of_window v window, windowAt_slot_of_ne v w n line bus other]
  case idle =>
    intro j other t same
    refine lineAt_of_no_window v fun w n line bus second => alone j other ?_
    rw [← same, second, slotFeeder]

end

/-- Settles O39. The slot that holds the window takes the delivery alone, by the three branches of `windowAt`; the
complete window has the two results of R87. -/
theorem windowDelivery : Obligations.WindowDelivery := by
  intro s f v r early hr hearly
  subst hr
  refine ⟨ltuLine_of_no_window v, fun k w n a b window alone => ?_⟩
  intro line bus ended
  have taken := ltuLine_of_window v window alone
  have live_iff := hearly.trans (and_congr_right fun _ => (coupledFarClosed_iff s f).symm)
  refine ⟨fun live => ?early, fun quiet short => ?pair, fun quiet complete => ?result⟩
  case early => exact taken.trans (if_pos (live_iff.1 live))
  case pair => exact taken.trans ((if_neg (mt live_iff.2 quiet)).trans (if_pos short))
  case result =>
    have result : s.ltuLine f v = ended (lineResult s.tables.feeder[f] line bus) :=
      taken.trans ((if_neg (mt live_iff.2 quiet)).trans (if_neg complete.not_gt))
    refine ⟨fun nonpos => ?_, fun pos => ?_⟩
    · rw [result, lineResult_of_nonpos _ nonpos]
    · obtain ⟨rLine, limited, outcome⟩ := lineResult_of_pos s.tables.feeder[f] pos
      exact ⟨rLine, limited, outcome ▸ result⟩

end Sys2Proof.Machine
end

-- ==== A delivery of LEAKAGE_CURRENT at the station trip logic, R155 ====
section
/-!
The table of R155 row by row, and what a delivery makes of the station when the element operates and when it does not.
-/

namespace Sys2Proof.Machine
open Sys2Proof

/-! ### The rows of the table -/

theorem leakageStep_low (l : Leakage) (k tLeak : Nat) : leakageStep l false k tLeak = (.normal, false) := by
  cases l <;> rfl

theorem leakageStep_operated_high (k tLeak : Nat) : leakageStep .operated true k tLeak = (.operated, false) := rfl

/-- What a run of length `run` makes of an element that has not operated: it operates at T_leak. -/
def leakageReached (run tLeak : Nat) : Leakage × Bool :=
  if tLeak ≤ run then (.operated, true) else (.pickup run, false)

theorem leakageReached_of_lt {run tLeak : Nat} (short : run < tLeak) :
    leakageReached run tLeak = (.pickup run, false) := if_neg short.not_ge

theorem leakageReached_of_le {run tLeak : Nat} (reached : tLeak ≤ run) :
    leakageReached run tLeak = (.operated, true) := if_pos reached

/-- The run starts with the whole interval of the delivery. -/
theorem leakageStep_normal_high (k tLeak : Nat) : leakageStep .normal true k tLeak = leakageReached k tLeak := rfl

/-- The run grows by the whole interval of the delivery, up to 400. -/
theorem leakageStep_pickup_high (run k tLeak : Nat) :
    leakageStep (.pickup run) true k tLeak = leakageReached (min 400 (run + k)) tLeak := rfl

/-! ### The station after the delivery -/

section
variable {s : State} {v : Int} {k : Nat} {disc high : Bool} {l : Leakage}

theorem leakDeliver_of_rests (compared : decide (s.tables.station.iLeak ≤ v.natAbs) = high)
    (step : leakageStep s.stl.leakage high (if disc then 1 else k) s.tables.station.tLeak = (l, false)) :
    s.leakDeliver v k disc = { s with stl := { s.stl with leakage := l } } := by
  simp [State.leakDeliver, compared, step]

theorem leakDeliver_of_operates (compared : decide (s.tables.station.iLeak ≤ v.natAbs) = high)
    (step : leakageStep s.stl.leakage high (if disc then 1 else k) s.tables.station.tLeak = (l, true)) :
    s.leakDeliver v k disc =
      State.stationTrip { s with stl := { s.stl with leakage := l } } .leakage v := by
  simp [State.leakDeliver, compared, step]

/-- A delivery that brings the run to `run` leaves the element in PICKUP below T_leak and trips the station from
T_leak up. -/
theorem leakDeliver_of_run {run : Nat} (above : s.tables.station.iLeak ≤ v.natAbs)
    (step : leakageStep s.stl.leakage true (if disc then 1 else k) s.tables.station.tLeak =
      leakageReached run s.tables.station.tLeak) :
    (run < s.tables.station.tLeak →
      s.leakDeliver v k disc = { s with stl := { s.stl with leakage := .pickup run } }) ∧
    (s.tables.station.tLeak ≤ run →
      s.leakDeliver v k disc =
        State.stationTrip { s with stl := { s.stl with leakage := .operated } } .leakage v) := by
  have compared := decide_eq_true above
  refine ⟨fun short => ?_, fun reached => ?_⟩
  · exact leakDeliver_of_rests compared (step.trans (leakageReached_of_lt short))
  · exact leakDeliver_of_operates compared (step.trans (leakageReached_of_le reached))

end

/-- Settles O50, by the rows of R155: below I_leak any state returns to NORMAL; from I_leak up OPERATED stays, and
NORMAL and PICKUP come to a run that is compared with T_leak. -/
theorem leakageAtDelivery : Obligations.LeakageAtDelivery := by
  intro s v k n tLeak disc hn ht
  subst hn ht
  refine ⟨fun below => ?low,
    fun above => ⟨fun operated => ?operated, fun normal => ?normal, fun run pickup => ?pickup⟩⟩
  case low => exact leakDeliver_of_rests (decide_eq_false below.not_ge) (leakageStep_low _ _ _)
  case operated =>
    exact leakDeliver_of_rests (decide_eq_true above) (by rw [operated, leakageStep_operated_high])
  case normal => exact leakDeliver_of_run above (by rw [normal, leakageStep_normal_high])
  case pickup => exact leakDeliver_of_run above (by rw [pickup, leakageStep_pickup_high])

end Sys2Proof.Machine
end

-- ==== The queue of commands, power-on, the time base and the arbiter ====
section
/-!
What a step runs, the state at reset and at power-on, and the commands that act on one block alone.
-/

namespace Sys2Proof.Machine
open Sys2Proof

/-- Settles O1, by the definition of a step. -/
theorem stepRunsFrontCommand : Obligations.StepRunsFrontCommand := fun _ _ => rfl

/-- Settles O5. Every block of the powered-on state is the reset one but for the straps. -/
theorem powerOnState : Obligations.PowerOnState := by
  intro straps s
  have strapFault : strapFaultOf straps = decide (straps.toNat = 0 ∨ straps.toNat = 255) := by
    simp [strapFaultOf]
  refine ⟨s.poweredOn straps, rfl, rfl, rfl, rfl, ?rif, rfl, ?points, rfl, rfl, rfl, rfl, ?fpu, ?fct, rfl, rfl,
    rfl, ?link, ?sect, rfl, rfl, rfl, rfl, rfl⟩
  case rif => rw [← strapFault]; rfl
  case points => simp [State.poweredOn, State.reset, PointRec.reset]
  case fpu => simp [State.poweredOn, State.reset, Fpu.reset]
  case fct => simp [State.poweredOn, State.reset, Fct.reset, defaultTables, defaultFeeder]
  case link => simp [State.poweredOn, State.reset, Sco.reset]
  case sect => simp [State.poweredOn, State.reset, Sco.reset, Section.reset, Handshake.reset]

/-- The counter advances by one and wraps after its last value. -/
theorem succ_mod_counter (n : Nat) :
    (n + 1) % 4294967296 = if n % 4294967296 = 4294967295 then 0 else n % 4294967296 + 1 := by
  split_ifs <;> omega

/-- Settles O8: each command by whether its end is due. -/
theorem millisecondAndWindow : Obligations.MillisecondAndWindow := by
  intro s powered
  refine ⟨fun due => ?ms, fun due => ?window, fun early => ?noMs, fun early => ?noWindow⟩
  case ms => simp [exec, execMillisecondAdvance, powered, due, succ_mod_counter]
  case window => simp [exec, execRingWindowEnd, whenPowered, powered, due]
  case noMs => simp [exec, execMillisecondAdvance, early.not_ge]
  case noWindow => simp [exec, execRingWindowEnd, whenPowered, early.not_ge]

/-- Settles O13, by the rows of the arbiter's order. -/
theorem arbiterOrder : Obligations.ArbiterOrder := by
  intro s powered
  have taken : exec .arbiterTake s = .next { s with rif := s.rif.take } := by
    simp [exec, execArbiterTake, whenPowered, powered]
  have idle (same : s.rif.take = s.rif) : exec .arbiterTake s = .next s := by rw [taken, same]
  refine ⟨?sent, fun busy => ?busy, fun free => ⟨fun x rest first => ?transit, fun noTransit =>
    ⟨fun x rest first => ?order, fun noOrder => ⟨fun x rest first => ?link, fun noLink =>
      ⟨fun x rest first => ?report, fun noReport => ?none⟩⟩⟩⟩⟩
  case sent => simp [exec, execFrameSendEnd, whenPowered, powered]
  case busy =>
    obtain ⟨x, hx⟩ := Option.isSome_iff_exists.1 busy
    exact idle (by simp [Rif.take, hx])
  case transit => rw [taken]; simp [Rif.take, free, first]
  case order => rw [taken]; simp [Rif.take, free, noTransit, first]
  case link => rw [taken]; simp [Rif.take, free, noTransit, noOrder, first]
  case report => rw [taken]; simp [Rif.take, free, noTransit, noOrder, noLink, first]
  case none => exact idle (by simp [Rif.take, free, noTransit, noOrder, noLink, noReport])

/-- Settles O4: every queue and buffer is empty and no feeder is in test. -/
theorem invariantAtReset : Obligations.InvariantAtReset where
  events := ⟨by decide, by decide, fun i h => absurd h (Nat.not_lt_zero i)⟩
  orders := ⟨List.nodup_nil, by decide⟩
  links := List.nodup_nil
  reports := by simp [ReportQueueOk, State.reset, Rif.reset]
  transit := by simp [TransitOk, Rif.transitUse, State.reset, Rif.reset]
  requests := by simp [State.reset, Rif.reset]
  recorder := ⟨rfl, by decide, fun b h => by simp [State.reset] at h⟩
  handshakes := fun f => by simp [HandshakeOk, State.reset, Sco.reset, Section.reset, Handshake.reset]
  phaseBack := fun h => by simp [State.reset, Rcu.reset] at h
  tests :=
    { queuedOnce := List.nodup_nil
      queued := by simp [State.reset, Ltu.reset]
      held := by simp [State.reset, Ltu.reset, heldFeeder]
      released := by simp [State.reset, Ltu.reset]
      apart := by simp [State.reset, Ltu.reset, slotFeeder]
      waiting := by simp [State.reset, Fct.reset]
      testing := by simp [State.reset, Fct.reset]
      handed := by simp [State.reset, Fct.reset]
      atMostTwo := by decide
      atRest := by simp [State.reset, Ltu.reset] }

end Sys2Proof.Machine
end

-- ==== The places of the line test unit, R79 and R80 ====
section
/-!
The invariant of the tests told feeder by feeder: a feeder agrees with the places that hold it, or, while its controller
moves it, it has none. Every operation of the blocks keeps the agreement of all feeders but the one it moves.
-/

namespace Sys2Proof.Machine
open Sys2Proof

/-! ### One feeder and the places -/

/-- Feeder f is in no place that stands for a feeder in test; a release that follows its test may still run. -/
structure Placeless (s : State) (f : Feeder) : Prop where
  notQueued : f ∉ s.ltu.queue
  notHeld : ∀ k : TestSlot, heldFeeder s.ltu.slot[k] ≠ some f
  apart : ∀ j k : TestSlot, j ≠ k → slotFeeder s.ltu.slot[j] = some f → slotFeeder s.ltu.slot[k] ≠ some f
  noOutcome : s.fct[f].outcomeIn = []

/-- The state of feeder f agrees with the places that hold it (R79, R80). -/
structure Agrees (s : State) (f : Feeder) : Prop where
  queued : f ∈ s.ltu.queue → s.fct[f].state = .testWait ∧ s.fct[f].outcomeIn = []
  held : ∀ k : TestSlot, heldFeeder s.ltu.slot[k] = some f →
    s.fct[f].state = .testing ∧ s.fct[f].outcomeIn = []
  released : ∀ k : TestSlot, slotFeeder s.ltu.slot[k] = some f → heldFeeder s.ltu.slot[k] ≠ some f →
    s.fct[f].state ≠ .testing
  apart : ∀ j k : TestSlot, j ≠ k → slotFeeder s.ltu.slot[j] = some f → slotFeeder s.ltu.slot[k] ≠ some f
  waiting : s.fct[f].state = .testWait → f ∈ s.ltu.queue ∨ s.fct[f].outcomeIn ≠ []
  testing : s.fct[f].state = .testing → ∃ k : TestSlot, heldFeeder s.ltu.slot[k] = some f
  handed : s.fct[f].outcomeIn ≠ [] → s.fct[f].state = .testWait ∧ s.fct[f].outcomeIn.length = 1

/-- The part runs, the queue holds each feeder once, and every feeder agrees with its places; but for the feeder `moving`,
where there is one, which has no place. -/
structure TestsBut (s : State) (moving : Option Feeder) : Prop where
  running : s.phase = .running
  queuedOnce : s.ltu.queue.Nodup
  agrees : ∀ f : Feeder, moving ≠ some f → Agrees s f
  placeless : ∀ f : Feeder, moving = some f → Placeless s f

theorem slotFeeder_of_held {ph : TestPhase} {f : Feeder} (held : heldFeeder ph = some f) :
    slotFeeder ph = some f := by
  cases ph with
  | release g n o => cases o <;> simp_all [heldFeeder, slotFeeder]
  | _ => simp_all [heldFeeder, slotFeeder]

theorem heldFeeder_of_testing {ph : TestPhase} {f : Feeder} (testing : ph.testing = some f) :
    heldFeeder ph = some f := by
  cases ph <;> simp_all [TestPhase.testing, heldFeeder]

/-- A slot that has a feeder and does not hold it TESTING is in RELEASE with none. -/
theorem release_of_not_held {ph : TestPhase} {f : Feeder} (slot : slotFeeder ph = some f)
    (idle : heldFeeder ph ≠ some f) : ∃ n, ph = .release f n none := by
  cases ph with
  | release g n o => cases o <;> simp_all [heldFeeder, slotFeeder]
  | _ => simp_all [heldFeeder, slotFeeder]

theorem slotFeeder_of_testing {ph : TestPhase} {f : Feeder} (testing : ph.testing = some f) :
    slotFeeder ph = some f := slotFeeder_of_held (heldFeeder_of_testing testing)

theorem inTest_iff (st : FeederState) : inTest st = true ↔ st = .testWait ∨ st = .testing := by
  simp [inTest]

/-- One place holds at most one feeder. -/
theorem countP_place_le_one : ∀ place : Option Feeder, (allFeeders.countP fun f => decide (place = some f)) ≤ 1 := by
  decide

/-- Feeders that two places hold are at most two. -/
theorem countP_le_two {p : Feeder → Bool} (a b : Option Feeder)
    (held : ∀ f, p f = true → a = some f ∨ b = some f) : allFeeders.countP p ≤ 2 := by
  have sum (l : List Feeder) : l.countP p ≤
      (l.countP fun f => decide (a = some f)) + l.countP fun f => decide (b = some f) := by
    induction l with
    | nil => simp
    | cons f rest ih =>
      have := held f
      simp only [List.countP_cons, decide_eq_true_eq]
      split_ifs <;> grind
  have := sum allFeeders
  have := countP_place_le_one a
  have := countP_place_le_one b
  omega

theorem TestsBut.ok {s : State} (h : TestsBut s none) : TestsOk s where
  queuedOnce := h.queuedOnce
  queued f := (h.agrees f nofun).queued
  held k f := (h.agrees f nofun).held k
  released k f n release := (h.agrees f nofun).released k (by rw [release]; rfl) (by rw [release]; nofun)
  apart f := (h.agrees f nofun).apart 0 1 (by decide)
  waiting f := (h.agrees f nofun).waiting
  testing f := (h.agrees f nofun).testing
  handed f := (h.agrees f nofun).handed
  atMostTwo := countP_le_two (heldFeeder s.ltu.slot[0]) (heldFeeder s.ltu.slot[1]) fun f testing => by
    obtain ⟨k, held⟩ := (h.agrees f nofun).testing (by simpa using testing)
    match k with
    | 0 => exact Or.inl held
    | 1 => exact Or.inr held
  atRest := fun idle => absurd h.running idle

theorem TestsOk.testsBut {s : State} (h : TestsOk s) (running : s.phase = .running) : TestsBut s none where
  running := running
  queuedOnce := h.queuedOnce
  agrees f _ :=
    { queued := h.queued f
      held := fun k => h.held k f
      released := fun k slot idle => by
        obtain ⟨n, release⟩ := release_of_not_held slot idle
        exact h.released k f n release
      apart := fun j k other => match j, k with
        | 0, 0 => absurd rfl other
        | 0, 1 => h.apart f
        | 1, 0 => fun one zero => h.apart f zero one
        | 1, 1 => absurd rfl other
      waiting := h.waiting f
      testing := h.testing f
      handed := h.handed f }
  placeless _ := nofun

end Sys2Proof.Machine
end

-- ==== What keeps the agreement of the tests ====
section
/-!
The operations of the controllers and the line test unit, each with what it does to the agreement of the feeders with
the places of the line test unit.
-/

namespace Sys2Proof.Machine
open Sys2Proof

/-! ### Feeders that an update does not concern -/

/-- The update from s to t leaves feeder g its state, its waiting outcomes and its places. -/
structure SamePlace (s t : State) (g : Feeder) : Prop where
  queue : g ∈ t.ltu.queue ↔ g ∈ s.ltu.queue
  held : ∀ k : TestSlot, heldFeeder t.ltu.slot[k] = some g ↔ heldFeeder s.ltu.slot[k] = some g
  slot : ∀ k : TestSlot, slotFeeder t.ltu.slot[k] = some g ↔ slotFeeder s.ltu.slot[k] = some g
  state : t.fct[g].state = s.fct[g].state
  outcome : t.fct[g].outcomeIn = s.fct[g].outcomeIn

theorem Agrees.congr {s t : State} {g : Feeder} (h : Agrees s g) (same : SamePlace s t g) : Agrees t g where
  queued := by simpa only [same.queue, same.state, same.outcome] using h.queued
  held := by simpa only [same.held, same.state, same.outcome] using h.held
  released := by simpa only [same.slot, same.held, same.state, ne_eq] using h.released
  apart := by simpa only [same.slot, ne_eq] using h.apart
  waiting := by simpa only [same.queue, same.state, same.outcome] using h.waiting
  testing := by simpa only [same.held, same.state] using h.testing
  handed := by simpa only [same.state, same.outcome] using h.handed

theorem Placeless.congr {s t : State} {g : Feeder} (h : Placeless s g) (same : SamePlace s t g) : Placeless t g where
  notQueued := by simpa only [same.queue] using h.notQueued
  notHeld := by simpa only [same.held, ne_eq] using h.notHeld
  apart := by simpa only [same.slot, ne_eq] using h.apart
  noOutcome := by simpa only [same.outcome] using h.noOutcome

/-- An update that concerns no feeder's test. -/
theorem TestsBut.congr {s t : State} {x : Option Feeder} (h : TestsBut s x) (phase : t.phase = s.phase)
    (queue : t.ltu.queue.Nodup) (same : ∀ g : Feeder, SamePlace s t g) : TestsBut t x where
  running := phase.trans h.running
  queuedOnce := queue
  agrees g other := (h.agrees g other).congr (same g)
  placeless g moving := (h.placeless g moving).congr (same g)

/-- The tests of an update that leaves the line test unit, and the states and waiting outcomes of the controllers. -/
theorem TestsBut.frame {s t : State} {x : Option Feeder} (h : TestsBut s x) (phase : t.phase = s.phase)
    (ltu : t.ltu = s.ltu)
    (fct : ∀ g : Feeder, t.fct[g].state = s.fct[g].state ∧ t.fct[g].outcomeIn = s.fct[g].outcomeIn) :
    TestsBut t x :=
  h.congr phase (ltu ▸ h.queuedOnce) fun g =>
    { queue := by rw [ltu], held := fun _ => by rw [ltu], slot := fun _ => by rw [ltu]
      state := (fct g).1, outcome := (fct g).2 }

/-- An update of other blocks than the controllers and the line test unit. -/
theorem TestsBut.elsewhere {s t : State} {x : Option Feeder} (h : TestsBut s x) (phase : t.phase = s.phase)
    (ltu : t.ltu = s.ltu) (fct : t.fct = s.fct) : TestsBut t x :=
  h.frame phase ltu fun g => by rw [fct]; exact ⟨rfl, rfl⟩

/-! ### The feeder that moves -/

theorem ne_testWait_of_out {st : FeederState} (out : inTest st = false) : st ≠ .testWait := by
  rintro rfl; exact absurd out (by decide)

theorem ne_testing_of_out {st : FeederState} (out : inTest st = false) : st ≠ .testing := by
  rintro rfl; exact absurd out (by decide)

theorem Placeless.agrees {s : State} {f : Feeder} (h : Placeless s f) (out : inTest s.fct[f].state = false) :
    Agrees s f where
  queued queued := absurd queued h.notQueued
  held k held := absurd held (h.notHeld k)
  released _ _ _ := ne_testing_of_out out
  apart := h.apart
  waiting waiting := absurd waiting (ne_testWait_of_out out)
  testing testing := absurd testing (ne_testing_of_out out)
  handed handed := absurd h.noOutcome handed

theorem Agrees.placeless {s : State} {f : Feeder} (h : Agrees s f) (out : inTest s.fct[f].state = false) :
    Placeless s f where
  notQueued queued := ne_testWait_of_out out (h.queued queued).1
  notHeld k held := ne_testing_of_out out (h.held k held).1
  apart := h.apart
  noOutcome := by
    by_contra handed
    exact ne_testWait_of_out out (h.handed handed).1

/-- A feeder that is not in test begins to move. -/
theorem TestsBut.leave {s : State} (h : TestsBut s none) {f : Feeder} (out : inTest s.fct[f].state = false) :
    TestsBut s (some f) where
  running := h.running
  queuedOnce := h.queuedOnce
  agrees g _ := h.agrees g nofun
  placeless g moving := by
    obtain rfl : f = g := by simpa using moving
    exact (h.agrees f nofun).placeless out

/-- A feeder that has moved to a state that is not in test. -/
theorem TestsBut.arrive {s : State} {f : Feeder} (h : TestsBut s (some f)) (out : inTest s.fct[f].state = false) :
    TestsBut s none where
  running := h.running
  queuedOnce := h.queuedOnce
  agrees g _ := by
    by_cases same : f = g
    · subst same; exact (h.placeless f rfl).agrees out
    · exact h.agrees g (by simpa using same)
  placeless _ := nofun

/-- An update that concerns the test of feeder f alone, which agrees with its places after it. -/
theorem TestsBut.moved {s t : State} {f : Feeder} {x : Option Feeder} (h : TestsBut s x) (phase : t.phase = s.phase)
    (queue : t.ltu.queue.Nodup) (same : ∀ g : Feeder, g ≠ f → SamePlace s t g) (agrees : Agrees t f)
    (moving : x ≠ none → x = some f) : TestsBut t none where
  running := phase.trans h.running
  queuedOnce := queue
  agrees g _ := by
    by_cases one : g = f
    · subst one; exact agrees
    · refine (h.agrees g fun other => one ?_).congr (same g one)
      rw [other] at moving
      simpa using moving
  placeless _ := nofun

/-- An update that concerns the test of feeder f alone, which has no place after it. -/
theorem TestsBut.moving {s t : State} {f : Feeder} {x : Option Feeder} (h : TestsBut s x) (phase : t.phase = s.phase)
    (queue : t.ltu.queue.Nodup) (same : ∀ g : Feeder, g ≠ f → SamePlace s t g) (placeless : Placeless t f)
    (moving : x ≠ none → x = some f) : TestsBut t (some f) where
  running := phase.trans h.running
  queuedOnce := queue
  agrees g other := by
    have one : g ≠ f := fun e => other (by rw [e])
    refine (h.agrees g fun other => one ?_).congr (same g one)
    rw [other] at moving
    simpa using moving
  placeless g same := by
    obtain rfl : f = g := by simpa using same
    exact placeless

/-! ### Reporting, orders and the other blocks -/

section
variable {s : State} {x : Option Feeder}

theorem TestsBut.post (h : TestsBut s x) (k : EventKind) (y : Subject) (c : Option Cause) (v : Option Int) :
    TestsBut (s.post k y c v) x := h.elsewhere rfl rfl rfl

theorem TestsBut.sendOrder (h : TestsBut s x) (f : Feeder) (o : BreakerOrder) : TestsBut (s.sendOrder f o) x :=
  h.elsewhere rfl rfl rfl

theorem TestsBut.tripNotice (h : TestsBut s x) (f : Feeder) (c : Cause) (r : Option OperateReport) :
    TestsBut (s.tripNotice f c r) x := h.elsewhere rfl rfl rfl

theorem TestsBut.trigger (h : TestsBut s x) (c : Cause) (y : Subject) : TestsBut (s.trigger c y) x := by
  unfold State.trigger
  split <;> exact h.elsewhere rfl rfl rfl

theorem TestsBut.rectEnter (h : TestsBut s x) (st : RectState) (c : Option Cause) (t : Option Nat) :
    TestsBut (s.rectEnter st c t) x := h.elsewhere rfl rfl rfl

theorem TestsBut.rcu (h : TestsBut s x) (r : Rcu) : TestsBut { s with rcu := r } x := h.elsewhere rfl rfl rfl

theorem TestsBut.stl (h : TestsBut s x) (r : Stl) : TestsBut { s with stl := r } x := h.elsewhere rfl rfl rfl

theorem TestsBut.modSect (h : TestsBut s x) (f : Feeder) (g : Section → Section) : TestsBut (s.modSect f g) x :=
  h.elsewhere rfl rfl rfl

theorem TestsBut.modHs (h : TestsBut s x) (f : Feeder) (g : Handshake → Handshake) : TestsBut (s.modHs f g) x :=
  h.elsewhere rfl rfl rfl

theorem TestsBut.toPhaseBack (h : TestsBut s x) : TestsBut s.toPhaseBack x := by
  unfold State.toPhaseBack
  split
  · exact h.rectEnter _ _ _
  · exact h

theorem TestsBut.toRegulating (h : TestsBut s x) : TestsBut s.toRegulating x := (h.rectEnter _ _ _).toPhaseBack

theorem TestsBut.phaseBackRequest (h : TestsBut s x) (f : Feeder) : TestsBut (s.phaseBackRequest f) x :=
  (h.rcu _).toPhaseBack

theorem TestsBut.phaseBackWithdraw (h : TestsBut s x) (f : Feeder) : TestsBut (s.phaseBackWithdraw f) x := by
  unfold State.phaseBackWithdraw
  dsimp only
  split
  · exact (h.rcu _).toRegulating
  · exact h.rcu _

theorem TestsBut.stationBlock (h : TestsBut s x) : TestsBut s.stationBlock x := by
  unfold State.stationBlock
  dsimp only
  split
  · exact (h.rcu _).rectEnter _ _ _
  · exact h.rcu _

theorem TestsBut.rectStop (h : TestsBut s x) : TestsBut s.rectStop.1 x := by
  unfold State.rectStop
  split
  case h_1 | h_2 | h_3 => exact h.rectEnter _ _ _
  all_goals exact h

/-- An update of a controller that keeps its state and its waiting outcomes. -/
theorem TestsBut.modFct (h : TestsBut s x) (f : Feeder) {g : Fct → Fct}
    (keeps : ∀ c, (g c).state = c.state ∧ (g c).outcomeIn = c.outcomeIn) : TestsBut (s.modFct f g) x := by
  refine h.frame rfl rfl fun k => ?_
  by_cases same : f = k
  · subst same; rw [modFct_self]; exact keeps _
  · rw [modFct_ne s f k g same]; exact ⟨rfl, rfl⟩

theorem TestsBut.ttRequest (h : TestsBut s x) (f : Feeder) (b : Bool) : TestsBut (s.ttRequest f b) x := by
  unfold State.ttRequest
  dsimp only
  split_ifs
  · exact h
  · exact (h.post _ _ _ _).modFct f fun _ => ⟨rfl, rfl⟩
  · exact h
  · exact h.modHs f _
  · exact (h.modHs f _).post _ _ _ _

end

end Sys2Proof.Machine
end

-- ==== The controllers and the line test unit keep the tests ====
section
/-!
The moves of a feeder between the states of its controller and the places of the line test unit.
-/

namespace Sys2Proof.Machine
open Sys2Proof

/-- An update that concerns the test of one feeder alone, which agrees with its places before and after it. -/
theorem TestsBut.regained {s t : State} {f : Feeder} {x : Option Feeder} (h : TestsBut s x) (phase : t.phase = s.phase)
    (queue : t.ltu.queue.Nodup) (same : ∀ g : Feeder, g ≠ f → SamePlace s t g) (agrees : Agrees t f)
    (other : x ≠ some f) : TestsBut t x where
  running := phase.trans h.running
  queuedOnce := queue
  agrees g still := by
    by_cases one : g = f
    · subst one; exact agrees
    · exact (h.agrees g still).congr (same g one)
  placeless g moving := by
    have one : g ≠ f := fun e => other (by rw [moving, e])
    exact (h.placeless g moving).congr (same g one)

/-! ### A controller enters a state -/

theorem fctSet_fct (s : State) (f : Feeder) (g : Fct → Fct) : (s.fctSet f g).fct = (s.modFct f g).fct := rfl

theorem fctSet_self (s : State) (f : Feeder) (g : Fct → Fct) : (s.fctSet f g).fct[f] = g s.fct[f] := by
  rw [fctSet_fct, modFct_self]

theorem fctSet_ne (s : State) (f h : Feeder) (g : Fct → Fct) (other : f ≠ h) :
    (s.fctSet f g).fct[h] = s.fct[h] := by
  rw [fctSet_fct, modFct_ne s f h g other]

theorem fctSet_ltu (s : State) (f : Feeder) (g : Fct → Fct) : (s.fctSet f g).ltu = s.ltu := rfl

theorem samePlace_fctSet (s : State) {f k : Feeder} (g : Fct → Fct) (other : k ≠ f) :
    SamePlace s (s.fctSet f g) k where
  queue := Iff.rfl
  held _ := Iff.rfl
  slot _ := Iff.rfl
  state := by rw [fctSet_ne s f k g other.symm]
  outcome := by rw [fctSet_ne s f k g other.symm]

theorem enter_outcomeIn_of_out (c : Fct) {st : FeederState} (timer : Option Nat) (out : inTest st = false) :
    (c.enter st timer).outcomeIn = [] := by
  simp [Fct.enter, out]

section
variable {s : State} {f : Feeder}

/-- A moving feeder keeps moving while no outcome is handed to it. -/
theorem TestsBut.fctSet_moving (h : TestsBut s (some f)) {g : Fct → Fct}
    (noOutcome : s.fct[f].outcomeIn = [] → (g s.fct[f]).outcomeIn = []) : TestsBut (s.fctSet f g) (some f) := by
  have away := h.placeless f rfl
  refine h.moving rfl h.queuedOnce (fun k other => samePlace_fctSet s g other) ?_ fun _ => rfl
  exact
    { notQueued := away.notQueued, notHeld := away.notHeld, apart := away.apart
      noOutcome := by rw [fctSet_self]; exact noOutcome away.noOutcome }

/-- A moving feeder arrives in a state that is not in test. -/
theorem TestsBut.fctSet_out (h : TestsBut s (some f)) {g : Fct → Fct} (noOutcome : (g s.fct[f]).outcomeIn = [])
    (out : inTest (g s.fct[f]).state = false) : TestsBut (s.fctSet f g) none :=
  (h.fctSet_moving fun _ => noOutcome).arrive (by rw [fctSet_self]; exact out)

theorem TestsBut.fctEnter (h : TestsBut s (some f)) {st : FeederState} (timer : Option Nat)
    (out : inTest st = false) : TestsBut (s.fctEnter f st timer) none :=
  h.fctSet_out (enter_outcomeIn_of_out _ timer out) out

theorem TestsBut.fctOut (h : TestsBut s (some f)) : TestsBut (s.fctOut f) none := h.fctSet_out rfl rfl

theorem TestsBut.lockOut (h : TestsBut s (some f)) (c : Cause) : TestsBut (s.lockOut f c) none :=
  (h.fctSet_out rfl rfl).post _ _ _ _

theorem TestsBut.toOpening (h : TestsBut s (some f)) (c : Cause) (timed : Bool) :
    TestsBut (s.toOpening f c timed) none := h.fctSet_out rfl rfl

theorem TestsBut.openWithoutTrip (h : TestsBut s (some f)) (c : Cause) : TestsBut (s.openWithoutTrip f c) none :=
  (h.sendOrder f _).toOpening c true

theorem TestsBut.blindOnEntry (h : TestsBut s none) (out : inTest s.fct[f].state = false) :
    TestsBut (s.blindOnEntry f) none := by
  unfold State.blindOnEntry
  split
  · exact (h.leave out).openWithoutTrip _
  · exact h

theorem fctEnter_state (s : State) (f : Feeder) (st : FeederState) (timer : Option Nat) :
    (s.fctEnter f st timer).fct[f].state = st := by
  rw [State.fctEnter, fctSet_self]; rfl

theorem TestsBut.toClosing (h : TestsBut s (some f)) : TestsBut (s.toClosing f) none :=
  ((h.sendOrder f _).fctEnter _ rfl).blindOnEntry (by rw [fctEnter_state]; rfl)

theorem TestsBut.enterService (h : TestsBut s (some f)) : TestsBut (s.enterService f) none := h.fctEnter _ rfl

theorem enterService_state (s : State) (f : Feeder) : (s.enterService f).fct[f].state = .service :=
  fctEnter_state s f _ _

theorem TestsBut.closedToService (h : TestsBut s (some f)) : TestsBut (s.closedToService f) none :=
  (h.enterService.post _ _ _ _).blindOnEntry
    (show inTest (s.enterService f).fct[f].state = false by rw [enterService_state]; rfl)

theorem TestsBut.toDeadTime (h : TestsBut s (some f)) (n : Nat) (c : Option Cause) :
    TestsBut (s.toDeadTime f n c) none := (h.fctSet_out rfl rfl).post _ _ _ _

theorem TestsBut.takeOutcome (h : TestsBut s (some f)) (o : TestOutcome) : TestsBut (s.takeOutcome f o) none := by
  unfold State.takeOutcome
  dsimp only
  split
  · exact h.toClosing
  · split
    · exact (h.fctEnter none rfl).post _ _ _ _
    · split
      · exact h.toDeadTime _ _
      · exact h.lockOut _

theorem TestsBut.outcomeTaken (h : TestsBut s (some f)) (o : TestOutcome) : TestsBut (s.outcomeTaken f o) none := by
  unfold State.outcomeTaken
  split
  · exact h.takeOutcome o
  · rename_i out
    exact h.arrive (by simpa using out)

end

/-! ### Slots -/

section
variable {s : State} {x : Option Feeder} {k : TestSlot} {f : Feeder}

/-- A slot goes on with the test or the release of its feeder. -/
theorem TestsBut.setTestSlot (h : TestsBut s x) {ph : TestPhase} (held : heldFeeder ph = heldFeeder s.ltu.slot[k])
    (slot : slotFeeder ph = slotFeeder s.ltu.slot[k]) : TestsBut (s.setTestSlot k ph) x := by
  refine h.congr rfl h.queuedOnce fun g => ⟨Iff.rfl, fun j => ?_, fun j => ?_, rfl, rfl⟩
  all_goals
    by_cases same : k = j
    · subst same; rw [setTestSlot_self]; simp only [held, slot]
    · rw [setTestSlot_ne s k j ph same]

theorem TestsBut.endTest (h : TestsBut s x) (testing : s.ltu.slot[k].testing = some f) (o : TestOutcome) :
    TestsBut (s.endTest k f o) x :=
  (h.setTestSlot (ph := .release f contactorTicks (some o)) (heldFeeder_of_testing testing).symm
    (slotFeeder_of_testing testing).symm).sendOrder f _

/-- The places of a feeder that slot k neither leaves nor takes. -/
theorem samePlace_setTestSlot {g : Feeder} {ph : TestPhase} (before : slotFeeder s.ltu.slot[k] ≠ some g)
    (after : slotFeeder ph ≠ some g) : SamePlace s (s.setTestSlot k ph) g := by
  refine ⟨Iff.rfl, fun j => ?_, fun j => ?_, rfl, rfl⟩
  · by_cases same : k = j
    · subst same
      rw [setTestSlot_self]
      exact ⟨fun held => absurd (slotFeeder_of_held held) after, fun held => absurd (slotFeeder_of_held held) before⟩
    · rw [setTestSlot_ne s k j ph same]
  · by_cases same : k = j
    · subst same
      rw [setTestSlot_self]
      exact ⟨fun slot => absurd slot after, fun slot => absurd slot before⟩
    · rw [setTestSlot_ne s k j ph same]

/-- A slot lets go of the feeder that it holds. -/
theorem TestsBut.letGo (h : TestsBut s none) (held : heldFeeder s.ltu.slot[k] = some f) {ph : TestPhase}
    (idle : heldFeeder ph = none) (own : slotFeeder ph = none ∨ slotFeeder ph = some f) :
    TestsBut (s.setTestSlot k ph) (some f) := by
  have agrees := h.agrees f nofun
  obtain ⟨testing, noOutcome⟩ := agrees.held k held
  have slot := slotFeeder_of_held held
  refine h.moving (x := none) (f := f) rfl h.queuedOnce (fun g other => ?_) ⟨?_, ?_, ?_, noOutcome⟩ (by simp)
  · refine samePlace_setTestSlot (by rw [slot]; simpa using other.symm) ?_
    rcases own with own | own <;> simp [own, other.symm]
  · intro queued
    rw [(agrees.queued queued).1] at testing
    cases testing
  · intro j
    by_cases same : k = j
    · subst same; rw [setTestSlot_self, idle]; nofun
    · rw [setTestSlot_ne s k j ph same]
      exact fun second => agrees.apart k j same slot (slotFeeder_of_held second)
  · intro i j other
    by_cases first : k = i
    · subst first
      rw [setTestSlot_ne s k j ph other]
      exact fun _ => agrees.apart k j other slot
    · rw [setTestSlot_ne s k i ph first]
      exact fun second => absurd second (agrees.apart k i first slot)

/-- A slot in RELEASE with none becomes FREE. -/
theorem TestsBut.freed (h : TestsBut s none) {n : Nat} (release : s.ltu.slot[k] = .release f n none) :
    TestsBut (s.setTestSlot k .free) none := by
  have idle : heldFeeder s.ltu.slot[k] = none := by rw [release]; rfl
  have agrees := h.agrees f nofun
  have slotNe {j : TestSlot} {g : Feeder} : slotFeeder (s.setTestSlot k .free).ltu.slot[j] = some g →
      j ≠ k ∧ slotFeeder s.ltu.slot[j] = some g := by
    by_cases same : k = j
    · subst same; rw [setTestSlot_self]; nofun
    · rw [setTestSlot_ne s k j _ same]; exact fun slot => ⟨Ne.symm same, slot⟩
  have held (j : TestSlot) : heldFeeder (s.setTestSlot k .free).ltu.slot[j] = heldFeeder s.ltu.slot[j] := by
    by_cases same : k = j
    · subst same; rw [setTestSlot_self, idle]; rfl
    · rw [setTestSlot_ne s k j _ same]
  refine h.moved (x := none) (f := f) rfl h.queuedOnce (fun g other => ?_) ?_ (by simp)
  · exact samePlace_setTestSlot (by rw [release]; simpa [slotFeeder] using other.symm) nofun
  · exact
      { queued := agrees.queued
        held := fun j => by rw [held]; exact agrees.held j
        released := fun j slot idle => agrees.released j (slotNe slot).2 (by rwa [held] at idle)
        apart := fun i j other one two => agrees.apart i j other (slotNe one).2 (slotNe two).2
        waiting := agrees.waiting
        testing := fun testing => by
          obtain ⟨j, hj⟩ := agrees.testing testing
          exact ⟨j, by rw [held]; exact hj⟩
        handed := agrees.handed }

end

/-! ### Both slots -/

theorem TestsBut.eachSlot {s : State} {x : Option Feeder} (h : TestsBut s x) {g : State → TestSlot → State}
    (keeps : ∀ (t : State) (k : TestSlot), TestsBut t x → TestsBut (g t k) x) : TestsBut (s.eachSlot g) x :=
  keeps _ 1 (keeps _ 0 h)

theorem TestsBut.foldl {α : Type} {s : State} {x : Option Feeder} (h : TestsBut s x) {g : State → α → State}
    (keeps : ∀ (t : State) (a : α), TestsBut t x → TestsBut (g t a) x) (l : List α) : TestsBut (l.foldl g s) x := by
  induction l generalizing s with
  | nil => exact h
  | cons a rest ih => exact ih (keeps s a h)

/-! ### The queue and the grant, R80 to R83 -/

theorem headClear_ownRelease {s : State} {f : Feeder} (clear : s.headClear f = true) (k : TestSlot) :
    s.ltu.slot[k].releasing ≠ some f := by
  simp only [State.headClear, State.ownRelease, Bool.and_eq_true, Bool.not_eq_true', Bool.or_eq_false_iff,
    beq_eq_false_iff_ne] at clear
  match k with
  | 0 => exact clear.2.1
  | 1 => exact clear.2.2

theorem freeSlot_free {s : State} {k : TestSlot} (free : s.freeSlot = some k) : s.ltu.slot[k] = .free := by
  unfold State.freeSlot at free
  split_ifs at free with zero one
  · cases free; exact zero
  · cases free; exact one

/-- A queued feeder whose head is clear is in no slot. -/
theorem Agrees.slot_of_clear {s : State} {f : Feeder} (h : Agrees s f) (queued : f ∈ s.ltu.queue)
    (clear : s.headClear f = true) (k : TestSlot) : slotFeeder s.ltu.slot[k] ≠ some f := by
  intro slot
  have idle : heldFeeder s.ltu.slot[k] ≠ some f := fun held => by
    have testing := (h.held k held).1
    rw [(h.queued queued).1] at testing
    cases testing
  obtain ⟨n, release⟩ := release_of_not_held slot idle
  exact headClear_ownRelease clear k (by rw [release]; rfl)

section
variable {s : State} {x : Option Feeder} {f : Feeder} {rest : List Feeder}

theorem mem_rest_iff {g : Feeder} (q : s.ltu.queue = f :: rest) (other : g ≠ f) :
    g ∈ rest ↔ g ∈ s.ltu.queue := by
  rw [q, List.mem_cons, or_iff_right other]

theorem TestsBut.not_moving_of_queued (h : TestsBut s x) (queued : f ∈ s.ltu.queue) : x ≠ some f :=
  fun moving => (h.placeless f moving).notQueued queued

/-- The head leaves the queue with the outcome of a dead bus. -/
theorem TestsBut.deadBus (h : TestsBut s x) (q : s.ltu.queue = f :: rest) (o : TestOutcome) :
    TestsBut ((s.setQueue rest).handOutcome f o) x := by
  have queued : f ∈ s.ltu.queue := by simp [q]
  have still := h.not_moving_of_queued queued
  have agrees := h.agrees f still
  obtain ⟨waits, noOutcome⟩ := agrees.queued queued
  obtain ⟨fresh, nodup⟩ := List.nodup_cons.1 (q ▸ h.queuedOnce)
  have noHeld (k : TestSlot) : heldFeeder s.ltu.slot[k] ≠ some f := fun held => by
    have testing := (agrees.held k held).1
    rw [waits] at testing
    cases testing
  have self : ((s.setQueue rest).handOutcome f o).fct[f] =
      { s.fct[f] with outcomeIn := s.fct[f].outcomeIn ++ [o] } :=
    modFct_self (s.setQueue rest) f fun c => { c with outcomeIn := c.outcomeIn ++ [o] }
  refine h.regained (f := f) rfl nodup (fun g other => ?_) ?_ still
  · have ne := modFct_ne (s.setQueue rest) f g (fun c => { c with outcomeIn := c.outcomeIn ++ [o] }) other.symm
    exact ⟨mem_rest_iff q other, fun _ => Iff.rfl, fun _ => Iff.rfl, congrArg Fct.state ne,
      congrArg Fct.outcomeIn ne⟩
  · exact
      { queued := fun again => absurd again fresh
        held := fun k held => absurd held (noHeld k)
        released := fun k _ _ => by rw [self]; exact ne_of_eq_of_ne waits (by decide)
        apart := agrees.apart
        waiting := fun _ => Or.inr (by rw [self]; simp)
        testing := fun testing => absurd testing (by rw [self]; exact ne_of_eq_of_ne waits (by decide))
        handed := fun _ => by rw [self]; exact ⟨waits, by rw [noOutcome]; rfl⟩ }

theorem TestsBut.grant (h : TestsBut s x) (q : s.ltu.queue = f :: rest) {k : TestSlot} (free : s.ltu.slot[k] = .free)
    (clear : s.headClear f = true) : TestsBut ((s.setQueue rest).grant k f) x := by
  have queued : f ∈ s.ltu.queue := by simp [q]
  have still := h.not_moving_of_queued queued
  have agrees := h.agrees f still
  obtain ⟨waits, noOutcome⟩ := agrees.queued queued
  obtain ⟨fresh, nodup⟩ := List.nodup_cons.1 (q ▸ h.queuedOnce)
  have noSlot := agrees.slot_of_clear queued clear
  have self : ((s.setQueue rest).grant k f).fct[f] = s.fct[f].enter .testing none :=
    modFct_self ((s.setQueue rest).setTestSlot k (.contact f contactorTicks)) f fun c => c.enter .testing none
  have slots (j : TestSlot) : ((s.setQueue rest).grant k f).ltu.slot[j] =
      ((s.setQueue rest).setTestSlot k (.contact f contactorTicks)).ltu.slot[j] := rfl
  have own : ((s.setQueue rest).grant k f).ltu.slot[k] = .contact f contactorTicks := by
    rw [slots, setTestSlot_self]
  have others {j : TestSlot} (other : k ≠ j) : ((s.setQueue rest).grant k f).ltu.slot[j] = s.ltu.slot[j] := by
    rw [slots, setTestSlot_ne _ k j _ other]; rfl
  have held (j : TestSlot) (slot : slotFeeder ((s.setQueue rest).grant k f).ltu.slot[j] = some f) : j = k := by
    by_contra other
    rw [others (Ne.symm other)] at slot
    exact noSlot j slot
  refine h.regained (f := f) rfl nodup (fun g other => ?_) ?_ still
  · have ne := modFct_ne ((s.setQueue rest).setTestSlot k (.contact f contactorTicks)) f g
      (fun c => c.enter .testing none) other.symm
    have place := samePlace_setTestSlot (s := s) (k := k) (g := g) (ph := .contact f contactorTicks)
      (by rw [free]; nofun) (by simpa [slotFeeder] using other.symm)
    exact ⟨mem_rest_iff q other, place.held, place.slot, congrArg Fct.state ne, congrArg Fct.outcomeIn ne⟩
  · exact
      { queued := fun again => absurd again fresh
        held := fun _ _ => by rw [self]; exact ⟨rfl, noOutcome⟩
        released := fun j slot idle => by
          obtain rfl := held j slot
          exact absurd (by rw [own]; rfl) idle
        apart := fun i j other one two => other ((held i one).trans (held j two).symm)
        waiting := fun waiting => by rw [self] at waiting; cases waiting
        testing := fun _ => ⟨k, by rw [own]; rfl⟩
        handed := fun handed => absurd (by rw [self]; exact noOutcome) handed }

end

theorem TestsBut.examine {x : Option Feeder} (n : Nat) {s : State} (h : TestsBut s x) : TestsBut (s.examine n) x := by
  induction n generalizing s with
  | zero => exact h
  | succ n ih =>
    unfold State.examine
    split
    · rename_i f rest k q free
      split
      · rename_i clear
        split
        · exact ih (h.deadBus q _)
        · exact ih (h.grant q (freeSlot_free free) clear)
      · exact h
    · exact h

theorem TestsBut.examineHead {s : State} {x : Option Feeder} (h : TestsBut s x) : TestsBut s.examineHead x :=
  h.examine 10

theorem TestsBut.examineFor {s : State} {x : Option Feeder} (h : TestsBut s x) (f : Feeder) :
    TestsBut (s.examineFor f) x := by
  unfold State.examineFor
  split
  · exact h.examineHead
  · exact h

/-- A moving feeder in TEST_WAIT joins the tail of the queue. -/
theorem TestsBut.enqueue {s : State} {f : Feeder} (h : TestsBut s (some f)) (waits : s.fct[f].state = .testWait) :
    TestsBut (s.enqueue f) none := by
  have away := h.placeless f rfl
  refine TestsBut.examineFor (s := s.setQueue (s.ltu.queue ++ [f])) ?_ f
  refine h.moved rfl ?_ (fun g other => ?_) ?_ fun _ => rfl
  · simpa using h.queuedOnce.concat away.notQueued
  · exact ⟨by simp [other], fun _ => Iff.rfl, fun _ => Iff.rfl, rfl, rfl⟩
  · exact
      { queued := fun _ => ⟨waits, away.noOutcome⟩
        held := fun k held => absurd held (away.notHeld k)
        released := fun _ _ _ => ne_of_eq_of_ne waits (by decide)
        apart := away.apart
        waiting := fun _ => Or.inl (by simp)
        testing := fun testing => absurd testing (ne_of_eq_of_ne waits (by decide))
        handed := fun handed => absurd away.noOutcome handed }

theorem TestsBut.toTestWait {s : State} {f : Feeder} (h : TestsBut s (some f)) (b : Bool) (n : Nat) :
    TestsBut (s.toTestWait f b n) none :=
  (h.fctSet_moving (g := fun c => { c.enter .testWait none with opClose := b, attempts := n }) id).enqueue
    (by rw [fctSet_self]; rfl)

end Sys2Proof.Machine
end

-- ==== Withdrawals, trips and the section coordinator keep the tests ====
section
/-!
A feeder leaves its place and its controller enters another state; every operation of the blocks that moves feeders
keeps the agreement of the tests.
-/

namespace Sys2Proof.Machine
open Sys2Proof

/-! ### Leaving a place, R92 and R93 -/

/-- The slot of a withdrawn feeder as the statements have it. -/
theorem withdrawn_eq (ph : TestPhase) (f : Feeder) : ph.withdrawn f = match ph with
    | .free => .free
    | .contact g n => if g = f then .release f 800 none else .contact g n
    | .settle g n => if g = f then .release f 800 none else .settle g n
    | .window g w n a b => if g = f then .release f 800 none else .window g w n a b
    | .release g n o => if g = f then .release f n none else .release g n o := by
  cases ph with
  | release g n o =>
    by_cases same : g = f
    · subst same; simp [TestPhase.withdrawn]
    · simp [TestPhase.withdrawn, same]
  | _ => simp [TestPhase.withdrawn, TestPhase.testing, contactorTicks]

theorem heldFeeder_withdrawn_self (ph : TestPhase) (f : Feeder) : heldFeeder (ph.withdrawn f) ≠ some f := by
  rw [withdrawn_eq]
  cases ph with
  | free => nofun
  | release g n o => cases o <;> dsimp only <;> split_ifs <;> simp_all [heldFeeder]
  | _ => dsimp only; split_ifs <;> simp_all [heldFeeder]

theorem slotFeeder_withdrawn (ph : TestPhase) (f : Feeder) : slotFeeder (ph.withdrawn f) = slotFeeder ph := by
  rw [withdrawn_eq]
  cases ph with
  | free => rfl
  | _ => dsimp only; split_ifs <;> simp_all [slotFeeder]

theorem withdrawn_of_ne {ph : TestPhase} {f : Feeder} (other : slotFeeder ph ≠ some f) : ph.withdrawn f = ph := by
  rw [withdrawn_eq]
  cases ph with
  | free => rfl
  | _ => exact if_neg (by simpa [slotFeeder] using other)

theorem leavePlace_slot (s : State) (f : Feeder) (k : TestSlot) :
    (s.leavePlace f).ltu.slot[k] = s.ltu.slot[k].withdrawn f := by
  match k with
  | 0 => simp [State.leavePlace, State.eachSlot]; rfl
  | 1 => simp [State.leavePlace, State.eachSlot]; rfl

theorem leavePlace_eq (s : State) (f : Feeder) : s.leavePlace f = { s with
    fct := s.fct.set f { s.fct[f] with outcomeIn := [] }
    ltu := { queue := s.ltu.queue.filter (· != f), slot := (s.leavePlace f).ltu.slot } } := rfl

theorem leavePlace_fct_self (s : State) (f : Feeder) :
    (s.leavePlace f).fct[f] = { s.fct[f] with outcomeIn := [] } := modFct_self
      ((s.dequeue f).eachSlot fun s k => s.setTestSlot k (s.ltu.slot[k].withdrawn f)) f fun c =>
    { c with outcomeIn := [] }

theorem leavePlace_fct_ne (s : State) {f g : Feeder} (other : g ≠ f) : (s.leavePlace f).fct[g] = s.fct[g] :=
  modFct_ne ((s.dequeue f).eachSlot fun s k => s.setTestSlot k (s.ltu.slot[k].withdrawn f)) f g
    (fun c => { c with outcomeIn := [] }) other.symm

theorem heldFeeder_withdrawn_ne {ph : TestPhase} {f g : Feeder} (other : g ≠ f) :
    heldFeeder (ph.withdrawn f) = some g ↔ heldFeeder ph = some g := by
  by_cases own : slotFeeder ph = some f
  · have before : heldFeeder ph ≠ some g := fun held =>
      other (Option.some.inj ((slotFeeder_of_held held).symm.trans own))
    have after : heldFeeder (ph.withdrawn f) ≠ some g := fun held =>
      other (Option.some.inj ((slotFeeder_of_held held).symm.trans ((slotFeeder_withdrawn ph f).trans own)))
    exact iff_of_false after before
  · rw [withdrawn_of_ne own]

theorem TestsBut.leavePlace {s : State} (h : TestsBut s none) (f : Feeder) : TestsBut (s.leavePlace f) (some f) := by
  refine h.moving (x := none) rfl ?_ (fun g other => ?_) ?_ (by simp)
  · exact h.queuedOnce.filter _
  · refine ⟨?_, fun k => ?_, fun k => ?_, ?_, ?_⟩
    · show g ∈ s.ltu.queue.filter (· != f) ↔ _
      simp [other]
    · rw [leavePlace_slot, heldFeeder_withdrawn_ne other]
    · rw [leavePlace_slot, slotFeeder_withdrawn]
    · rw [leavePlace_fct_ne s other]
    · rw [leavePlace_fct_ne s other]
  · refine ⟨?_, fun k => ?_, fun j k other => ?_, ?_⟩
    · show f ∉ s.ltu.queue.filter (· != f)
      simp
    · rw [leavePlace_slot]; exact heldFeeder_withdrawn_self _ f
    · rw [leavePlace_slot, leavePlace_slot, slotFeeder_withdrawn, slotFeeder_withdrawn]
      exact (h.agrees f nofun).apart j k other
    · rw [leavePlace_fct_self]

section
variable {s : State} {f : Feeder}

theorem TestsBut.examineAfter {x : Option Feeder} (h : TestsBut s x) (before : State) (f : Feeder) :
    TestsBut (s.examineAfter before f) x := by
  unfold State.examineAfter
  split
  · exact h.examineHead
  · exact h

theorem TestsBut.ltuWithdraw (h : TestsBut s none) (f : Feeder) : TestsBut (s.ltuWithdraw f) (some f) :=
  (h.leavePlace f).examineAfter s f

/-- A pending feeder leaves its test; one that is not in test has no place to leave. -/
theorem TestsBut.withdrawPending (h : TestsBut s none) (f : Feeder) : TestsBut (s.withdrawPending f) (some f) := by
  unfold State.withdrawPending
  split
  · exact h.ltuWithdraw f
  · exact (h.sendOrder f _).ltuWithdraw f
  · rename_i notWait notTesting
    exact h.leave (by simpa [inTest] using ⟨notWait, notTesting⟩)

theorem TestsBut.ltuUnsupervised (h : TestsBut s none) (f : Feeder) : TestsBut (s.ltuUnsupervised f) (some f) := by
  unfold State.ltuUnsupervised
  dsimp only
  split
  · exact ((h.leavePlace f).sendOrder f _).post _ _ _ _
  · exact (h.leavePlace f).post _ _ _ _

/-! ### The end of a release and the test contactor -/

theorem TestsBut.releaseEnds (h : TestsBut s none) {k : TestSlot} {n : Nat} {o p : Option TestOutcome}
    (release : s.ltu.slot[k] = .release f n o) (pending : p.isSome = o.isSome) :
    TestsBut (s.releaseEnds k f p) none := by
  unfold State.releaseEnds
  refine TestsBut.examineHead ?_
  cases o with
  | none =>
    obtain rfl : p = none := by simpa using pending
    exact h.freed release
  | some o =>
    obtain ⟨q, rfl⟩ := Option.isSome_iff_exists.1 pending
    exact ((h.letGo (k := k) (by rw [release]; rfl) rfl (Or.inl rfl)).post _ _ _ _).outcomeTaken q

theorem TestsBut.ltuContactor (h : TestsBut s none) (before : Vector TestPhase 2) (f : Feeder) (on : Bool) :
    TestsBut (s.ltuContactor before f on) none := by
  refine h.eachSlot fun t k ht => ?_
  split
  · rename_i g n slot
    split
    · rename_i own
      exact ht.setTestSlot (by rw [slot, own.1]; rfl) (by rw [slot, own.1]; rfl)
    · exact ht
  · rename_i g n slot
    split
    · rename_i own
      exact ht.endTest (by rw [slot, own.1]; rfl) _
    · exact ht
  · rename_i g w n a b slot
    split
    · rename_i own
      exact ht.endTest (by rw [slot, own.1]; rfl) _
    · exact ht
  · rename_i g n p slot
    split
    · rename_i own
      exact ht.releaseEnds (own.1 ▸ slot) rfl
    · exact ht
  · exact ht

theorem TestsBut.ltuLine (h : TestsBut s none) (f : Feeder) (v : Int) : TestsBut (s.ltuLine f v) none := by
  refine h.eachSlot fun t k ht => ?_
  split
  · rename_i g w n a b slot
    split
    · rename_i own
      have testing : t.ltu.slot[k].testing = some f := by rw [slot, own]; rfl
      split
      · exact ht.endTest testing _
      · dsimp only
        split
        · exact ht.setTestSlot (by rw [slot, own]; rfl) (by rw [slot, own]; rfl)
        · exact ht.endTest testing _
    · exact ht
  · exact ht

theorem TestsBut.ltuLoss (h : TestsBut s none) (uses : Feeder → Bool) : TestsBut (s.ltuLoss uses) none := by
  refine h.eachSlot fun t k ht => ?_
  split
  · split
    · rename_i testing _
      exact ht.endTest testing _
    · exact ht
  · exact ht

theorem TestsBut.ltuYield (h : TestsBut s none) (f : Feeder) : TestsBut (s.ltuYield f) none := by
  unfold State.ltuYield
  split
  · refine h.eachSlot fun t k ht => ?_
    split
    · rename_i testing
      have away := ht.letGo (k := k) (heldFeeder_of_testing testing) (ph := .release f contactorTicks none) rfl
        (Or.inr rfl)
      exact ((away.sendOrder f _).fctSet_moving (g := fun c => c.enter .testWait none) id).enqueue
        (fctEnter_state _ f .testWait none) |>.post _ _ _ _
    · exact ht
  · exact h

theorem TestsBut.ltuSection (h : TestsBut s none) (f : Feeder) : TestsBut (s.ltuSection f) none :=
  (h.ltuYield f).examineFor f

/-! ### Dead time, follow, breaker status -/

theorem TestsBut.examineHolds (h : TestsBut s none) (f : Feeder) : TestsBut (s.examineHolds f) none := by
  unfold State.examineHolds
  split
  · rename_i due
    simp only [Fct.awaitsHolds, Bool.and_eq_true, beq_iff_eq] at due
    have moving := h.leave (f := f) (by rw [due.1.1.1]; rfl)
    split
    · exact moving.toClosing
    · exact moving.toTestWait _ _
  · exact h

theorem TestsBut.examineFollow (h : TestsBut s none) (f : Feeder) : TestsBut (s.examineFollow f) none := by
  unfold State.examineFollow
  split
  · rename_i due
    simp only [Bool.and_eq_true, beq_iff_eq] at due
    exact (h.leave (by rw [due.1.1.1.1]; rfl)).toClosing
  · exact h

theorem TestsBut.fctSection (h : TestsBut s none) (f : Feeder) : TestsBut (s.fctSection f) none := by
  unfold State.fctSection
  split
  · rename_i follow
    exact (h.leave (by rw [follow.1]; rfl)).lockOut _
  · exact h.examineFollow f

theorem TestsBut.takeTtFail (h : TestsBut s none) (f : Feeder) : TestsBut (s.takeTtFail f) none := by
  unfold State.takeTtFail
  dsimp only
  split
  · exact h.modFct f fun _ => ⟨rfl, rfl⟩
  · split
    · exact (h.withdrawPending f).lockOut _
    · exact h

theorem TestsBut.fctLoss (h : TestsBut s none) (f : Feeder) : TestsBut (s.fctLoss f) none := by
  unfold State.fctLoss
  dsimp only
  split
  · exact h
  · split
    · rename_i closed
      refine (h.leave ?_).openWithoutTrip _
      rcases closed with closed | closed <;> rw [closed] <;> rfl
    · split
      · exact (h.withdrawPending f).lockOut _
      · exact h

/-! ### Openings and trips -/

theorem TestsBut.dropPhaseBack {x : Option Feeder} (h : TestsBut s x) (f : Feeder) :
    TestsBut (s.dropPhaseBack f) x := by
  unfold State.dropPhaseBack
  split
  · exact (h.modFct (g := fun c => { c with pbRaised := false }) f fun _ => ⟨rfl, rfl⟩).phaseBackWithdraw f
  · exact h

theorem TestsBut.takeDecision (h : TestsBut s (some f)) (c : Option Cause) (d : Decision) :
    TestsBut (s.takeDecision f c d) none := by
  unfold State.takeDecision
  split
  · exact h.lockOut _
  · exact h.fctOut
  · exact h.fctEnter _ rfl
  · exact h.toDeadTime _ _

theorem TestsBut.openingCompletes (h : TestsBut s (some f)) : TestsBut (s.openingCompletes f) none :=
  have stopped : TestsBut (s.modFct f fun c => { c with timer := none }) (some f) := h.modFct f fun _ => ⟨rfl, rfl⟩
  ((stopped.dropPhaseBack f).post _ _ _ _).takeDecision _ _

theorem TestsBut.tripHands {x : Option Feeder} (h : TestsBut s x) (f : Feeder) (c : Cause)
    (r : Option OperateReport) : TestsBut (s.tripHands f c r) x := by
  unfold State.tripHands
  dsimp only
  split
  · exact (((h.sendOrder f _).tripNotice f c r).post _ _ _ _).trigger _ _
  · exact ((h.sendOrder f _).tripNotice f c r).post _ _ _ _

theorem TestsBut.tripRequests {x : Option Feeder} (h : TestsBut s x) (f : Feeder) (r : Option OperateReport) :
    TestsBut (s.tripRequests f r) x := by
  unfold State.tripRequests
  cases r with
  | none => exact h
  | some r =>
    have asked : TestsBut (if r.phaseBack then
        (s.modFct f fun c => { c with pbRaised := true }).phaseBackRequest f else s) x := by
      split
      · exact (h.modFct (g := fun c => { c with pbRaised := true }) f fun _ => ⟨rfl, rfl⟩).phaseBackRequest f
      · exact h
    dsimp only
    split
    · exact asked.ttRequest f _
    · exact asked

theorem toOpening_state (s : State) (f : Feeder) (c : Cause) (timed : Bool) :
    (s.toOpening f c timed).fct[f].state = .opening := by
  rw [State.toOpening, fctSet_self]; rfl

/-- What the hands of a trip leave of its feeder's state. -/
theorem tripHands_fct (s : State) (f : Feeder) (c : Cause) (r : Option OperateReport) :
    (s.tripHands f c r).fct = s.fct := by
  unfold State.tripHands State.trigger
  dsimp only
  split
  · split <;> rfl
  · rfl

theorem phaseBackRequest_fct (s : State) (f : Feeder) : (s.phaseBackRequest f).fct = s.fct := by
  unfold State.phaseBackRequest State.toPhaseBack
  split <;> rfl

theorem ttRequest_state (s : State) (f g : Feeder) (b : Bool) : (s.ttRequest f b).fct[g].state = s.fct[g].state := by
  unfold State.ttRequest
  dsimp only
  split
  · rfl
  · split
    · split
      · by_cases same : f = g
        · subst same; rw [modFct_self]; rfl
        · rw [modFct_ne _ f g _ same]; rfl
      · rfl
    · split <;> rfl

theorem tripRequests_state (s : State) (f : Feeder) (r : Option OperateReport) :
    (s.tripRequests f r).fct[f].state = s.fct[f].state := by
  unfold State.tripRequests
  cases r with
  | none => rfl
  | some r =>
    have asked : (if r.phaseBack then
        (s.modFct f fun c => { c with pbRaised := true }).phaseBackRequest f else s).fct[f].state =
          s.fct[f].state := by
      split
      · exact (congrArg (fun v : Vector Fct 10 => v[f].state) (phaseBackRequest_fct _ f)).trans
          (by rw [modFct_self])
      · rfl
    dsimp only
    split
    · rw [ttRequest_state, asked]
    · exact asked

theorem TestsBut.trip (h : TestsBut s none) (f : Feeder) (c : Cause) (r : Option OperateReport)
    (tripped : s.fct[f].state ≠ .testWait) : TestsBut (s.trip f c r) none := by
  unfold State.trip
  dsimp only
  have hands := h.tripHands f c r
  split
  · exact hands
  · have asked := hands.tripRequests f r
    have withdrawn : TestsBut (if s.fct[f].state = .testing then
        ((s.tripHands f c r).tripRequests f r).ltuWithdraw f else (s.tripHands f c r).tripRequests f r) (some f) := by
      split
      · exact asked.ltuWithdraw f
      · rename_i notTesting
        refine asked.leave ?_
        rw [tripRequests_state, tripHands_fct]
        simpa [inTest] using ⟨tripped, notTesting⟩
    have opening := withdrawn.toOpening c
    split
    · exact ((opening _).leave (by rw [toOpening_state]; rfl)).openingCompletes
    · exact opening _

theorem TestsBut.takeOperate (h : TestsBut s none) (f : Feeder) (r : OperateReport) :
    TestsBut (s.takeOperate f r) none := by
  unfold State.takeOperate
  dsimp only
  split
  · rename_i taken
    refine h.trip f _ _ fun waits => ?_
    rw [waits] at taken
    exact absurd taken (by simp [tripsFreely])
  · exact h

theorem TestsBut.takeTransfer (h : TestsBut s none) (f : Feeder) : TestsBut (s.takeTransfer f) none := by
  unfold State.takeTransfer
  split
  · rename_i taken
    refine h.trip f _ _ fun waits => ?_
    rw [waits] at taken
    exact absurd taken (by decide)
  · exact h

theorem TestsBut.stationNotice (h : TestsBut s none) (f : Feeder) : TestsBut (s.stationNotice f) none := by
  unfold State.stationNotice
  dsimp only
  split
  · rename_i taken
    refine h.trip f _ _ fun waits => ?_
    rw [waits] at taken
    exact absurd taken (by decide)
  · split
    · have caused : TestsBut (s.modFct f fun c => { c with openingCause := some .station }) none :=
        h.modFct f fun _ => ⟨rfl, rfl⟩
      exact caused.tripNotice f _ _
    · split
      · exact (h.withdrawPending f).lockOut _
      · split
        · exact h.sendOrder f _
        · exact h

theorem TestsBut.stationNotices (h : TestsBut s none) : TestsBut s.stationNotices none :=
  h.foldl (fun t f ht => by
    split
    · exact ht.stationNotice f
    · exact ht) allFeeders

theorem TestsBut.fctPosition (h : TestsBut s none) (f : Feeder) (p : Position) : TestsBut (s.fctPosition f p) none := by
  have leave {st : FeederState} (state : s.fct[f].state = st) (out : inTest st = false) : TestsBut s (some f) :=
    h.leave (by rw [state]; exact out)
  have cleared {x : Option Feeder} (h : TestsBut s x) : TestsBut (s.modFct f fun c => { c with attempts := 0 }) x :=
    h.modFct f fun _ => ⟨rfl, rfl⟩
  unfold State.fctPosition
  split
  case h_1 state =>
    exact (cleared (leave state rfl)).enterService.blindOnEntry (by rw [enterService_state]; rfl)
  case h_2 state => exact (leave state rfl).fctEnter _ rfl
  case h_3 state => exact (cleared (leave state rfl)).closedToService
  case h_4 => exact (h.withdrawPending f).closedToService
  case h_5 => exact (h.withdrawPending f).closedToService
  case h_6 state => exact (leave state rfl).closedToService
  case h_7 state => exact ((leave state rfl).fctOut).post _ _ _ _
  case h_8 state => exact (leave state rfl).openingCompletes
  case h_9 state => exact (leave state rfl).closedToService
  case h_10 => exact h.examineHolds f
  case h_11 state => exact (leave state rfl).closedToService
  case h_12 => exact h.examineFollow f
  case h_13 => exact h

theorem TestsBut.fctReport (h : TestsBut s none) (f : Feeder) (st : BreakerStatus) :
    TestsBut (s.fctReport f st) none := by
  have kept : TestsBut (s.modFct f fun c =>
      { c with status := some st, supervised := true, supTimer := some halfSecond }) none :=
    h.modFct f fun _ => ⟨rfl, rfl⟩
  exact kept.fctPosition f st.position

theorem TestsBut.breakerReport (h : TestsBut s none) (f : Feeder) (st : BreakerStatus) :
    TestsBut (s.breakerReport f st) none :=
  ((h.fctReport f st).ltuContactor s.ltu.slot f st.contactor).examineFor f

theorem TestsBut.feederOpens (h : TestsBut s none) (f : Feeder) : TestsBut (s.feederOpens f) none := by
  have opens {st : FeederState} (state : s.fct[f].state = st) (out : inTest st = false) :
      TestsBut (s.openWithoutTrip f .command) none := (h.leave (by rw [state]; exact out)).openWithoutTrip _
  unfold State.feederOpens
  dsimp only
  split
  case h_1 state | h_2 state | h_3 state => exact opens state rfl
  case h_4 | h_5 | h_6 | h_7 => exact (h.withdrawPending f).fctOut
  case h_8 => exact h.modFct f fun _ => ⟨rfl, rfl⟩
  case h_9 => exact h
  case h_10 =>
    split
    · exact h.sendOrder f _
    · exact h

/-! ### The section coordinator and the station trip logic -/

theorem TestsBut.clearHandshake (h : TestsBut s none) (f : Feeder) (c : Cause) :
    TestsBut (s.clearHandshake f c) none := by
  unfold State.clearHandshake
  dsimp only
  split
  · exact ((h.post _ _ _ _).takeTtFail f).modHs f _
  · exact h.modHs f _

theorem TestsBut.reportSection (h : TestsBut s none) (b : State) (f : Feeder) :
    TestsBut (s.reportSection b f) none := by
  unfold State.reportSection
  split
  · exact (h.fctSection f).ltuSection f
  · exact h

theorem TestsBut.reevaluate {x : Option Feeder} (h : TestsBut s x) (f : Feeder) : TestsBut (s.reevaluate f) x := by
  unfold State.reevaluate
  dsimp only
  split <;> exact h.elsewhere rfl rfl rfl

theorem TestsBut.takeStanding {x : Option Feeder} (h : TestsBut s x) (f : Feeder) (e : SectionEntry) :
    TestsBut (s.takeStanding f e) x := by
  unfold State.takeStanding
  dsimp only
  split <;> exact h.elsewhere rfl rfl rfl

theorem TestsBut.takeFarAck {x : Option Feeder} (h : TestsBut s x) (f : Feeder) (b : Bool) :
    TestsBut (s.takeFarAck f b) x := by
  unfold State.takeFarAck
  dsimp only
  split <;> exact h.elsewhere rfl rfl rfl

theorem TestsBut.takeFarReq (h : TestsBut s none) (f : Feeder) (b : Bool) : TestsBut (s.takeFarReq f b) none := by
  unfold State.takeFarReq
  dsimp only
  split
  · split
    · exact h
    · split
      · exact (((h.modHs f _).post _ _ _ _).takeTransfer f).trigger _ _
      · exact h.modHs f _
  · exact h.modHs f _

theorem TestsBut.advance (h : TestsBut s none) (b : State) (f : Feeder) : TestsBut (s.advance b f) none := by
  unfold State.advance
  split
  · exact h
  · split
    · exact h.takeStanding f _
    · exact (h.takeFarAck f _).takeFarReq f _

theorem TestsBut.clearUnlisted (h : TestsBut s none) (b : State) (f : Feeder) :
    TestsBut (s.clearUnlisted b f) none := by
  unfold State.clearUnlisted
  split
  · exact h.clearHandshake f _
  · exact h

theorem TestsBut.eachOnSlot (h : TestsBut s none) (n : Slot) {g : State → Feeder → State}
    (keeps : ∀ (t : State) (f : Feeder), TestsBut t none → TestsBut (g t f) none) :
    TestsBut (s.eachOnSlot n g) none := h.foldl keeps _

theorem TestsBut.stationReport {x : Option Feeder} (h : TestsBut s x) (c : Cause) (v : Option Int) :
    TestsBut (s.stationReport c v) x := (h.post _ _ _ _).trigger _ _

theorem TestsBut.stationRequests {x : Option Feeder} (h : TestsBut s x) : TestsBut s.stationRequests x :=
  h.foldl (fun t f ht => by
    split
    · exact ht.ttRequest f _
    · exact ht) allFeeders

theorem TestsBut.stationTrip (h : TestsBut s none) (c : Cause) (v : Int) : TestsBut (s.stationTrip c v) none := by
  have locked : TestsBut (s.setLockout true) none := h.elsewhere rfl rfl rfl
  exact (locked.stationBlock.stationNotices.stationRequests).stationReport c _

theorem TestsBut.emergency (h : TestsBut s none) : TestsBut s.emergency none :=
  (h.rectStop.stationNotices).stationReport _ _

theorem TestsBut.leakDeliver (h : TestsBut s none) (v : Int) (k : Nat) (d : Bool) :
    TestsBut (s.leakDeliver v k d) none := by
  have stepped (l : Leakage) : TestsBut { s with stl := { s.stl with leakage := l } } none := h.stl _
  unfold State.leakDeliver
  generalize leakageStep s.stl.leakage _ _ _ = r
  dsimp only
  split
  · exact (stepped _).stationTrip _ _
  · exact stepped _

theorem TestsBut.fpuDeliver (h : TestsBut s none) (f : Feeder) (v : Int) (k : Nat) (d : Bool) :
    TestsBut (s.fpuDeliver f v k d) none := by
  have modified (p : Fpu) : TestsBut (s.modFpu f fun _ => p) none := h.elsewhere rfl rfl rfl
  unfold State.fpuDeliver
  dsimp only
  split
  · exact (modified _).modFct f fun _ => ⟨rfl, rfl⟩
  · exact h

theorem TestsBut.overcurrent (h : TestsBut s none) (v : Int) (d : Bool) : TestsBut (s.overcurrent v d) none := by
  have counted (n : Nat) : TestsBut { s with rcu := { s.rcu with ocRun := n } } none := h.rcu _
  unfold State.overcurrent
  split
  · generalize (if (s.tables.station.iRectTrip : Int) ≤ v then (if d then 0 else s.rcu.ocRun) + 1 else 0) = run
    dsimp only
    split
    · exact (counted 0).rectEnter _ _ _
    · exact counted run
  · exact h

theorem TestsBut.deliver (h : TestsBut s none) (p : Point) (v : Int) (k : Nat) (d : Bool) :
    TestsBut (s.deliver p v k d) none := by
  unfold State.deliver
  split
  · exact (h.fpuDeliver _ _ _ _).examineHolds _
  · exact (h.examineFollow _).ltuLine _ _
  · exact h.examineHead
  · exact h.overcurrent _ _
  · exact h
  · exact h.leakDeliver _ _ _

theorem TestsBut.lossNotice (h : TestsBut s none) (p : Point) : TestsBut (s.lossNotice p) none := by
  unfold State.lossNotice
  split
  · rename_i f _
    refine TestsBut.fctLoss ?_ f
    unfold State.fpuLoss
    split
    · exact h.elsewhere rfl rfl rfl
    · exact h
  · exact h.ltuLoss _
  · exact h.ltuLoss _
  · exact h.rcu _
  · exact h
  · exact h.stl _

end

end Sys2Proof.Machine
end

-- ==== The invariant, block by block ====
section
/-!
The invariant is the forms of the queues, buffers and flags and the agreement of the tests. Each operation keeps both;
a request that is being served counts as one that still waits, so that a place stands for its response.
-/

namespace Sys2Proof.Machine
open Sys2Proof

/-- The invariant but for the tests, with `n` requests taken from the list and not yet answered. -/
structure Forms (s : State) (n : Nat) : Prop where
  events : EventQueueOk s.evr
  orders : OrderQueueOk s.rif
  links : LinkQueueOk s.rif
  reports : ReportQueueOk s.rif
  transit : TransitOk s.rif
  requests : s.mga.requests.length + n ≤ s.rif.held
  recorder : RecorderOk s.drc
  handshakes : ∀ f : Feeder, HandshakeOk s.sco.sect[f].hs
  phaseBack : PhaseBackOk s.rcu

/-- The invariant of a running part, with `n` requests taken from the list and not yet answered. -/
structure Sound (s : State) (n : Nat) : Prop where
  forms : Forms s n
  tests : TestsBut s none

theorem Inv.forms {s : State} (h : Inv s) : Forms s 0 where
  events := h.events
  orders := h.orders
  links := h.links
  reports := h.reports
  transit := h.transit
  requests := h.requests
  recorder := h.recorder
  handshakes := h.handshakes
  phaseBack := h.phaseBack

theorem Forms.inv {s : State} (h : Forms s 0) (tests : TestsOk s) : Inv s where
  events := h.events
  orders := h.orders
  links := h.links
  reports := h.reports
  transit := h.transit
  requests := h.requests
  recorder := h.recorder
  handshakes := h.handshakes
  phaseBack := h.phaseBack
  tests := tests

theorem Sound.inv {s : State} (h : Sound s 0) : Inv s := h.forms.inv h.tests.ok

theorem Inv.sound {s : State} (h : Inv s) (running : s.phase = .running) : Sound s 0 :=
  ⟨h.forms, h.tests.testsBut running⟩

section
variable {s t : State} {n : Nat}

/-- The blocks' own work keeps the forms. -/
theorem Forms.calm (h : Forms s n) (calm : Calm s t) : Forms t n where
  events := calm.events h.events
  orders := calm.orders h.orders
  links := by rw [calm.rif]; exact h.links
  reports := calm.reports h.reports
  transit := by rw [calm.rif]; exact h.transit
  requests := by rw [calm.rif, calm.mga]; exact h.requests
  recorder := calm.recorder h.recorder
  handshakes := calm.handshakes h.handshakes
  phaseBack := calm.phaseBack h.phaseBack

theorem Forms.changing {g : State → State} (h : Forms (g s) n) : Forms (s.changing g) n :=
  h.calm (calm_noteChange (g s) s.summary)

theorem TestsBut.changing {x : Option Feeder} {g : State → State} (h : TestsBut (g s) x) :
    TestsBut (s.changing g) x := h.elsewhere rfl rfl rfl

theorem Sound.act (h : Sound s n) (calm : Calm s t) (tests : TestsBut t none) : Sound t n :=
  ⟨h.forms.calm calm, tests⟩

theorem Sound.changing {g : State → State} (h : Sound (g s) n) : Sound (s.changing g) n :=
  ⟨h.forms.changing, h.tests.changing⟩

theorem Sound.running (h : Sound s n) : s.phase = .running := h.tests.running

theorem Sound.foldl {α : Type} (h : Sound s n) {g : State → α → State}
    (keeps : ∀ (t : State) (a : α), Sound t n → Sound (g t a) n) (l : List α) : Sound (l.foldl g s) n := by
  induction l generalizing s with
  | nil => exact h
  | cons a rest ih => exact ih (keeps s a h)

theorem Sound.post (h : Sound s n) (k : EventKind) (x : Subject) (c : Option Cause) (v : Option Int) :
    Sound (s.post k x c v) n := h.act (calm_post s k x c v) (h.tests.post k x c v)

theorem Sound.modFct (h : Sound s n) (f : Feeder) {g : Fct → Fct}
    (keeps : ∀ c, (g c).state = c.state ∧ (g c).outcomeIn = c.outcomeIn) : Sound (s.modFct f g) n :=
  ⟨{ h.forms with }, h.tests.modFct f keeps⟩

theorem Sound.clock (h : Sound s n) (x : Clock) : Sound { s with clock := x } n :=
  ⟨{ h.forms with }, h.tests.elsewhere rfl rfl rfl⟩

theorem Sound.smp (h : Sound s n) (x : Smp) : Sound { s with smp := x } n :=
  ⟨{ h.forms with }, h.tests.elsewhere rfl rfl rfl⟩

theorem Sound.tables (h : Sound s n) (x : Tables) : Sound { s with tables := x } n :=
  ⟨{ h.forms with }, h.tests.elsewhere rfl rfl rfl⟩

theorem Sound.rcu (h : Sound s n) (x : Rcu) (form : PhaseBackOk x) : Sound { s with rcu := x } n :=
  ⟨{ h.forms with phaseBack := form }, h.tests.rcu x⟩

theorem Sound.drc (h : Sound s n) (x : Drc) (form : RecorderOk x) : Sound { s with drc := x } n :=
  ⟨{ h.forms with recorder := form }, h.tests.elsewhere rfl rfl rfl⟩

theorem Sound.mga (h : Sound s n) (x : Mga) (same : x.requests = s.mga.requests) : Sound { s with mga := x } n :=
  ⟨{ h.forms with requests := by rw [show ({ s with mga := x } : State).mga.requests = s.mga.requests from same]
                                 exact h.forms.requests }, h.tests.elsewhere rfl rfl rfl⟩

theorem Sound.stl (h : Sound s n) (x : Stl) : Sound { s with stl := x } n :=
  h.act (calm_stl s x) (h.tests.stl x)

theorem Sound.rectEnter (h : Sound s n) (st : RectState) (c : Option Cause) (t : Option Nat)
    (other : st ≠ .phaseBack) : Sound (s.rectEnter st c t) n :=
  h.act (calm_rectEnter s st c t other) (h.tests.rectEnter st c t)

/-- Work that begins with a rectifier out of form and ends with one in form. -/
theorem Forms.reopened (h : Forms s n) {r : Rcu} (calm : Calm { s with rcu := r } t) (form : PhaseBackOk t.rcu) :
    Forms t n where
  events := calm.events h.events
  orders := calm.orders h.orders
  links := by rw [calm.rif]; exact h.links
  reports := calm.reports h.reports
  transit := by rw [calm.rif]; exact h.transit
  requests := by rw [calm.rif, calm.mga]; exact h.requests
  recorder := calm.recorder h.recorder
  handshakes := calm.handshakes h.handshakes
  phaseBack := form

/-! ### Requests and responses -/

theorem Sound.pop (h : Sound s 0) {r : Request} {rest : List Request} (waits : s.mga.requests = r :: rest) :
    Sound s.popRequest 1 := by
  have places := h.forms.requests
  rw [waits] at places
  have fewer : s.popRequest.mga.requests = rest := by simp [State.popRequest, waits]
  exact ⟨{ h.forms with requests := by rw [fewer]; exact places }, h.tests.elsewhere rfl rfl rfl⟩

theorem Sound.respond (h : Sound s 1) (r : Request) (st : Status) (data : List Byte) :
    Sound (s.respond r st data) 0 := by
  have places := h.forms.requests
  have forms : Forms (s.respond r st data) 0 :=
    { h.forms with
      reports := putResponse_ok _ _ h.forms.reports (Nat.lt_of_lt_of_le (Nat.succ_pos _) places)
      requests := show s.mga.requests.length + 0 ≤ s.rif.held - 1 by omega }
  exact ⟨forms, h.tests.elsewhere rfl rfl rfl⟩

theorem Sound.servePlain (h : Sound s 1) (r : Request) : Sound (s.servePlain r) 0 := by
  unfold State.servePlain
  split
  · exact h.respond _ _ _
  · split <;> exact h.respond _ _ _

theorem Sound.servePlains (h : Sound s 0) (bound : Nat) : Sound (State.servePlains bound s) 0 := by
  induction bound generalizing s with
  | zero => exact h
  | succ bound ih =>
    rw [State.servePlains]
    split
    · rename_i r rest waits
      split
      · exact h
      · exact ih ((h.pop waits).servePlain r)
    · exact h

theorem Sound.settle (h : Sound s 0) : Sound s.settle 0 := h.servePlains 7

/-- A service that keeps the part in form, its request taken from the list. -/
theorem Sound.serve (h : Sound s 0) (op : Nat) (objs : List Nat) {act : State → Request → Service}
    (keeps : ∀ (t : State) (r : Request), Sound t 1 → Sound (act t r).after 1) : Sound (s.serve op objs act) 0 := by
  unfold State.serve
  split
  · exact h
  · rename_i r rest waits
    have popped := h.pop waits
    split
    · split
      · exact (popped.respond _ _ _).settle
      · exact ((keeps _ r popped).respond _ _ _).settle
    · exact h

theorem Sound.checked (h : Sound s n) (refusal : Option Status) (accepted : refusal = none → Sound t n) :
    Sound (Service.checked s refusal t).after n := by
  cases refusal with
  | some st => exact h
  | none => exact accepted rfl

theorem Sound.written (h : Sound s n) (r : Request) (refusal : Option Status) (accepted : refusal = none → Sound t n) :
    Sound (s.written r refusal t).after n :=
  h.checked refusal fun passes => (accepted passes).post _ _ _ _

theorem Sound.onFeeder (h : Sound s n) (r : Request) {act : Feeder → Service}
    (keeps : ∀ f, Sound (act f).after n) : Sound (s.onFeeder r act).after n := by
  unfold State.onFeeder
  split
  · exact keeps _
  · exact h

theorem Sound.notify (h : Sound s n) (due : Bool) : Sound (s.notify due) n :=
  h.act (calm_notify s due) (h.tests.elsewhere rfl rfl rfl)

theorem Sound.forgetNotice (h : Sound s n) : Sound { s with evr := { s.evr with notice := none } } n :=
  ⟨{ h.forms with events := h.forms.events }, h.tests.elsewhere rfl rfl rfl⟩

theorem Sound.ackNotice (h : Sound s n) : Sound s.ackNotice n := by
  unfold State.ackNotice
  split
  · exact h
  · exact h.forgetNotice.notify _

/-- The REPORT queue without its notices. -/
theorem dropNotice_ok (r : Rif) (h : ReportQueueOk r) : ReportQueueOk r.dropNotice := by
  obtain ⟨places, _, others⟩ := h
  have fewer := List.length_filter_le (fun x : ReportEntry => !x.isNotice) r.reportQ
  refine ⟨?_, ?_, ?_⟩
  · simp only [Rif.dropNotice]; omega
  · simp [Rif.dropNotice, List.filter_filter]
  · simpa [Rif.dropNotice, List.filter_filter] using others

theorem Sound.gatewayChanged (h : Sound s n) : Sound s.gatewayChanged n := by
  unfold State.gatewayChanged
  dsimp only
  split
  · exact h.forgetNotice.notify _
  · have forgot := h.forgetNotice
    exact ⟨{ forgot.forms with reports := dropNotice_ok _ forgot.forms.reports },
      forgot.tests.elsewhere rfl rfl rfl⟩

end

end Sys2Proof.Machine
end

-- ==== Every step keeps the invariant ====
section
/-!
The invariant through every command: the acts of the blocks, the served requests, the frames, and the load, the tick
and the restart, which set the blocks anew.
-/

namespace Sys2Proof.Machine
open Sys2Proof

/-! ### A command in form -/

/-- The command keeps the invariant. -/
def Keeps (r : Result) : Prop := ∀ t : State, r = .next t → Inv t

theorem keeps_next {t : State} (h : Inv t) : Keeps (.next t) := by
  rintro u ⟨⟩; exact h

theorem keeps_whenRunning {s t : State} (h : Inv s) (acts : Sound s 0 → Sound t 0) : Keeps (whenRunning s t) := by
  refine keeps_next ?_
  split
  · exact (acts (h.sound ‹_›)).inv
  · exact h

section
variable {s : State} {n : Nat}

/-! ### Reports, timers and outcomes -/

theorem keeps_operateReport (h : Inv s) (f : Feeder) (source : ReportSource) :
    Keeps (execOperateReport f source s) := keeps_whenRunning h fun h => by
  split
  · rename_i r _
    have taken : Sound (s.modFct f fun c => { c with operateIn := c.operateIn.erase r }) 0 :=
      h.modFct f fun _ => ⟨rfl, rfl⟩
    exact taken.act (calm_takeOperate _ f r) (taken.tests.takeOperate f r)
  · exact h

/-- The oldest outcome leaves the controller: the feeder waits for nothing else. -/
theorem TestsBut.outcomeTakenOut (h : TestsBut s none) {f : Feeder} {o : TestOutcome} {rest : List TestOutcome}
    (waits : s.fct[f].outcomeIn = o :: rest) :
    TestsBut (s.modFct f fun c => { c with outcomeIn := rest }) (some f) := by
  have agrees := h.agrees f nofun
  have handed : s.fct[f].outcomeIn ≠ [] := by rw [waits]; exact List.cons_ne_nil _ _
  have last : rest = [] := by
    have one := (agrees.handed handed).2
    rw [waits] at one
    exact List.length_eq_zero_iff.1 (Nat.succ.inj one)
  refine h.moving (x := none) rfl h.queuedOnce (fun g other => ?_) ?_ (by simp)
  · have same := modFct_ne s f g (fun c => { c with outcomeIn := rest }) other.symm
    exact ⟨Iff.rfl, fun _ => Iff.rfl, fun _ => Iff.rfl, by rw [same], by rw [same]⟩
  · refine ⟨fun queued => handed (agrees.queued queued).2, fun k held => handed (agrees.held k held).2, agrees.apart, ?_⟩
    rw [modFct_self]
    exact last

theorem keeps_testOutcome (h : Inv s) (f : Feeder) : Keeps (execTestOutcome f s) := keeps_whenRunning h fun h => by
  split
  · rename_i o rest waits
    have calm : Calm s (s.modFct f fun c => { c with outcomeIn := rest }) := calm_modFct s f _ fun _ => ⟨rfl, rfl, rfl⟩
    exact h.act (calm.trans (calm_outcomeTaken _ f o)) ((h.tests.outcomeTakenOut waits).outcomeTaken o)
  · exact h

theorem Sound.takeTtFail (h : Sound s n) (f : Feeder) : Sound (s.takeTtFail f) n :=
  h.act (calm_takeTtFail s f) (h.tests.takeTtFail f)

theorem keeps_ttFailReport (h : Inv s) (f : Feeder) : Keeps (execTtFailReport f s) := keeps_whenRunning h fun h => by
  split
  · exact (h.modFct (g := fun c => { c with ttFailIn := c.ttFailIn - 1 }) f fun _ => ⟨rfl, rfl⟩).takeTtFail f
  · exact h

theorem keeps_breakerSupervisionExpiry (h : Inv s) (f : Feeder) : Keeps (execBreakerSupervisionExpiry f s) :=
  keeps_whenRunning h fun h => by
    have silent : Sound (s.modFct f fun c => { c with status := none, supervised := false, supTimer := none }) 0 :=
      h.modFct f fun _ => ⟨rfl, rfl⟩
    split
    · dsimp only
      split
      · exact silent.act
          (((calm_ltuUnsupervised _ f).trans (calm_takeOutcome _ f _)).trans (calm_examineAfter _ s f))
          (((silent.tests.ltuUnsupervised f).takeOutcome _).examineAfter s f)
      · exact silent
    · exact h

theorem Sound.lockOut (h : Sound s n) (f : Feeder) (c : Cause) (out : inTest s.fct[f].state = false) :
    Sound (s.lockOut f c) n := h.act (calm_lockOut s f c) ((h.tests.leave out).lockOut c)

theorem expired_state {c : Fct} {st : FeederState} (due : c.expired st = true) : c.state = st := by
  simp only [Fct.expired, Bool.and_eq_true, beq_iff_eq] at due
  exact due.1

theorem keeps_tOpenExpiry (h : Inv s) (f : Feeder) : Keeps (execTOpenExpiry f s) := keeps_whenRunning h fun h => by
  split
  · rename_i due
    have moving := h.tests.leave (f := f) (by rw [expired_state due]; rfl)
    have locked := h.act
      ((((calm_dropPhaseBack s f).trans (calm_tripNotice _ f .breakerFail none)).trans
        (calm_post _ .breakerFail (.feeder f) s.fct[f].openingCause (some (s.tables.feeder[f].tOpen : Int)))).trans
          (calm_lockOut _ f .breakerFail))
      ((((moving.dropPhaseBack f).tripNotice f _ _).post _ _ _ _).lockOut _)
    exact locked.stl _
  · exact h

theorem keeps_tCloseExpiry (h : Inv s) (f : Feeder) : Keeps (execTCloseExpiry f s) := keeps_whenRunning h fun h => by
  split
  · rename_i due
    have moving := h.tests.leave (f := f) (by rw [expired_state due]; rfl)
    exact h.act (((calm_sendOrder s f _).trans (calm_post _ _ _ _ _)).trans (calm_lockOut _ f _))
      (((moving.sendOrder f _).post _ _ _ _).lockOut _)
  · exact h

theorem keeps_deadTimeExpiry (h : Inv s) (f : Feeder) : Keeps (execDeadTimeExpiry f s) := keeps_whenRunning h fun h => by
  split
  · have stopped : Sound (s.modFct f fun c => { c with timer := none }) 0 := h.modFct f fun _ => ⟨rfl, rfl⟩
    exact stopped.act (calm_examineHolds _ f) (stopped.tests.examineHolds f)
  · exact h

theorem keeps_reclaimExpiry (h : Inv s) (f : Feeder) : Keeps (execReclaimExpiry f s) := keeps_whenRunning h fun h => by
  split
  · exact h.modFct f fun _ => ⟨rfl, rfl⟩
  · exact h

theorem keeps_followTimeout (h : Inv s) (f : Feeder) : Keeps (execFollowTimeout f s) := keeps_whenRunning h fun h => by
  split
  · rename_i due
    exact h.lockOut f _ (by rw [expired_state due]; rfl)
  · exact h

theorem keeps_breakerFailNotice (h : Inv s) (f : Feeder) : Keeps (execBreakerFailNotice f s) :=
  keeps_whenRunning h fun h => by
    split
    · have taken : Sound { s with stl := { s.stl with failNotices := s.stl.failNotices.erase f } } 0 := h.stl _
      exact taken.act (calm_stationTrip _ _ _) (taken.tests.stationTrip _ _)
    · exact h

theorem Sound.fpuPeriodEnd (h : Sound s n) (f : Feeder) : Sound (s.fpuPeriodEnd f) n := by
  have modified (p : Fpu) : Sound (s.modFpu f fun _ => p) n :=
    ⟨{ h.forms with }, h.tests.elsewhere rfl rfl rfl⟩
  unfold State.fpuPeriodEnd
  split
  · dsimp only
    have alarmed (p : Fpu) : Sound (if p.alarmMark && !s.fpu[f].alarmMark then
        (s.modFpu f fun _ => p).post .thermalAlarm (.feeder f) none (some (p.theta : Int))
        else s.modFpu f fun _ => p) n := by
      split
      · exact (modified p).post _ _ _ _
      · exact modified p
    split
    · exact (alarmed _).modFct f fun _ => ⟨rfl, rfl⟩
    · exact alarmed _
  · exact h

theorem Sound.thermalPeriodEnd (h : Sound s n) : Sound s.thermalPeriodEnd n :=
  (h.foldl (fun _ f ht => ht.fpuPeriodEnd f) allFeeders).foldl (fun t f ht =>
    ht.act ((calm_examineHolds t f).trans (calm_examineFollow _ f))
      ((ht.tests.examineHolds f).examineFollow f)) allFeeders

/-! ### The test slots -/

theorem Sound.endTest (h : Sound s n) {k : TestSlot} {f : Feeder} (testing : s.ltu.slot[k].testing = some f)
    (o : TestOutcome) : Sound (s.endTest k f o) n := h.act (calm_endTest s k f o) (h.tests.endTest testing o)

theorem keeps_contactorTimerExpiry (h : Inv s) (k : TestSlot) : Keeps (execContactorTimerExpiry k s) :=
  keeps_whenRunning h fun h => by
    split
    · rename_i f slot
      exact h.endTest (by rw [slot]; rfl) _
    · exact h

theorem keeps_settleTimerExpiry (h : Inv s) (k : TestSlot) : Keeps (execSettleTimerExpiry k s) :=
  keeps_whenRunning h fun h => by
    split
    · rename_i f slot
      exact h.act (calm_setTestSlot s k _) (h.tests.setTestSlot (by rw [slot]; rfl) (by rw [slot]; rfl))
    · exact h

theorem keeps_releaseTimerExpiry (h : Inv s) (k : TestSlot) : Keeps (execReleaseTimerExpiry k s) :=
  keeps_whenRunning h fun h => by
    split
    · rename_i f p slot
      exact h.act (calm_releaseEnds s k f _) (h.tests.releaseEnds slot (by simp))
    · exact h

/-! ### The rectifier -/

theorem Sound.sendGate (h : Sound s n) : Sound s.sendGate n :=
  h.act (calm_sendGate s) (h.tests.elsewhere rfl rfl rfl)

theorem TestsBut.regulate (h : TestsBut s none) : TestsBut s.regulate none := by
  unfold State.regulate
  dsimp only
  split
  · exact h.rcu _
  · split
    · split
      · exact h.rcu _
      · exact (h.rcu _).post _ _ _ _
    · exact h.rcu _

theorem TestsBut.controlTick (h : TestsBut s none) : TestsBut s.controlTick none := by
  unfold State.controlTick
  split
  case h_1 => exact h.regulate.elsewhere rfl rfl rfl
  all_goals exact h.elsewhere rfl rfl rfl

theorem keeps_gateDriverSupervisionExpiry (h : Inv s) : Keeps (execGateDriverSupervisionExpiry s) :=
  keeps_whenRunning h fun h => by
    have silent : Sound { s with rcu := { s.rcu with status := none, supervised := false, supTimer := none
                                                     adoption := false } } 0 := h.rcu _ h.forms.phaseBack
    split
    · dsimp only
      split
      · exact silent.sendGate
      · exact silent
    · exact h

theorem keeps_tPbExpiry (h : Inv s) : Keeps (execTPbExpiry s) := keeps_whenRunning h fun h => by
  split
  · have posted := h.post .phaseBackTimeout .station none (some (pbCount s.rcu.pbSet : Int))
    exact ⟨posted.forms.reopened (calm_toRegulating _) (toRegulating_form _), (posted.tests.rcu _).toRegulating⟩
  · exact h

theorem keeps_tAcExpiry (h : Inv s) : Keeps (execTAcExpiry s) := keeps_whenRunning h fun h => by
  split
  · exact (h.post _ _ _ _).rectEnter _ _ _ (by decide)
  · exact h

theorem keeps_acTimerExpiry (h : Inv s) : Keeps (execAcTimerExpiry s) := keeps_whenRunning h fun h => by
  split
  · exact h.rectEnter _ _ _ (by decide)
  · exact h

theorem keeps_controlTick (h : Inv s) : Keeps (execControlTick s) := keeps_whenRunning h fun h => by
  split
  · have counted := h.clock { s.clock with control := s.clock.control - 8 }
    exact counted.act (calm_controlTick _) counted.tests.controlTick
  · exact h

theorem keeps_thermalPeriodEnd (h : Inv s) : Keeps (execThermalPeriodEnd s) := keeps_whenRunning h fun h => by
  split
  · exact (h.clock _).thermalPeriodEnd
  · exact h

theorem Sound.startRegulating (h : Sound s n) : Sound s.startRegulating n :=
  h.act (calm_startRegulating s) (h.tests.rcu _).toRegulating

theorem Sound.gateFault (h : Sound s n) (st : RectStatus) :
    Sound (if st.gateFault && s.rcu.active then s.rectBlock .gateFault else s) n := by
  split
  · exact h.rectEnter .blocked _ _ (by decide)
  · exact h

theorem Sound.rectHandle (h : Sound s n) (st : RectStatus) : Sound (s.rectHandle st) n := by
  have adopted : Sound { s with rcu := { s.rcu with adoption := false } } n := h.rcu _ h.forms.phaseBack
  refine Sound.gateFault ?_ st
  split
  · split
    · exact adopted.startRegulating
    · exact adopted
    · exact h
  · split
    · exact h.startRegulating
    · exact h.rectEnter _ _ _ (by decide)
    · exact h.rectEnter _ _ _ (by decide)
    · exact h.rectEnter _ _ _ (by decide)
    · exact h.rectEnter _ _ _ (by decide)
    · exact h

theorem Sound.rectReport (h : Sound s n) (st : RectStatus) : Sound (s.rectReport st) n := by
  have kept : Sound { s with rcu := { s.rcu with status := some st, supervised := true
                                                 supTimer := some halfSecond } } n := h.rcu _ h.forms.phaseBack
  exact kept.rectHandle st

/-! ### Neighbour links -/

theorem Sound.modLink (h : Sound s n) (k : Slot) (g : LinkState → LinkState) : Sound (s.modLink k g) n :=
  ⟨{ h.forms with }, h.tests.elsewhere rfl rfl rfl⟩

theorem Sound.setFar (h : Sound s n) (f : Feeder) (e : Option SectionEntry) : Sound (s.setFar f e) n :=
  h.act (calm_setFar s f e) (h.tests.elsewhere rfl rfl rfl)

theorem Sound.eachOnSlot (h : Sound s n) (k : Slot) {g : State → Feeder → State}
    (keeps : ∀ (t : State) (f : Feeder), Sound t n → Sound (g t f) n) : Sound (s.eachOnSlot k g) n :=
  h.foldl keeps _

theorem Sound.clearHandshake (h : Sound s n) (f : Feeder) (c : Cause) : Sound (s.clearHandshake f c) n :=
  h.act (calm_clearHandshake s f c) (h.tests.clearHandshake f c)

theorem Sound.reevaluate (h : Sound s n) (f : Feeder) : Sound (s.reevaluate f) n :=
  h.act (calm_reevaluate s f) (h.tests.reevaluate f)

theorem Sound.reportSection (h : Sound s n) (b : State) (f : Feeder) : Sound (s.reportSection b f) n :=
  h.act (calm_reportSection s b f) (h.tests.reportSection b f)

theorem Sound.linkDown (h : Sound s n) (k : Slot) (c : Cause) : Sound (s.linkDown k c) n := by
  have down : Sound (s.changing fun s => s.modLink k fun x =>
      { up := false, timer := none, last := if c = .settings then none else x.last }) n :=
    Sound.changing (h.modLink k _)
  exact ((((down.eachOnSlot k fun _ f ht => ht.clearHandshake f _).eachOnSlot k fun _ f ht =>
    ht.setFar f none).eachOnSlot k fun _ f ht => ht.reevaluate f).eachOnSlot k fun t f ht =>
      ht.reportSection s f).post _ _ _ _

theorem Sound.linkAccept (h : Sound s n) (k : Slot) : Sound (s.linkAccept k) n := by
  have up : Sound (s.changing fun s => s.modLink k fun x =>
      { x with up := true, timer := some (msTicks s.tables.neighbour[k].tLink) }) n :=
    Sound.changing (h.modLink k _)
  unfold State.linkAccept
  dsimp only
  split
  · exact up
  · exact up.post _ _ _ _

theorem Sound.acceptFrame (h : Sound s n) (k : Slot) (fr : NeighbourFrame) : Sound (s.acceptFrame k fr) n :=
  (((((((h.linkAccept k).modLink k _).eachOnSlot k fun _ f ht => ht.setFar f _).eachOnSlot k fun t f ht =>
    ht.act (calm_clearUnlisted t s f) (ht.tests.clearUnlisted s f))).eachOnSlot k fun _ f ht =>
      ht.reevaluate f).eachOnSlot k fun t f ht => ht.act (calm_advance t s f) (ht.tests.advance s f)).eachOnSlot k
        fun _ f ht => ht.reportSection s f

theorem Sound.sendLink (h : Sound s n) (k : Slot) : Sound (s.sendLink k) n := by
  unfold State.sendLink
  split
  · exact ⟨{ h.forms with links := putLink_ok s.rif k _ h.forms.links }, h.tests.elsewhere rfl rfl rfl⟩
  · exact h

end

end Sys2Proof.Machine
end

-- ==== The invariant through frames, requests, writes and restarts ====
section
/-!
The commands that act through the ring and the request list, and those that set the blocks anew; then every step keeps
the invariant.
-/

namespace Sys2Proof.Machine
open Sys2Proof

section
variable {s : State} {n : Nat}

/-! ### The stream mapper -/

theorem Sound.deliver (h : Sound s n) (p : Point) (v : Int) (k : Nat) (d : Bool) : Sound (s.deliver p v k d) n :=
  h.act (calm_deliver s p v k d) (h.tests.deliver p v k d)

theorem Sound.modPoint (h : Sound s n) (p : Point) (g : PointRec → PointRec) : Sound (s.modPoint p g) n :=
  ⟨{ h.forms with }, h.tests.elsewhere rfl rfl rfl⟩

theorem Sound.accept (h : Sound s n) (p : Point) (seq : Nat) (v : Int) (k : Nat) (d : Bool) :
    Sound (s.accept p seq v k d) n := by
  have sighted : Sound (s.changing fun s => s.modPoint p fun _ =>
      { sighted := true, ref := some seq, last := v, age := 0, lossDue := false }) n :=
    Sound.changing (h.modPoint p _)
  refine Sound.deliver ?_ p v k d
  split
  · exact sighted.post _ _ _ _
  · exact sighted

theorem Sound.takeSample (h : Sound s n) (key : Key) (seq : Nat) (raw : Int) (q : Quality) :
    Sound (s.takeSample key seq raw q) n := by
  unfold State.takeSample
  split
  · exact h.smp _
  · split
    · exact h.smp _
    · split
      · split
        · exact h.smp _
        · exact h.accept _ _ _ _ _
        · exact h.accept _ _ _ _ _
      · exact h

theorem Sound.takeEntries (h : Sound s n) (src seq ch : Nat) (entries : List (Int × Quality)) :
    Sound (s.takeEntries src seq ch entries) n := by
  induction entries generalizing s ch with
  | nil => exact h
  | cons entry rest ih => exact ih (h.takeSample _ _ _ _) (ch + 1)

theorem Sound.losePoint (h : Sound s n) (p : Point) : Sound (s.losePoint p) n := by
  have lost : Sound (s.changing fun s => s.modPoint p fun x =>
      { x with sighted := false, ref := none, age := 0, lossDue := false }) n := Sound.changing (h.modPoint p _)
  have noticed := lost.act (calm_lossNotice _ p) (lost.tests.lossNotice p)
  unfold State.losePoint
  dsimp only
  split
  · exact noticed.post _ _ _ _
  · exact noticed

theorem keeps_pointLoss (h : Inv s) (p : Point) : Keeps (execPointLoss p s) := keeps_whenRunning h fun h => by
  split
  · exact h.losePoint p
  · exact h

theorem keeps_linkTimerExpiry (h : Inv s) (k : Slot) : Keeps (execLinkTimerExpiry k s) := keeps_whenRunning h fun h => by
  split
  · exact h.linkDown k _
  · exact h

theorem keeps_neighbourFramePeriod (h : Inv s) : Keeps (execNeighbourFramePeriod s) := keeps_whenRunning h fun h => by
  split
  · exact (h.clock _).foldl (fun _ k ht => ht.sendLink k) allSlots
  · exact h

theorem keeps_tTtExpiry (h : Inv s) (f : Feeder) : Keeps (execTTtExpiry f s) := keeps_whenRunning h fun h => by
  split
  · have failed : Sound (s.modHs f fun h => { h with failed := true, timer := none }) 0 :=
      by
      rename_i due
      simp only [Bool.and_eq_true] at due
      exact h.act (calm_modHs s f _ fun ok => ⟨ok.1, fun _ => due.2, nofun⟩) (h.tests.modHs f _)
    exact (failed.post _ _ _ _).takeTtFail f
  · exact h

/-! ### The ring -/

/-- A change of the ring interface that leaves its queues as they stand. -/
theorem Forms.rif (h : Forms s n) (r : Rif) (same : r = { r with
    orderQ := s.rif.orderQ, linkQ := s.rif.linkQ, reportQ := s.rif.reportQ, held := s.rif.held })
    (transit : TransitOk r) : Forms { s with rif := r } n := by
  rw [same] at transit ⊢
  exact { h with transit := transit }

theorem forward_ok (r : Rif) (fr : Frame) (h : TransitOk r) : TransitOk (r.forward fr) := by
  unfold Rif.forward
  split
  · rename_i room
    simp only [TransitOk, Rif.transitUse, List.length_append, List.length_singleton] at room ⊢
    omega
  · exact h

theorem forms_forward (h : Forms s n) (fr : Frame) : Forms (s.forward fr) n := by
  refine h.rif _ ?_ (forward_ok _ fr h.transit)
  unfold Rif.forward
  split <;> rfl

theorem forms_malformed (h : Forms s n) : Forms s.malformed n := h.rif _ rfl h.transit

theorem forms_badFrame (h : Forms s n) : Forms s.badFrame n := by
  have counted : Forms { s with rif := { s.rif with ringErr := satInc 65535 s.rif.ringErr
                                                    windowBad := satInc 65535 s.rif.windowBad } } n :=
    h.rif _ rfl h.transit
  unfold State.badFrame
  dsimp only
  split
  · exact counted.calm (calm_post _ _ _ _ _)
  · exact counted

theorem TestsOk.elsewhere {t : State} (h : TestsOk s) (phase : t.phase = s.phase) (ltu : t.ltu = s.ltu)
    (fct : t.fct = s.fct) : TestsOk t := by
  obtain ⟨a, b, c, d, e, f, g, i, j, k⟩ := h
  constructor <;> simp only [phase, ltu, fct] <;> assumption

theorem Inv.elsewhere {t : State} (h : Inv s) (forms : Forms t 0) (phase : t.phase = s.phase)
    (ltu : t.ltu = s.ltu) (fct : t.fct = s.fct) : Inv t := forms.inv (h.tests.elsewhere phase ltu fct)

theorem inv_forward (h : Inv s) (fr : Frame) : Inv (s.forward fr) :=
  h.elsewhere (forms_forward h.forms fr) rfl rfl rfl

theorem inv_malformed (h : Inv s) : Inv s.malformed := h.elsewhere (forms_malformed h.forms) rfl rfl rfl

theorem inv_badFrame (h : Inv s) : Inv s.badFrame := by
  refine h.elsewhere (forms_badFrame h.forms) ?_ ?_ ?_
  all_goals unfold State.badFrame; dsimp only; split <;> rfl

theorem Sound.breakerReport (h : Sound s n) (f : Feeder) (st : BreakerStatus) : Sound (s.breakerReport f st) n := by
  have kept : Forms (s.modFct f fun c =>
      { c with status := some st, supervised := true, supTimer := some halfSecond }) n := { h.forms with }
  exact ⟨((kept.calm (calm_fctPosition _ f _)).calm (calm_ltuContactor _ _ _ _)).calm (calm_examineFor _ f),
    h.tests.breakerReport f st⟩

theorem Sound.loadTime (h : Sound s n) (ms : Nat) : Sound (s.loadTime ms) n :=
  ⟨{ h.forms with events := h.forms.events }, h.tests.elsewhere rfl rfl rfl⟩

theorem Sound.requestIn (h : Sound s 0) (fr : Frame) : Sound (s.requestIn fr) 0 := by
  unfold State.requestIn
  split
  · rename_i room
    obtain ⟨places, notice, _⟩ := h.forms.reports
    have held : ReportQueueOk { s.rif with held := s.rif.held + 1 } := by
      have others := List.length_filter_le (fun x : ReportEntry => !x.isNotice) s.rif.reportQ
      exact ⟨by dsimp only; omega, notice, by dsimp only; omega⟩
    have waits : (s.mga.requests ++ [requestOf fr]).length + 0 ≤ s.rif.held + 1 := by
      have requests := h.forms.requests
      rw [List.length_append, List.length_singleton]
      omega
    exact Sound.settle ⟨{ h.forms with reports := held, requests := waits }, h.tests.elsewhere rfl rfl rfl⟩
  · exact ⟨h.forms.rif _ rfl h.forms.transit, h.tests.elsewhere rfl rfl rfl⟩

theorem Sound.readBy (h : Sound s 0) (fr : Frame) : Sound (s.readBy fr) 0 := by
  unfold State.readBy
  split
  · exact h.takeEntries _ _ _ _
  · unfold State.timeIn
    split
    · exact h.loadTime _
    · exact h
  · unfold State.breakerIn
    split
    · exact h.breakerReport _ _
    · exact h
  · unfold State.rectIn
    split
    · exact h.rectReport _
    · exact h
  · unfold State.linkIn
    split
    · exact h
    · split
      · exact h.acceptFrame _ _
      · exact h
  · exact h.requestIn fr
  · exact h

theorem inv_hand (h : Inv s) (fr : Frame) : Inv (s.hand fr) := by
  unfold State.hand
  split
  · split
    · exact ((h.sound ‹_›).readBy fr).inv
    · exact h
  · split
    · exact h
    · exact inv_malformed h

theorem inv_dispose (h : Inv s) (fr : Frame) : Inv (s.dispose fr) := by
  have forwarded := inv_forward h fr
  unfold State.dispose
  split
  · exact forwarded
  · split
    · exact h
    · split
      · exact inv_malformed h
      · split
        · unfold State.consume
          split
          · exact inv_hand h fr
          · split
            · exact h
            · exact inv_malformed h
        · split
          · unfold State.readBroadcast
            split
            · exact inv_hand forwarded fr
            · exact forwarded
          · exact forwarded

theorem inv_receive (h : Inv s) (kind : Byte) (fr : RxFrame) : Inv (s.receive kind fr) := by
  unfold State.receive
  split
  · exact inv_dispose h _
  · exact inv_badFrame h

theorem keeps_whenPowered {t : State} (h : Inv s) (kept : Inv t) : Keeps (whenPowered s t) := by
  refine keeps_next ?_
  split
  · exact h
  · exact kept

theorem keeps_ringFrameReceived (h : Inv s) (bytes : List Byte) : Keeps (execRingFrameReceived bytes s) := by
  refine keeps_whenPowered h ?_
  unfold State.receiveBytes
  split
  · exact inv_receive h _ _
  · exact inv_badFrame h

theorem map_tail_nodup {α β : Type} {g : α → β} {x : α} {rest : List α} (h : ((x :: rest).map g).Nodup) :
    (rest.map g).Nodup := (List.nodup_cons.1 h).2

theorem forms_take (h : Forms s n) : Forms { s with rif := s.rif.take } n := by
  have orders := h.orders
  have links := h.links
  have reports := h.reports
  unfold Rif.take
  split
  · exact h
  · rename_i x rest free waits
    exact { h with
      transit := by
        have transit := h.transit
        simp only [TransitOk, Rif.transitUse, waits, free] at *
        simp at *
        omega }
  · rename_i x rest free _ waits
    rw [OrderQueueOk, waits] at orders
    exact { h with
      orders := ⟨map_tail_nodup orders.1, Nat.le_of_succ_le orders.2⟩
      transit := by
        have transit := h.transit
        simp_all [TransitOk, Rif.transitUse] }
  · rename_i x rest free _ _ waits
    rw [LinkQueueOk, waits] at links
    exact { h with
      links := map_tail_nodup links
      transit := by
        have transit := h.transit
        simp_all [TransitOk, Rif.transitUse] }
  · rename_i x rest free _ _ _ waits
    rw [ReportQueueOk, waits] at reports
    exact { h with
      reports := by
        obtain ⟨places, notices, others⟩ := reports
        have fewer (p : ReportEntry → Bool) : (rest.filter p).length ≤ ((x :: rest).filter p).length :=
          ((List.sublist_cons_self x rest).filter p).length_le
        have notices' := fewer ReportEntry.isNotice
        have others' := fewer fun x => !x.isNotice
        rw [List.length_cons] at places
        exact ⟨by dsimp only; omega, by dsimp only; omega, by dsimp only; omega⟩
      transit := by
        have transit := h.transit
        simp_all [TransitOk, Rif.transitUse] }
  · exact h

end

end Sys2Proof.Machine
end

-- ==== The invariant through the settings, the load and the restart ====
section
/-!
The commands and writes of the request list, and the commands that set the blocks anew; then O3.
-/

namespace Sys2Proof.Machine
open Sys2Proof

section
variable {s : State} {n : Nat}

/-- The change of the summary taken after an update. -/
theorem Sound.note (h : Sound s n) (old : Summary) : Sound (s.noteChange old) n :=
  h.act (calm_noteChange s old) (h.tests.elsewhere rfl rfl rfl)

/-! ### Served requests -/

theorem keeps_serve (h : Inv s) (op : Nat) (objs : List Nat) {act : State → Request → Service}
    (keeps : ∀ (t : State) (r : Request), Sound t 1 → Sound (act t r).after 1) :
    Keeps (whenRunning s (s.serve op objs act)) := keeps_whenRunning h fun h => h.serve op objs keeps

theorem Sound.feederOpens (h : Sound s n) (f : Feeder) : Sound (s.feederOpens f) n :=
  h.act (calm_feederOpens s f) (h.tests.feederOpens f)

theorem sound_serveFeederOpen (h : Sound s n) (r : Request) : Sound (s.serveFeederOpen r).after n :=
  h.onFeeder r fun f => h.checked _ fun _ => h.feederOpens f

theorem out_of_closeRefusal {f : Feeder} (passes : s.feederCloseRefusal f = none) : s.fct[f].state = .out := by
  have all := (firstFailing_none_iff _).1 passes
  simpa using all (s.fct[f].state == .out, .state) (by simp)

theorem sound_serveFeederClose (h : Sound s n) (r : Request) : Sound (s.serveFeederClose r).after n :=
  h.onFeeder r fun f => h.checked _ fun passes =>
    h.act (calm_toTestWait s f true 0) ((h.tests.leave (by rw [out_of_closeRefusal passes]; rfl)).toTestWait _ _)

theorem lockout_of_resetRefusal {f : Feeder} (passes : s.feederResetRefusal f = none) :
    s.fct[f].state = .lockout := by
  have all := (firstFailing_none_iff _).1 passes
  simpa using all (s.fct[f].state == .lockout, .state) (by simp)

theorem sound_serveFeederReset (h : Sound s n) (r : Request) : Sound (s.serveFeederReset r).after n :=
  h.onFeeder r fun f => h.checked _ fun passes =>
    h.act (calm_fctOut s f) (h.tests.leave (by rw [lockout_of_resetRefusal passes]; rfl)).fctOut

theorem sound_serveClearContext (h : Sound s n) (r : Request) : Sound (s.serveClearContext r).after n :=
  h.onFeeder r fun f => h.act (calm_emptyContext s f) (h.tests.elsewhere rfl rfl rfl)

theorem sound_serveRectStart (h : Sound s n) (r : Request) : Sound (s.serveRectStart r).after n :=
  h.checked _ fun _ => h.act (calm_rectStarts s) ((h.tests.rcu _).rectEnter _ _ _)

theorem sound_serveRectStop (h : Sound s n) (r : Request) : Sound (s.serveRectStop r).after n :=
  h.act (calm_rectStop s) h.tests.rectStop

theorem sound_serveRectReset (h : Sound s n) (r : Request) : Sound (s.serveRectReset r).after n :=
  h.checked _ fun _ => h.rectEnter _ _ _ (by decide)

theorem sound_serveSetpoint (h : Sound s n) (r : Request) : Sound (s.serveSetpoint r).after n := by
  unfold State.serveSetpoint
  dsimp only
  split
  · exact (h.tables _).post _ _ _ _
  · exact h

theorem sound_serveStationReset (h : Sound s n) (r : Request) : Sound (s.serveStationReset r).after n :=
  h.checked _ fun _ => Sound.changing (h.stl _)

theorem sound_serveEmergency (h : Sound s n) (r : Request) : Sound (s.serveEmergency r).after n := by
  unfold State.serveEmergency Service.done
  dsimp only
  exact h.act (calm_emergency s) h.tests.emergency

theorem sound_serveSetMode (h : Sound s n) (r : Request) : Sound (s.serveSetMode r).after n := by
  unfold State.serveSetMode
  split
  · rename_i m _
    exact (h.mga { s.mga with mode := m } rfl).note _
  · exact h

theorem sound_serveAckEvents (h : Sound s n) (r : Request) : Sound (s.serveAckEvents r).after n := by
  unfold State.serveAckEvents
  split
  · exact h
  · rename_i d _
    have dropped : Sound { s with evr := { s.evr with events := s.evr.events.drop (d + 1), lost := false } } n :=
      ⟨{ h.forms with events := drop_ok _ _ _ h.forms.events }, h.tests.elsewhere rfl rfl rfl⟩
    exact dropped.note _

theorem sound_serveRecArm (h : Sound s n) (r : Request) : Sound (s.serveRecArm r).after n :=
  h.checked _ fun _ => Sound.changing (h.drc _ ⟨h.forms.recorder.1, h.forms.recorder.2.1, by
    rintro b armed
    obtain rfl : [] = b := by simpa using armed
    exact Nat.zero_le _⟩)

/-- A recorder that is not ARMED has no set to bound. -/
theorem recorderOk_state (h : RecorderOk s.drc) {st : RecorderState} (other : ∀ b, st ≠ .armed b) :
    RecorderOk { s.drc with state := st } := recorderOk_of _ h.writes other

theorem sound_serveRecDisarm (h : Sound s n) (r : Request) : Sound (s.serveRecDisarm r).after n := by
  have idle : Sound (s.changing fun s => { s with drc := { s.drc with state := .idle } }) n :=
    Sound.changing (h.drc _ (recorderOk_state h.forms.recorder nofun))
  show Sound s.disarm.1 n
  unfold State.disarm
  split
  · exact h
  · exact idle
  · exact (h.drc _ (drain_ok s.drc s.tables.chain _ .aborted h.forms.recorder.writes)).note _
  · exact h
  · exact idle

theorem sound_serveRecTrigger (h : Sound s n) (r : Request) : Sound (s.serveRecTrigger r).after n :=
  h.act (calm_trigger s _ _) (h.tests.trigger _ _)

theorem sound_serveRecord (h : Sound s n) (r : Request) : Sound (s.serveRecord r).after n := by
  unfold State.serveRecord
  dsimp only
  split
  · split <;> exact h
  · exact h

theorem keeps_readSummary (h : Inv s) : Keeps (execReadSummary s) := keeps_whenRunning h fun h => by
  unfold State.readSummary
  split
  · exact h
  · rename_i r rest waits
    have popped := h.pop waits
    split
    · split
      · exact (popped.respond _ _ _).settle
      · dsimp only
        split
        · exact (popped.respond _ _ _).ackNotice.settle
        · exact (popped.respond _ _ _).settle
    · exact h

/-! ### Settings writes -/

theorem sound_storeStation (h : Sound s n) (x : StationRec) : Sound (s.storeStation x) n := by
  unfold State.storeStation
  dsimp only
  split
  · exact h.tables _
  · exact (h.tables _).gatewayChanged

theorem sound_writeMap (h : Sound s n) (x : Tables) : Sound (s.writeMap x) n := (h.tables x).smp _

theorem sound_serveMapPoint (h : Sound s n) (r : Request) : Sound (s.serveMapPoint r).after n := by
  unfold State.serveMapPoint
  split
  · exact h
  · exact h.written r _ fun _ => sound_writeMap h _

theorem sound_serveMapRange (h : Sound s n) (r : Request) : Sound (s.serveMapRange r).after n := by
  unfold State.serveMapRange
  split
  · exact h
  · exact h.written r _ fun _ => sound_writeMap h _

/-- A feeder that is OUT or in LOCKOUT takes no TT_FAIL report. -/
theorem takeTtFail_of_identityFree {f : Feeder} (free : identityFree s.fct[f].state = true) : s.takeTtFail f = s := by
  have state : s.fct[f].state = .out ∨ s.fct[f].state = .lockout := by simpa [identityFree] using free
  unfold State.takeTtFail
  dsimp only
  rcases state with state | state <;> rw [state] <;> rfl

theorem clearHandshake_fct_of_identityFree {f : Feeder} (free : identityFree s.fct[f].state = true) (c : Cause) :
    (s.clearHandshake f c).fct = s.fct := by
  unfold State.clearHandshake
  dsimp only
  split
  · have still : identityFree (s.postSection f .ttFail (some c)).fct[f].state = true := free
    rw [modHs_fct, takeTtFail_of_identityFree still]
    rfl
  · rfl

theorem inTest_of_identityFree {st : FeederState} (free : identityFree st = true) : inTest st = false := by
  cases st <;> simp_all [identityFree, inTest]

theorem useChanged_out (c : Fct) (inUse : Bool) :
    (c.useChanged inUse).outcomeIn = [] ∧ inTest (c.useChanged inUse).state = false := by
  cases inUse <;> exact ⟨rfl, rfl⟩

theorem Sound.storeFeeder (h : Sound s n) (f : Feeder) (r : FeederRec)
    (free : s.tables.feeder[f].inUse ≠ r.inUse → inTest s.fct[f].state = false) : Sound (s.storeFeeder f r) n := by
  have stored := h.tables { s.tables with feeder := s.tables.feeder.set f r }
  refine Sound.changing ?_
  dsimp only
  split
  · exact stored.modFct f fun _ => ⟨rfl, rfl⟩
  · rename_i changed
    have moving := stored.tests.leave (f := f) (free changed)
    obtain ⟨noOutcome, out⟩ := useChanged_out s.fct[f] r.inUse
    have moved := moving.fctSet_out (g := fun c => c.useChanged r.inUse) noOutcome out
    exact ⟨{ stored.forms with }, moved.elsewhere rfl rfl rfl⟩

theorem identityFree_of_check {t : Tables} {f : Feeder} {x : FeederRec} {idle : Bool}
    (passes : checkFeeder t f x idle = none) (changed : t.feeder[f].inUse ≠ x.inUse) : idle = true := by
  have all := (firstFailing_none_iff _).1 passes
  have identity := all (sameIdentity t.feeder[f] x || idle, .state) (by simp)
  simp only [Bool.or_eq_true] at identity
  refine identity.resolve_left fun same => changed ?_
  simp only [sameIdentity, Bool.and_eq_true, beq_iff_eq] at same
  exact same.1.1.1.1

theorem Sound.writeFeeder (h : Sound s n) (f : Feeder) (r : FeederRec)
    (free : s.tables.feeder[f].inUse ≠ r.inUse → identityFree s.fct[f].state = true) :
    Sound (s.writeFeeder f r) n := by
  unfold State.writeFeeder
  dsimp only
  generalize moves : (s.tables.feeder[f].secNo != r.secNo || s.tables.feeder[f].slot != r.slot ||
    s.tables.feeder[f].inUse != r.inUse) = moved
  have cleared : Sound (if moved then s.clearHandshake f .removed else s) n := by
    split
    · exact h.clearHandshake f _
    · exact h
  generalize clearing : (if moved then s.clearHandshake f .removed else s) = t1 at cleared ⊢
  have stored : Sound (t1.storeFeeder f r) n := by
    refine cleared.storeFeeder f r fun changed => ?_
    have same : t1.tables = s.tables ∧ (identityFree s.fct[f].state = true → t1.fct = s.fct) := by
      rw [← clearing]
      split
      · exact ⟨(calm_clearHandshake s f _).tables, fun free => clearHandshake_fct_of_identityFree free _⟩
      · exact ⟨rfl, fun _ => rfl⟩
    rw [same.1] at changed
    rw [same.2 (free changed)]
    exact inTest_of_identityFree (free changed)
  generalize t1.storeFeeder f r = t2 at stored ⊢
  have reported : Sound (if moved then t2.setFar f (t2.freshReport f) else t2) n := by
    split
    · exact stored.setFar f _
    · exact stored
  generalize (if moved then t2.setFar f (t2.freshReport f) else t2) = t3 at reported ⊢
  generalize reevaluates : (if moved || s.tables.feeder[f].testEnd != r.testEnd ||
    s.tables.feeder[f].localCoupled != r.localCoupled then t3.reevaluate f else t3) = t4
  have evaluated : Sound t4 n := by
    rw [← reevaluates]
    split
    · exact reported.reevaluate f
    · exact reported
  refine Sound.reportSection ?_ s f
  split
  · exact evaluated.act (calm_takeStanding _ f _) (evaluated.tests.takeStanding f _)
  · exact evaluated

theorem sound_serveFeeder (h : Sound s n) (r : Request) : Sound (s.serveFeeder r).after n := by
  unfold State.serveFeeder
  split
  · exact h.written r _ fun passes => h.writeFeeder _ _ (identityFree_of_check passes)
  · exact h

theorem sound_serveBank (h : Sound s n) (r : Request) : Sound (s.serveBank r).after n := by
  unfold State.serveBank
  split
  · exact h.written r _ fun _ => h.tables _
  · exact h

theorem Sound.writeNeighbour (h : Sound s n) (k : Slot) (r : NeighbourRec) : Sound (s.writeNeighbour k r) n := by
  unfold State.writeNeighbour
  dsimp only
  refine Sound.tables ?_ _
  split
  · exact h
  · split
    · exact h.linkDown k _
    · exact (h.eachOnSlot k fun _ f ht => ht.clearHandshake f _).modLink k _

theorem sound_serveNeighbour (h : Sound s n) (r : Request) : Sound (s.serveNeighbour r).after n := by
  unfold State.serveNeighbour
  split
  · exact h.written r _ fun _ => h.writeNeighbour _ _
  · exact h

theorem Sound.storeRegulator (h : Sound s n) (x : RegulatorRec) : Sound (s.storeRegulator x) n := by
  unfold State.storeRegulator
  have stored := h.tables { s.tables with regulator := x }
  refine stored.rcu _ ?_
  split
  · exact h.forms.phaseBack
  · exact h.forms.phaseBack

theorem writable_of_checkChain {c : List ChainDesc} {writable : Bool} (passes : checkChain c writable = none) :
    writable = true := by
  have all := (firstFailing_none_iff _).1 passes
  simpa using all (writable, .busy) (by simp)

theorem sound_serveChain (h : Sound s n) (r : Request) : Sound (s.serveChain r).after n := by
  refine h.written r _ fun passes => Sound.note ?_ s.summary
  refine Sound.drc (h.tables { s.tables with chain := decodeChain r.data }) _ (recorderOk_state h.forms.recorder ?_)
  have writable := writable_of_checkChain passes
  intro b armed
  cases state : s.drc.state <;> simp_all [RecorderState.writable]

theorem Sound.beginStore (h : Sound s n) : Sound s.beginStore n := by
  have begun := h.mga { s.mga with
    busy := true, storeTimer := some storeTicks, image := some (s.tables, Config.imageCheck s.tables) } rfl
  exact begun.note _

theorem Sound.endStore (h : Sound s n) (good : Bool) : Sound (s.endStore good) n := by
  have ended : Sound (s.changing fun s => { s with mga := { s.mga with
      busy := false, storeTimer := none, image := none
      unconfigured := s.mga.unconfigured && !good } }) n :=
    Sound.changing (g := fun s => { s with mga := { s.mga with
      busy := false, storeTimer := none, image := none
      unconfigured := s.mga.unconfigured && !good } }) (h.mga _ rfl)
  unfold State.endStore
  dsimp only
  split
  · exact ended.post _ _ _ _
  · exact ended.post _ _ _ _

theorem keeps_storeConfirm (h : Inv s) (readBack : Nat) : Keeps (execStoreConfirm readBack s) :=
  keeps_whenRunning h fun h => by
    split
    · split
      · exact h.endStore _
      · exact h
    · exact h

theorem keeps_storeTimerExpiry (h : Inv s) : Keeps (execStoreTimerExpiry s) := keeps_whenRunning h fun h => by
  split
  · exact h.endStore _
  · exact h

theorem keeps_drainingEnd (h : Inv s) : Keeps (execDrainingEnd s) := keeps_whenRunning h fun h => by
  unfold State.drainingEnds
  split
  · dsimp only
    refine Sound.post (Sound.note (h.drc _ ?_) s.summary) _ _ _ _
    exact recorderOk_of _ (flush_ok _ h.forms.recorder.writes) nofun
  · exact h

/-! ### The blocks set anew -/

/-- No test stands and none is waited for. -/
theorem TestsBut.fresh {t : State} (running : t.phase = .running) (queue : t.ltu.queue = [])
    (free : ∀ k : TestSlot, t.ltu.slot[k] = .free)
    (out : ∀ f : Feeder, inTest t.fct[f].state = false ∧ t.fct[f].outcomeIn = []) : TestsBut t none where
  running := running
  queuedOnce := by rw [queue]; exact List.nodup_nil
  agrees f _ := by
    refine Placeless.agrees ⟨?_, fun k => ?_, fun j k _ slot => ?_, (out f).2⟩ (out f).1
    · rw [queue]; exact List.not_mem_nil
    · rw [free k]; nofun
    · rw [free j] at slot; exact absurd slot nofun
  placeless _ := nofun

theorem fctInitial_out (inUse : Bool) :
    inTest (fctInitial inUse).state = false ∧ (fctInitial inUse).outcomeIn = [] := by
  cases inUse <;> exact ⟨rfl, rfl⟩

theorem fctInitials_out (t : Tables) (f : Feeder) :
    inTest (fctInitials t)[f].state = false ∧ (fctInitials t)[f].outcomeIn = [] := by
  have initial : (fctInitials t)[f] = fctInitial t.feeder[f].inUse := vmap_getElem _ _ f.val f.isLt
  rw [initial]
  exact fctInitial_out _

theorem handshakeOk_reset : HandshakeOk Handshake.reset := by
  simp [HandshakeOk, Handshake.reset]

theorem Sound.sendOrder (h : Sound s n) (f : Feeder) (o : BreakerOrder) : Sound (s.sendOrder f o) n :=
  h.act (calm_sendOrder s f o) (h.tests.sendOrder f o)

theorem Sound.testOffAll (h : Sound s n) : Sound s.testOffAll n :=
  h.foldl (fun _ f ht => by
    split
    · exact ht.sendOrder f _
    · exact ht) allFeeders

theorem inv_loaded (h : Inv s) (waits : s.phase ≠ .running) (t : Tables) (b : Bool) : Inv (s.loaded t b) := by
  obtain ⟨queue, free⟩ := h.tests.atRest waits
  have started : Sound { s with phase := .running, tables := t, fct := fctInitials t, rcu := rcuInitial
                                clock := s.clock.newPeriods
                                mga := { s.mga with unconfigured := b } } 0 :=
    ⟨{ h.forms with phaseBack := nofun }, TestsBut.fresh rfl queue free (fctInitials_out t)⟩
  exact started.testOffAll.inv

theorem Inv.post (h : Inv s) (k : EventKind) (x : Subject) (c : Option Cause) (v : Option Int) :
    Inv (s.post k x c v) := h.elsewhere (h.forms.calm (calm_post s k x c v)) rfl rfl rfl

theorem keeps_settingsLoadEnd (h : Inv s) (answer : MemoryAnswer) : Keeps (execSettingsLoadEnd answer s) := by
  refine keeps_next ?_
  split
  · rename_i loading
    have waits : s.phase ≠ .running := by rw [loading]; nofun
    split
    · exact inv_loaded h waits _ _
    · exact (inv_loaded h waits defaultTables true).post _ _ _ _
  · exact h

theorem restart_ok (d : Drc) (h : RecorderOk d) : RecorderOk d.restart := by
  have short (k : Nat) : (d.writeBuf.take k).length ≤ 16 :=
    Nat.le_trans (List.length_take_le' _ _) h.2.1
  unfold Drc.restart
  split
  · exact h
  · exact recorderOk_of _ (flush_ok _ ⟨h.1, short _⟩) nofun
  · exact recorderOk_of _ (flush_ok _ h.writes) nofun

theorem Sound.restartSlots (h : Sound s n) : Sound s.restartSlots n := by
  have ordered (t : State) (k : TestSlot) (ht : Sound t n) : Sound (match t.ltu.slot[k] with
      | .free => t
      | .contact f _ => t.sendOrder f .testOff
      | .settle f _ => t.sendOrder f .testOff
      | .window f _ _ _ _ => t.sendOrder f .testOff
      | .release f _ _ => t.sendOrder f .testOff) n := by
    split
    · exact ht
    all_goals exact ht.sendOrder _ _
  exact ordered _ 1 (ordered _ 0 h)

theorem Sound.restarted (h : Sound s n) : Sound s.restarted n := by
  refine ⟨{ h.forms with
    links := List.nodup_nil, handshakes := fun f => ?_, phaseBack := nofun, recorder := restart_ok _ h.forms.recorder },
    TestsBut.fresh h.running rfl (fun k => ?_) (fctInitials_out s.tables)⟩
  · match f with
    | ⟨i, inRange⟩ =>
      show HandshakeOk (Sco.reset.sect[i]).hs
      simp [Sco.reset, Section.reset, handshakeOk_reset]
  · match k with
    | 0 => rfl
    | 1 => rfl

theorem Sound.restart (h : Sound s n) : Sound s.restart n := h.restartSlots.restarted.note _

theorem keeps_restart (h : Inv s) : Keeps (execRestart s) := keeps_whenRunning h fun h => by
  unfold State.restartRequest
  split
  · exact h
  · rename_i r rest waits
    have popped := h.pop waits
    split
    · split
      · exact (popped.respond _ _ _).settle
      · exact (popped.respond _ _ _).restart.settle
    · exact h

/-! ### The tick -/

theorem slotFeeder_tick (ph : TestPhase) : slotFeeder ph.tick = slotFeeder ph := by cases ph <;> rfl

theorem heldFeeder_tick (ph : TestPhase) : heldFeeder ph.tick = heldFeeder ph := by
  cases ph with
  | release f n o => cases o <;> rfl
  | _ => rfl

theorem handshakeOk_tick {h : Handshake} (ok : HandshakeOk h) : HandshakeOk { h with timer := tickTimer h.timer } := by
  refine ⟨ok.1, ok.2.1, fun runs => ok.2.2 ?_⟩
  rwa [tickTimer_isSome] at runs

theorem Sound.timersTick (h : Sound s n) : Sound s.timersTick n := by
  have slots (k : TestSlot) : s.timersTick.ltu.slot[k] = s.ltu.slot[k].tick := vmap_getElem _ _ k.val k.isLt
  have feeders (f : Feeder) : s.timersTick.fct[f] = s.fct[f].tick := vmap_getElem _ _ f.val f.isLt
  have sections (f : Feeder) : s.timersTick.sco.sect[f] = s.sco.sect[f].tick := vmap_getElem _ _ f.val f.isLt
  refine ⟨{ h.forms with handshakes := fun f => ?_ }, h.tests.congr rfl h.tests.queuedOnce fun f =>
    ⟨Iff.rfl, fun k => ?_, fun k => ?_, ?_, ?_⟩⟩
  · rw [sections]; exact handshakeOk_tick (h.forms.handshakes f)
  · rw [slots, heldFeeder_tick]
  · rw [slots, slotFeeder_tick]
  · rw [feeders]; rfl
  · rw [feeders]; rfl

theorem keeps_tick (h : Inv s) : Keeps (execTick s) := by
  refine keeps_next ?_
  split
  · exact h
  · exact h.elsewhere { h.forms with } rfl rfl rfl
  · rename_i running
    have ticked := (h.sound running).timersTick
    exact (Sound.note (ticked.drc _ (drcTick_ok _ _ _ ticked.forms.recorder)) _).inv

theorem keeps_millisecondAdvance (h : Inv s) : Keeps (execMillisecondAdvance s) := by
  refine keeps_next ?_
  split
  · exact h.elsewhere { h.forms with events := h.forms.events } rfl rfl rfl
  · exact h

theorem keeps_ringWindowEnd (h : Inv s) : Keeps (execRingWindowEnd s) := by
  have ended (x : Clock) : Inv { s with clock := x, rif := { s.rif with windowBad := 0 } } :=
    h.elsewhere { h.forms with } rfl rfl rfl
  refine keeps_whenPowered h ?_
  split
  · exact ended _
  · exact h

theorem keeps_frameSendEnd (h : Inv s) : Keeps (execFrameSendEnd s) := by
  have freed : TransitOk { s.rif with port := none } := by
    have transit := h.transit
    simp only [TransitOk, Rif.transitUse] at transit ⊢
    omega
  exact keeps_whenPowered h (h.elsewhere (h.forms.rif _ rfl freed) rfl rfl rfl)

end

/-! ### Every step -/

theorem exec_keeps {s : State} (h : Inv s) (i : Instr) : Keeps (exec i s) := by
  cases i with
  | powerOn straps =>
    have reset : Inv State.reset := invariantAtReset
    exact keeps_next { reset with tests := { reset.tests with atRest := fun _ => reset.tests.atRest nofun } }
  | settingsLoadEnd answer => exact keeps_settingsLoadEnd h answer
  | tick => exact keeps_tick h
  | millisecondAdvance => exact keeps_millisecondAdvance h
  | pointLoss p => exact keeps_pointLoss h p
  | controlTick => exact keeps_controlTick h
  | thermalPeriodEnd => exact keeps_thermalPeriodEnd h
  | neighbourFramePeriod => exact keeps_neighbourFramePeriod h
  | ringWindowEnd => exact keeps_ringWindowEnd h
  | ringFrameReceived bytes => exact keeps_ringFrameReceived h bytes
  | sampleFrame fr => exact keeps_whenPowered h (inv_receive h 1 fr)
  | timeFrame fr => exact keeps_whenPowered h (inv_receive h 2 fr)
  | breakerStatusFrame fr => exact keeps_whenPowered h (inv_receive h 3 fr)
  | rectStatusFrame fr => exact keeps_whenPowered h (inv_receive h 5 fr)
  | linkInFrame fr => exact keeps_whenPowered h (inv_receive h 7 fr)
  | requestFrame fr => exact keeps_whenPowered h (inv_receive h 9 fr)
  | arbiterTake => exact keeps_whenPowered h (h.elsewhere (forms_take h.forms) rfl rfl rfl)
  | frameSendEnd => exact keeps_frameSendEnd h
  | operateReport f source => exact keeps_operateReport h f source
  | testOutcome f => exact keeps_testOutcome h f
  | ttFailReport f => exact keeps_ttFailReport h f
  | breakerFailNotice f => exact keeps_breakerFailNotice h f
  | breakerSupervisionExpiry f => exact keeps_breakerSupervisionExpiry h f
  | tOpenExpiry f => exact keeps_tOpenExpiry h f
  | tCloseExpiry f => exact keeps_tCloseExpiry h f
  | deadTimeExpiry f => exact keeps_deadTimeExpiry h f
  | reclaimExpiry f => exact keeps_reclaimExpiry h f
  | followTimeout f => exact keeps_followTimeout h f
  | contactorTimerExpiry k => exact keeps_contactorTimerExpiry h k
  | settleTimerExpiry k => exact keeps_settleTimerExpiry h k
  | releaseTimerExpiry k => exact keeps_releaseTimerExpiry h k
  | linkTimerExpiry n => exact keeps_linkTimerExpiry h n
  | tTtExpiry f => exact keeps_tTtExpiry h f
  | gateDriverSupervisionExpiry => exact keeps_gateDriverSupervisionExpiry h
  | tAcExpiry => exact keeps_tAcExpiry h
  | acTimerExpiry => exact keeps_acTimerExpiry h
  | tPbExpiry => exact keeps_tPbExpiry h
  | storeTimerExpiry => exact keeps_storeTimerExpiry h
  | storeConfirm readBack => exact keeps_storeConfirm h readBack
  | drainingEnd => exact keeps_drainingEnd h
  | stationWrite => exact keeps_serve h _ _ fun _ r ht => ht.written r _ fun _ => sound_storeStation ht _
  | mapPointWrite => exact keeps_serve h _ _ fun _ r ht => sound_serveMapPoint ht r
  | mapRangeWrite => exact keeps_serve h _ _ fun _ r ht => sound_serveMapRange ht r
  | feederWrite => exact keeps_serve h _ _ fun _ r ht => sound_serveFeeder ht r
  | bankWrite => exact keeps_serve h _ _ fun _ r ht => sound_serveBank ht r
  | neighbourWrite => exact keeps_serve h _ _ fun _ r ht => sound_serveNeighbour ht r
  | regulatorWrite => exact keeps_serve h _ _ fun _ r ht => ht.written r _ fun _ => ht.storeRegulator _
  | curveWrite => exact keeps_serve h _ _ fun _ r ht => ht.written r _ fun _ => ht.tables _
  | recorderWrite => exact keeps_serve h _ _ fun _ r ht => ht.written r _ fun _ => ht.tables _
  | chainWrite => exact keeps_serve h _ _ fun _ r ht => sound_serveChain ht r
  | mapperStatusRead => exact keeps_serve h _ _ fun _ _ ht => ht.smp _
  | ringStatusRead =>
    exact keeps_serve h _ _ fun _ _ ht => ⟨ht.forms.rif _ rfl ht.forms.transit, ht.tests.elsewhere rfl rfl rfl⟩
  | readSummary => exact keeps_readSummary h
  | readEvents => exact keeps_serve h _ _ fun _ _ ht => ht
  | readRecord => exact keeps_serve h _ _ fun _ r ht => sound_serveRecord ht r
  | feederOpen => exact keeps_serve h _ _ fun _ r ht => sound_serveFeederOpen ht r
  | feederClose => exact keeps_serve h _ _ fun _ r ht => sound_serveFeederClose ht r
  | feederReset => exact keeps_serve h _ _ fun _ r ht => sound_serveFeederReset ht r
  | clearContext => exact keeps_serve h _ _ fun _ r ht => sound_serveClearContext ht r
  | rectStart => exact keeps_serve h _ _ fun _ r ht => sound_serveRectStart ht r
  | rectStop => exact keeps_serve h _ _ fun _ r ht => sound_serveRectStop ht r
  | rectReset => exact keeps_serve h _ _ fun _ r ht => sound_serveRectReset ht r
  | setSetpoint => exact keeps_serve h _ _ fun _ r ht => sound_serveSetpoint ht r
  | stationReset => exact keeps_serve h _ _ fun _ r ht => sound_serveStationReset ht r
  | emergencyOpen => exact keeps_serve h _ _ fun _ r ht => sound_serveEmergency ht r
  | setMode => exact keeps_serve h _ _ fun _ r ht => sound_serveSetMode ht r
  | setTime => exact keeps_serve h _ _ fun _ _ ht => ht.loadTime _
  | ackEvents => exact keeps_serve h _ _ fun _ r ht => sound_serveAckEvents ht r
  | ackNotice => exact keeps_serve h _ _ fun _ _ ht => ht.ackNotice
  | recArm => exact keeps_serve h _ _ fun _ r ht => sound_serveRecArm ht r
  | recDisarm => exact keeps_serve h _ _ fun _ r ht => sound_serveRecDisarm ht r
  | recTrigger => exact keeps_serve h _ _ fun _ r ht => sound_serveRecTrigger ht r
  | store => exact keeps_serve h _ _ fun _ _ ht => ht.beginStore
  | restart => exact keeps_restart h

/-- Settles O3: the forms and the agreement of the tests are kept by every command, and taking the command from the
queue changes neither. -/
theorem invariantKeptByEveryStep : Obligations.InvariantKeptByEveryStep := by
  intro s t h stepped
  unfold step at stepped
  split at stepped
  · cases stepped; exact h
  · rename_i i rest _
    have popped : Inv { s with pending := rest } := h.elsewhere { h.forms with } rfl rfl rfl
    exact exec_keeps popped i t stepped

end Sys2Proof.Machine
end

-- ==== What the feeder controllers and the line test unit leave alone ====
section
/-!
The operations of the feeder controllers and of the line test unit reach the protection units, the section
coordinator, the rectifier, the station trip logic, the recorder and the operate reports that wait only where a
trip, an opening or a handshake does.
-/

namespace Sys2Proof.Machine
open Sys2Proof

/-- t is s but for the controllers, the line test unit, the orders and what reporting brings. -/
structure Quiet (s t : State) : Prop where
  fpu : t.fpu = s.fpu
  sco : t.sco = s.sco
  rcu : t.rcu = s.rcu
  stl : t.stl = s.stl
  drc : t.drc = s.drc
  operates : ∀ g : Feeder, t.fct[g].operateIn = s.fct[g].operateIn

theorem Quiet.refl (s : State) : Quiet s s := ⟨rfl, rfl, rfl, rfl, rfl, fun _ => rfl⟩

theorem Quiet.trans {s t u : State} (h : Quiet s t) (k : Quiet t u) : Quiet s u :=
  ⟨k.fpu.trans h.fpu, k.sco.trans h.sco, k.rcu.trans h.rcu, k.stl.trans h.stl, k.drc.trans h.drc,
    fun g => (k.operates g).trans (h.operates g)⟩

/-- The later operation first, so that the earlier one is known when its update is met. -/
theorem Quiet.after {s t u : State} (k : Quiet t u) (h : Quiet s t) : Quiet s u := h.trans k

theorem Quiet.ite {s t u : State} {p : Prop} [Decidable p] (h : Quiet s t) (k : Quiet s u) :
    Quiet s (if p then t else u) := by
  split
  · exact h
  · exact k

/-- An operation that leaves these parts and the controllers as they stand. -/
theorem Quiet.of_eq {s t : State} (fpu : t.fpu = s.fpu) (sco : t.sco = s.sco) (rcu : t.rcu = s.rcu)
    (stl : t.stl = s.stl) (drc : t.drc = s.drc) (fct : t.fct = s.fct) : Quiet s t :=
  ⟨fpu, sco, rcu, stl, drc, fun g => by rw [fct]⟩

theorem quiet_foldl {α : Type} (l : List α) (g : State → α → State) (h : ∀ s x, Quiet s (g s x)) (s : State) :
    Quiet s (l.foldl g s) := by
  induction l generalizing s with
  | nil => exact Quiet.refl s
  | cons x rest ih => exact (h s x).trans (ih (g s x))

theorem quiet_eachSlot (s : State) (g : State → TestSlot → State) (h : ∀ s k, Quiet s (g s k)) :
    Quiet s (s.eachSlot g) := (h s 0).trans (h _ 1)

section
variable (s : State) (f : Feeder)

theorem quiet_post (k : EventKind) (x : Subject) (c : Option Cause) (v : Option Int) : Quiet s (s.post k x c v) :=
  Quiet.of_eq rfl rfl rfl rfl rfl rfl

theorem quiet_sendOrder (o : BreakerOrder) : Quiet s (s.sendOrder f o) := Quiet.of_eq rfl rfl rfl rfl rfl rfl

theorem quiet_setTestSlot (k : TestSlot) (ph : TestPhase) : Quiet s (s.setTestSlot k ph) :=
  Quiet.of_eq rfl rfl rfl rfl rfl rfl

theorem quiet_setQueue (q : List Feeder) : Quiet s (s.setQueue q) := Quiet.of_eq rfl rfl rfl rfl rfl rfl

theorem quiet_modFct {g : Fct → Fct} (keeps : ∀ c, (g c).operateIn = c.operateIn) : Quiet s (s.modFct f g) := by
  refine ⟨rfl, rfl, rfl, rfl, rfl, fun k => ?_⟩
  by_cases same : f = k
  · subst same; rw [modFct_self]; exact keeps _
  · rw [modFct_ne s f k g same]

theorem quiet_fctSet {g : Fct → Fct} (keeps : ∀ c, (g c).operateIn = c.operateIn) : Quiet s (s.fctSet f g) :=
  (quiet_modFct s f keeps).trans (Quiet.of_eq rfl rfl rfl rfl rfl rfl)

/-! ### The controller -/

theorem quiet_fctEnter (st : FeederState) (t : Option Nat) : Quiet s (s.fctEnter f st t) :=
  quiet_fctSet s f fun _ => rfl

theorem quiet_fctOut : Quiet s (s.fctOut f) := quiet_fctSet s f fun _ => rfl

theorem quiet_lockOut (c : Cause) : Quiet s (s.lockOut f c) :=
  Quiet.after (quiet_post _ _ _ _ _) (quiet_fctSet s f fun _ => rfl)

theorem quiet_toOpening (c : Cause) (timed : Bool) : Quiet s (s.toOpening f c timed) := quiet_fctSet s f fun _ => rfl

theorem quiet_openWithoutTrip (c : Cause) : Quiet s (s.openWithoutTrip f c) :=
  (quiet_sendOrder s f _).trans (quiet_toOpening _ f c true)

theorem quiet_blindOnEntry : Quiet s (s.blindOnEntry f) := Quiet.ite (quiet_openWithoutTrip s f _) (Quiet.refl s)

theorem quiet_toClosing : Quiet s (s.toClosing f) :=
  ((quiet_sendOrder s f _).trans (quiet_fctEnter _ f _ _)).trans (quiet_blindOnEntry _ f)

theorem quiet_closedToService : Quiet s (s.closedToService f) :=
  ((quiet_fctEnter s f _ _).trans (quiet_post _ _ _ _ _)).trans (quiet_blindOnEntry _ f)

theorem quiet_toDeadTime (n : Nat) (c : Option Cause) : Quiet s (s.toDeadTime f n c) :=
  Quiet.after (quiet_post _ _ _ _ _) (quiet_fctSet s f fun _ => rfl)

theorem quiet_takeOutcome (o : TestOutcome) : Quiet s (s.takeOutcome f o) := by
  unfold State.takeOutcome
  dsimp only
  refine Quiet.ite (quiet_toClosing s f) (Quiet.ite ?_ (Quiet.ite (quiet_toDeadTime s f _ _) (quiet_lockOut s f _)))
  exact (quiet_fctEnter s f _ _).trans (quiet_post _ _ _ _ _)

theorem quiet_outcomeTaken (o : TestOutcome) : Quiet s (s.outcomeTaken f o) :=
  Quiet.ite (quiet_takeOutcome s f o) (Quiet.refl s)

/-! ### The line test unit -/

theorem quiet_endTest (k : TestSlot) (o : TestOutcome) : Quiet s (s.endTest k f o) := Quiet.of_eq rfl rfl rfl rfl rfl rfl

theorem quiet_handOutcome (o : TestOutcome) : Quiet s (s.handOutcome f o) :=
  Quiet.after (quiet_post _ _ _ _ _) (quiet_modFct s f fun _ => rfl)

theorem quiet_grant (k : TestSlot) : Quiet s (s.grant k f) :=
  ((quiet_setTestSlot s k _).trans (quiet_fctEnter _ f _ _)).trans (quiet_sendOrder _ f _)

theorem quiet_examine (n : Nat) : Quiet s (s.examine n) := by
  induction n generalizing s with
  | zero => exact Quiet.refl s
  | succ n ih =>
    rw [State.examine]
    split
    · split
      · split
        · exact ((quiet_setQueue s _).trans (quiet_handOutcome _ _ _)).trans (ih _)
        · exact ((quiet_setQueue s _).trans (quiet_grant _ _ _)).trans (ih _)
      · exact Quiet.refl s
    · exact Quiet.refl s

theorem quiet_examineHead : Quiet s s.examineHead := quiet_examine s 10

theorem quiet_examineFor : Quiet s (s.examineFor f) := Quiet.ite (quiet_examineHead s) (Quiet.refl s)

theorem quiet_enqueue : Quiet s (s.enqueue f) := (quiet_setQueue s _).trans (quiet_examineFor _ f)

theorem quiet_toTestWait (b : Bool) (n : Nat) : Quiet s (s.toTestWait f b n) :=
  Quiet.after (quiet_enqueue _ f) (quiet_fctSet s f fun _ => rfl)

theorem quiet_leavePlace : Quiet s (s.leavePlace f) :=
  Quiet.after (quiet_modFct _ f fun _ => rfl)
    (Quiet.after (quiet_eachSlot _ _ fun s k => quiet_setTestSlot s k _) (quiet_setQueue s _))

theorem quiet_examineAfter (before : State) : Quiet s (s.examineAfter before f) :=
  Quiet.ite (quiet_examineHead s) (Quiet.refl s)

theorem quiet_ltuWithdraw : Quiet s (s.ltuWithdraw f) :=
  (quiet_leavePlace s f).trans (quiet_examineAfter _ f s)

theorem quiet_withdrawPending : Quiet s (s.withdrawPending f) := by
  unfold State.withdrawPending
  split
  · exact quiet_ltuWithdraw s f
  · exact (quiet_sendOrder s f _).trans (quiet_ltuWithdraw _ f)
  · exact Quiet.refl s

theorem quiet_releaseEnds (k : TestSlot) (p : Option TestOutcome) : Quiet s (s.releaseEnds k f p) := by
  unfold State.releaseEnds
  refine Quiet.trans ?_ (quiet_examineHead _)
  split
  · exact ((quiet_setTestSlot s k _).trans (quiet_post _ _ _ _ _)).trans (quiet_outcomeTaken _ f _)
  · exact quiet_setTestSlot s k _

theorem quiet_ltuContactor (b : Vector TestPhase 2) (on : Bool) : Quiet s (s.ltuContactor b f on) := by
  refine quiet_eachSlot s _ fun s k => ?_
  split
  · exact Quiet.ite (quiet_setTestSlot s k _) (Quiet.refl s)
  · exact Quiet.ite (quiet_endTest s f k _) (Quiet.refl s)
  · exact Quiet.ite (quiet_endTest s f k _) (Quiet.refl s)
  · exact Quiet.ite (quiet_releaseEnds s f k _) (Quiet.refl s)
  · exact Quiet.refl s

theorem quiet_ltuLine (v : Int) : Quiet s (s.ltuLine f v) := by
  refine quiet_eachSlot s _ fun s k => ?_
  split
  · exact Quiet.ite (Quiet.ite (quiet_endTest s f k _)
      (Quiet.ite (quiet_setTestSlot s k _) (quiet_endTest s f k _))) (Quiet.refl s)
  · exact Quiet.refl s

theorem quiet_ltuLoss (uses : Feeder → Bool) : Quiet s (s.ltuLoss uses) := by
  refine quiet_eachSlot s _ fun s k => ?_
  split
  · exact Quiet.ite (quiet_endTest s _ k _) (Quiet.refl s)
  · exact Quiet.refl s

theorem quiet_ltuYield : Quiet s (s.ltuYield f) := by
  refine Quiet.ite (quiet_eachSlot s _ fun s k => Quiet.ite ?_ (Quiet.refl s)) (Quiet.refl s)
  exact ((((quiet_setTestSlot s k _).trans (quiet_sendOrder _ f _)).trans (quiet_fctEnter _ f _ _)).trans
    (quiet_enqueue _ f)).trans (quiet_post _ _ _ _ _)

theorem quiet_ltuSection : Quiet s (s.ltuSection f) := (quiet_ltuYield s f).trans (quiet_examineFor _ f)

/-! ### Reclosing, loss and TT_FAIL -/

theorem quiet_examineHolds : Quiet s (s.examineHolds f) :=
  Quiet.ite (Quiet.ite (quiet_toClosing s f) (quiet_toTestWait s f _ _)) (Quiet.refl s)

theorem quiet_examineFollow : Quiet s (s.examineFollow f) := Quiet.ite (quiet_toClosing s f) (Quiet.refl s)

theorem quiet_fctSection : Quiet s (s.fctSection f) := Quiet.ite (quiet_lockOut s f _) (quiet_examineFollow s f)

theorem quiet_withdrawn_lockOut (c : Cause) : Quiet s ((s.withdrawPending f).lockOut f c) :=
  (quiet_withdrawPending s f).trans (quiet_lockOut _ f c)

theorem quiet_takeTtFail : Quiet s (s.takeTtFail f) := by
  unfold State.takeTtFail
  exact Quiet.ite (quiet_modFct s f fun _ => rfl) (Quiet.ite (quiet_withdrawn_lockOut s f _) (Quiet.refl s))

theorem quiet_fctLoss : Quiet s (s.fctLoss f) := by
  unfold State.fctLoss
  exact Quiet.ite (Quiet.refl s) (Quiet.ite (quiet_openWithoutTrip s f _)
    (Quiet.ite (quiet_withdrawn_lockOut s f _) (Quiet.refl s)))

theorem quiet_reportSection (before : State) : Quiet s (s.reportSection before f) :=
  Quiet.ite ((quiet_fctSection s f).trans (quiet_ltuSection _ f)) (Quiet.refl s)

end

end Sys2Proof.Machine
end

-- ==== Record memory outside the chain ====
section
/-!
No command but POWER_ON reaches a word of record memory outside the loaded chain, and none touches the waiting commands:
O58 and O2. Both follow each command through the operations it is made of.
-/

namespace Sys2Proof.Machine
open Sys2Proof

/-! ### The recorder -/

/-- Address a lies in no region of the chain. -/
def OutsideChain (chain : List ChainDesc) (a : Nat) : Prop :=
  ∀ x ∈ chain, a < x.start ∨ x.start + (if x.length = 0 then 4096 else x.length) ≤ a

/-- Outside the chain, words that none in the write buffer waits for keep what they held, and none comes to wait. -/
def Drc.Spares (chain : List ChainDesc) (d e : Drc) : Prop :=
  ∀ a, OutsideChain chain a → (∀ x ∈ d.writeBuf, x.1 ≠ a) →
    memRead e.mem a = memRead d.mem a ∧ ∀ x ∈ e.writeBuf, x.1 ≠ a

section
variable {chain : List ChainDesc} {d e : Drc}

theorem Drc.Spares.refl (chain : List ChainDesc) (d : Drc) : d.Spares chain d := fun _ _ clear => ⟨rfl, clear⟩

theorem Drc.Spares.trans {g : Drc} (h : d.Spares chain e) (k : e.Spares chain g) : d.Spares chain g := by
  intro a outside clear
  obtain ⟨same, clearThen⟩ := h a outside clear
  obtain ⟨sameThen, clearLast⟩ := k a outside clearThen
  exact ⟨sameThen.trans same, clearLast⟩

/-- Only the buffer and the memory count. -/
theorem Drc.Spares.of_eq (h : d.Spares chain e) {g : Drc} (mem : g.mem = e.mem) (buf : g.writeBuf = e.writeBuf) :
    d.Spares chain g := by
  intro a outside clear
  rw [mem, buf]
  exact h a outside clear

theorem memRead_store_ne (m : RecordMemory) {a b : Nat} (w : Word) (other : b ≠ a) :
    memRead (memStore m a w) b = memRead m b := by
  unfold memStore
  split
  · exact memRead_write_ne m a b w other
  · rfl

theorem memRead_foldl_store (l : List (Nat × Word)) (m : RecordMemory) {a : Nat} (others : ∀ x ∈ l, x.1 ≠ a) :
    memRead (l.foldl (fun m x => memStore m x.1 x.2) m) a = memRead m a := by
  induction l generalizing m with
  | nil => rfl
  | cons x rest ih =>
    rw [List.foldl_cons, ih _ fun y hy => others y (List.mem_cons_of_mem _ hy)]
    exact memRead_store_ne m x.2 (others x List.mem_cons_self).symm

theorem spares_flush (chain : List ChainDesc) (d : Drc) : d.Spares chain d.flush := fun _ _ clear =>
  ⟨memRead_foldl_store _ _ clear, nofun⟩

/-- What a placed word for b leaves of a. -/
theorem buffer_spares (d : Drc) {a b : Nat} (w : Word) (other : b ≠ a) (clear : ∀ x ∈ d.writeBuf, x.1 ≠ a) :
    memRead (d.buffer b w).mem a = memRead d.mem a ∧ ∀ x ∈ (d.buffer b w).writeBuf, x.1 ≠ a := by
  have joined (l : List (Nat × Word)) (h : ∀ x ∈ l, x.1 ≠ a) : ∀ x ∈ l ++ [(b, w)], x.1 ≠ a := by
    intro x hx
    rcases List.mem_append.1 hx with old | new
    · exact h x old
    · obtain rfl := List.mem_singleton.1 new
      exact other
  unfold Drc.buffer
  split
  · rename_i y rest full
    rw [full] at clear
    split
    · exact ⟨memRead_store_ne _ _ (clear y List.mem_cons_self).symm,
        joined rest fun x hx => clear x (List.mem_cons_of_mem _ hx)⟩
    · refine ⟨rfl, joined _ ?_⟩
      rw [full]
      exact clear
  · exact ⟨rfl, joined [] nofun⟩

/-- A word of the record lies in a region of the chain. -/
theorem chainAddr_ne {n a b : Nat} (outside : OutsideChain chain a) (lies : chainAddr chain n = some b) : b ≠ a := by
  induction chain generalizing n with
  | nil => cases lies
  | cons x rest ih =>
    have apart : a < x.start ∨ x.start + descSize x ≤ a := outside x List.mem_cons_self
    unfold chainAddr at lies
    split at lies
    · have here := Option.some.inj lies
      omega
    · exact ih (fun y hy => outside y (List.mem_cons_of_mem _ hy)) lies

theorem spares_placeAt (chain : List ChainDesc) (d : Drc) (n : Nat) (w : Word) :
    d.Spares chain (d.placeAt chain n w) := by
  intro a outside clear
  unfold Drc.placeAt
  split
  · exact buffer_spares d w (chainAddr_ne outside (by assumption)) clear
  · exact ⟨rfl, clear⟩

theorem spares_placeFrom (chain : List ChainDesc) (d : Drc) (n : Nat) (ws : List Word) :
    d.Spares chain (d.placeFrom chain n ws) := by
  induction ws generalizing d n with
  | nil => exact Drc.Spares.refl chain d
  | cons w rest ih => exact (spares_placeAt chain d n w).trans (ih _ _)

theorem spares_drain (chain : List ChainDesc) (d : Drc) (r : RecordInProgress) (reason : EndReason) :
    d.Spares chain (d.drain chain r reason) := (spares_placeFrom chain d 5 _).of_eq rfl rfl

theorem spares_startCapture (d : Drc) (t : Tables) (now : Nat) (c : Cause) (x : Subject) (b : List (List Int)) :
    d.Spares t.chain (d.startCapture t now c x b) := (spares_placeFrom t.chain d 0 _).of_eq rfl rfl

theorem spares_endIfFull (d : Drc) (t : Tables) : d.Spares t.chain (d.endIfFull t) := by
  unfold Drc.endIfFull
  split
  · split
    · exact spares_drain _ _ _ _
    · exact Drc.Spares.refl _ _
  · exact Drc.Spares.refl _ _

theorem spares_trigger (d : Drc) (t : Tables) (now : Nat) (c : Cause) (x : Subject) :
    d.Spares t.chain (d.trigger t now c x) := by
  unfold Drc.trigger
  split
  · exact (spares_startCapture d t now c x _).trans (spares_endIfFull _ t)
  · exact (Drc.Spares.refl _ d).of_eq rfl rfl
  · exact (Drc.Spares.refl _ d).of_eq rfl rfl

theorem spares_tick (d : Drc) (t : Tables) (set : List Int) : d.Spares t.chain (d.tick t set) := by
  unfold Drc.tick
  split
  · exact (Drc.Spares.refl _ d).of_eq rfl rfl
  · dsimp only
    have placed (n : Nat) : d.Spares t.chain (d.flush.placeFrom t.chain n (setWords set)) :=
      (spares_flush _ d).trans (spares_placeFrom _ _ _ _)
    split
    · exact (placed _).trans (spares_drain _ _ _ _)
    · exact (placed _).of_eq rfl rfl
  · exact Drc.Spares.refl _ d

theorem spares_restart (chain : List ChainDesc) (d : Drc) : d.Spares chain d.restart := by
  have shortened (k : Nat) : d.Spares chain { d with writeBuf := d.writeBuf.take k } := fun _ _ clear =>
    ⟨rfl, fun x hx => clear x (List.mem_of_mem_take hx)⟩
  unfold Drc.restart
  split
  · exact Drc.Spares.refl _ d
  · exact ((shortened _).trans (spares_flush _ _)).of_eq rfl rfl
  · exact (spares_flush _ d).of_eq rfl rfl

end

/-! ### The part -/

/-- The waiting commands and the recorder stand. -/
structure Still (s t : State) : Prop where
  pending : t.pending = s.pending
  drc : t.drc = s.drc

/-- The waiting commands and the chain stand, and the recorder spares what lies outside the chain. -/
structure Safe (s t : State) : Prop where
  pending : t.pending = s.pending
  chain : t.tables.chain = s.tables.chain
  drc : s.drc.Spares s.tables.chain t.drc

/-- As `Safe`, where the chain may be loaded anew. -/
structure Apart (s t : State) : Prop where
  pending : t.pending = s.pending
  drc : s.drc.Spares s.tables.chain t.drc

theorem Still.trans {s t u : State} (h : Still s t) (k : Still t u) : Still s u :=
  ⟨k.pending.trans h.pending, k.drc.trans h.drc⟩

theorem Safe.refl (s : State) : Safe s s := ⟨rfl, rfl, .refl _ _⟩

theorem Safe.trans {s t u : State} (h : Safe s t) (k : Safe t u) : Safe s u :=
  ⟨k.pending.trans h.pending, k.chain.trans h.chain, h.drc.trans (h.chain ▸ k.drc)⟩

/-- The later operation first, so that the earlier one is known when its update is met. -/
theorem Safe.after {s t u : State} (k : Safe t u) (h : Safe s t) : Safe s u := h.trans k

theorem Safe.ite {s t u : State} {p : Prop} [Decidable p] (h : Safe s t) (k : Safe s u) :
    Safe s (if p then t else u) := by
  split
  · exact h
  · exact k

theorem Safe.apart {s t : State} (h : Safe s t) : Apart s t := ⟨h.pending, h.drc⟩

theorem Safe.then {s t u : State} (h : Safe s t) (k : Apart t u) : Apart s u :=
  ⟨k.pending.trans h.pending, h.drc.trans (h.chain ▸ k.drc)⟩

theorem Still.apart {s t : State} (h : Still s t) : Apart s t := ⟨h.pending, h.drc ▸ Drc.Spares.refl _ _⟩

theorem Apart.still {s t u : State} (h : Apart s t) (k : Still t u) : Apart s u :=
  ⟨k.pending.trans h.pending, k.drc ▸ h.drc⟩

theorem Still.safe {s t : State} (h : Still s t) (chain : t.tables.chain = s.tables.chain) : Safe s t :=
  ⟨h.pending, chain, h.apart.drc⟩

theorem safe_calm {s t : State} (h : Calm s t) (drc : t.drc = s.drc) : Safe s t :=
  Still.safe ⟨h.pending, drc⟩ (by rw [h.tables])

theorem safe_foldl {α : Type} (l : List α) (g : State → α → State) (h : ∀ s x, Safe s (g s x)) (s : State) :
    Safe s (l.foldl g s) := by
  induction l generalizing s with
  | nil => exact Safe.refl s
  | cons x rest ih => exact (h s x).trans (ih (g s x))

section
variable (s : State) (f : Feeder)

/-! ### Trips and what brings them -/

theorem safe_trigger (c : Cause) (x : Subject) : Safe s (s.trigger c x) :=
  ⟨(calm_trigger s c x).pending, by rw [(calm_trigger s c x).tables], by rw [trigger_drc]; exact spares_trigger _ _ _ _ _⟩

theorem safe_post (k : EventKind) (x : Subject) (c : Option Cause) (v : Option Int) : Safe s (s.post k x c v) :=
  safe_calm (calm_post s k x c v) rfl

theorem safe_sendOrder (o : BreakerOrder) : Safe s (s.sendOrder f o) := safe_calm (calm_sendOrder s f o) rfl

theorem safe_stl (x : Stl) : Safe s { s with stl := x } := safe_calm (calm_stl s x) rfl

theorem safe_tripHands (c : Cause) (r : Option OperateReport) : Safe s (s.tripHands f c r) := by
  have noticed : Safe s (((s.sendOrder f (if s.fct[f].state = .testing then .testOff else .opened)).tripNotice f c
      r).post .feederTrip (.feeder f) (some c) (some (s.tripCurrent f r))) :=
    ((safe_sendOrder s f _).trans (safe_calm (calm_tripNotice _ f c r) rfl)).trans (safe_post _ _ _ _ _)
  unfold State.tripHands
  dsimp only
  split
  · exact noticed.trans (safe_trigger _ _ _)
  · exact noticed

theorem toPhaseBack_drc : s.toPhaseBack.drc = s.drc := by
  unfold State.toPhaseBack
  split <;> rfl

theorem toRegulating_drc : s.toRegulating.drc = s.drc := toPhaseBack_drc _

theorem ttRequest_drc (b : Bool) : (s.ttRequest f b).drc = s.drc := by
  unfold State.ttRequest
  dsimp only
  split
  · rfl
  · split
    · split <;> rfl
    · split <;> rfl

theorem safe_ttRequest (b : Bool) : Safe s (s.ttRequest f b) := safe_calm (calm_ttRequest s f b) (ttRequest_drc s f b)

theorem safe_phaseBackRequest : Safe s (s.phaseBackRequest f) :=
  safe_calm (calm_phaseBackRequest s f) (toPhaseBack_drc _)

theorem safe_modFct {g : Fct → Fct}
    (keeps : ∀ c, (g c).status = c.status ∧ (g c).supervised = c.supervised ∧ (g c).supTimer = c.supTimer) :
    Safe s (s.modFct f g) := safe_calm (calm_modFct s f g keeps) rfl

theorem safe_tripRequests (r : Option OperateReport) : Safe s (s.tripRequests f r) := by
  unfold State.tripRequests
  split
  · exact Safe.refl s
  · rename_i r
    have requested : Safe s (if r.phaseBack then
        (s.modFct f fun c => { c with pbRaised := true }).phaseBackRequest f else s) :=
      Safe.ite (Safe.after (safe_phaseBackRequest _ f) (safe_modFct s f fun _ => ⟨rfl, rfl, rfl⟩)) (Safe.refl s)
    dsimp only
    split
    · exact requested.trans (safe_ttRequest _ _ _)
    · exact requested

theorem phaseBackWithdraw_drc : (s.phaseBackWithdraw f).drc = s.drc := by
  unfold State.phaseBackWithdraw
  dsimp only
  split
  · exact toRegulating_drc _
  · rfl

theorem dropPhaseBack_drc : (s.dropPhaseBack f).drc = s.drc := by
  unfold State.dropPhaseBack
  split
  · exact phaseBackWithdraw_drc _ f
  · rfl

theorem takeDecision_drc (c : Option Cause) (d : Decision) : (s.takeDecision f c d).drc = s.drc := by
  unfold State.takeDecision
  split <;> rfl

theorem openingCompletes_drc : (s.openingCompletes f).drc = s.drc :=
  (takeDecision_drc _ f _ _).trans (dropPhaseBack_drc _ f)

theorem safe_trip (c : Cause) (r : Option OperateReport) : Safe s (s.trip f c r) := by
  unfold State.trip
  dsimp only
  refine Safe.ite (safe_tripHands s f c r) ?_
  have withdrawn : Safe s (if s.fct[f].state = .testing then ((s.tripHands f c r).tripRequests f r).ltuWithdraw f
      else (s.tripHands f c r).tripRequests f r) := by
    have requested := (safe_tripHands s f c r).trans (safe_tripRequests _ f r)
    exact Safe.ite (requested.trans (safe_calm (calm_ltuWithdraw _ f) (quiet_ltuWithdraw _ f).drc)) requested
  have opening (b : Bool) := withdrawn.trans (safe_calm (calm_toOpening _ f c b) rfl)
  exact Safe.ite ((opening _).trans (safe_calm (calm_openingCompletes _ f) (openingCompletes_drc _ f))) (opening _)

theorem safe_takeOperate (r : OperateReport) : Safe s (s.takeOperate f r) := by
  unfold State.takeOperate
  exact Safe.ite (safe_trip s f _ _) (Safe.refl s)

theorem safe_takeTransfer : Safe s (s.takeTransfer f) := Safe.ite (safe_trip s f _ _) (Safe.refl s)

theorem safe_withdrawn_lockOut (c : Cause) : Safe s ((s.withdrawPending f).lockOut f c) :=
  safe_calm ((calm_withdrawPending s f).trans (calm_lockOut _ f c)) (quiet_withdrawn_lockOut s f c).drc

theorem safe_stationNotice : Safe s (s.stationNotice f) := by
  unfold State.stationNotice
  dsimp only
  refine Safe.ite (safe_trip s f _ _) (Safe.ite ?_ (Safe.ite (safe_withdrawn_lockOut s f _)
    (Safe.ite (safe_sendOrder s f _) (Safe.refl s))))
  exact Safe.after (safe_calm (calm_tripNotice _ f _ _) rfl) (safe_modFct s f fun _ => ⟨rfl, rfl, rfl⟩)

theorem safe_stationNotices : Safe s s.stationNotices :=
  safe_foldl _ _ (fun s f => Safe.ite (safe_stationNotice s f) (Safe.refl s)) s

theorem safe_stationRequests : Safe s s.stationRequests :=
  safe_foldl _ _ (fun s f => Safe.ite (safe_ttRequest s f _) (Safe.refl s)) s

theorem safe_stationReport (c : Cause) (v : Option Int) : Safe s (s.stationReport c v) :=
  (safe_post s _ _ _ _).trans (safe_trigger _ _ _)

theorem stationBlock_drc : s.stationBlock.drc = s.drc := by
  unfold State.stationBlock
  dsimp only
  split <;> rfl

theorem safe_stationTrip (c : Cause) (v : Int) : Safe s (s.stationTrip c v) :=
  ((((safe_calm (calm_setLockout s true) rfl).trans (safe_calm (calm_stationBlock _) (stationBlock_drc _))).trans
    (safe_stationNotices _)).trans (safe_stationRequests _)).trans (safe_stationReport _ _ _)

theorem rectStop_drc : s.rectStop.1.drc = s.drc := by
  unfold State.rectStop
  split <;> rfl

theorem safe_emergency : Safe s s.emergency :=
  ((safe_calm (calm_rectStop s) (rectStop_drc s)).trans (safe_stationNotices _)).trans (safe_stationReport _ _ _)

theorem safe_leakDeliver (v : Int) (k : Nat) (d : Bool) : Safe s (s.leakDeliver v k d) := by
  unfold State.leakDeliver
  dsimp only
  exact Safe.ite ((safe_stl s _).trans (safe_stationTrip _ _ _)) (safe_stl s _)

/-! ### Streams -/

theorem fpuDeliver_drc (v : Int) (k : Nat) (d : Bool) : (s.fpuDeliver f v k d).drc = s.drc := by
  unfold State.fpuDeliver
  dsimp only
  split <;> rfl

theorem overcurrent_drc (v : Int) (d : Bool) : (s.overcurrent v d).drc = s.drc := by
  unfold State.overcurrent
  split
  · dsimp only
    generalize (if (s.tables.station.iRectTrip : Int) ≤ v then (if d then 0 else s.rcu.ocRun) + 1 else 0) = run
    split <;> rfl
  · rfl

theorem safe_examineHolds : Safe s (s.examineHolds f) := safe_calm (calm_examineHolds s f) (quiet_examineHolds s f).drc

theorem safe_examineFollow : Safe s (s.examineFollow f) :=
  safe_calm (calm_examineFollow s f) (quiet_examineFollow s f).drc

theorem safe_examineHead : Safe s s.examineHead := safe_calm (calm_examineHead s) (quiet_examineHead s).drc

theorem safe_deliver (p : Point) (v : Int) (k : Nat) (d : Bool) : Safe s (s.deliver p v k d) := by
  unfold State.deliver
  split
  · exact (safe_calm (calm_fpuDeliver s _ v k d) (fpuDeliver_drc s _ v k d)).trans (safe_examineHolds _ _)
  · exact (safe_examineFollow s _).trans (safe_calm (calm_ltuLine _ _ v) (quiet_ltuLine _ _ v).drc)
  · exact safe_examineHead s
  · exact safe_calm (calm_overcurrent s v d) (overcurrent_drc s v d)
  · exact Safe.refl s
  · exact safe_leakDeliver s v k d

/-- A change of a part's own record that the pending commands, the tables and the recorder do not see. -/
theorem Safe.elsewhere {s t : State} (pending : t.pending = s.pending) (tables : t.tables = s.tables)
    (drc : t.drc = s.drc) : Safe s t := Still.safe ⟨pending, drc⟩ (by rw [tables])

theorem safe_accept (p : Point) (seq : Nat) (v : Int) (k : Nat) (d : Bool) : Safe s (s.accept p seq v k d) := by
  refine Safe.after (safe_deliver _ p v k d) ?_
  exact Safe.ite (Safe.after (safe_post _ _ _ _ _) (.elsewhere rfl rfl rfl)) (.elsewhere rfl rfl rfl)

theorem safe_takeSample (key : Key) (seq : Nat) (raw : Int) (q : Quality) : Safe s (s.takeSample key seq raw q) := by
  unfold State.takeSample
  split
  · exact .elsewhere rfl rfl rfl
  · split
    · exact .elsewhere rfl rfl rfl
    · split
      · split
        · exact .elsewhere rfl rfl rfl
        · exact safe_accept s _ _ _ _ _
        · exact safe_accept s _ _ _ _ _
      · exact Safe.refl s

theorem safe_takeEntries (src seq ch : Nat) (entries : List (Int × Quality)) :
    Safe s (s.takeEntries src seq ch entries) := by
  induction entries generalizing s ch with
  | nil => exact Safe.refl s
  | cons entry rest ih => exact (safe_takeSample s _ _ _ _).trans (ih _ (ch + 1))

theorem safe_lossNotice (p : Point) : Safe s (s.lossNotice p) := by
  have lost (f : Feeder) : (s.fpuLoss f).drc = s.drc := by
    unfold State.fpuLoss
    split <;> rfl
  unfold State.lossNotice
  split
  · exact (safe_calm (calm_fpuLoss s _) (lost _)).trans (safe_calm (calm_fctLoss _ _) (quiet_fctLoss _ _).drc)
  · exact safe_calm (calm_ltuLoss s _) (quiet_ltuLoss s _).drc
  · exact safe_calm (calm_ltuLoss s _) (quiet_ltuLoss s _).drc
  · exact .elsewhere rfl rfl rfl
  · exact Safe.refl s
  · exact .elsewhere rfl rfl rfl

theorem safe_losePoint (p : Point) : Safe s (s.losePoint p) := by
  have noticed : Safe s ((s.changing fun s => s.modPoint p fun x =>
      { x with sighted := false, ref := none, age := 0, lossDue := false }).lossNotice p) :=
    Safe.after (safe_lossNotice _ p) (.elsewhere rfl rfl rfl)
  unfold State.losePoint
  dsimp only
  exact Safe.ite (noticed.trans (safe_post _ _ _ _ _)) noticed

/-! ### Neighbour links -/

theorem clearHandshake_drc (c : Cause) : (s.clearHandshake f c).drc = s.drc := by
  unfold State.clearHandshake
  dsimp only
  split
  · exact (quiet_takeTtFail _ f).drc
  · rfl

theorem safe_clearHandshake (c : Cause) : Safe s (s.clearHandshake f c) :=
  safe_calm (calm_clearHandshake s f c) (clearHandshake_drc s f c)

theorem safe_reevaluate : Safe s (s.reevaluate f) := by
  refine safe_calm (calm_reevaluate s f) ?_
  unfold State.reevaluate
  dsimp only
  split <;> rfl

theorem safe_reportSection (b : State) : Safe s (s.reportSection b f) :=
  safe_calm (calm_reportSection s b f) (quiet_reportSection s f b).drc

theorem safe_takeStanding (e : SectionEntry) : Safe s (s.takeStanding f e) := by
  refine safe_calm (calm_takeStanding s f e) ?_
  unfold State.takeStanding
  dsimp only
  split <;> rfl

theorem safe_takeFarAck (b : Bool) : Safe s (s.takeFarAck f b) := by
  refine safe_calm (calm_takeFarAck s f b) ?_
  unfold State.takeFarAck
  dsimp only
  split <;> rfl

theorem safe_takeFarReq (b : Bool) : Safe s (s.takeFarReq f b) := by
  unfold State.takeFarReq
  dsimp only
  refine Safe.ite (Safe.ite (Safe.refl s) (Safe.ite ?_ (.elsewhere rfl rfl rfl))) (.elsewhere rfl rfl rfl)
  exact Safe.after (safe_trigger _ _ _) (Safe.after (safe_takeTransfer _ f) (.elsewhere rfl rfl rfl))

theorem safe_advance (b : State) : Safe s (s.advance b f) := by
  unfold State.advance
  split
  · exact Safe.refl s
  · split
    · exact safe_takeStanding s f _
    · exact (safe_takeFarAck s f _).trans (safe_takeFarReq _ f _)

theorem safe_eachOnSlot (n : Slot) (g : State → Feeder → State) (h : ∀ s f, Safe s (g s f)) :
    Safe s (s.eachOnSlot n g) := safe_foldl _ g h s

theorem safe_linkDown (k : Slot) (c : Cause) : Safe s (s.linkDown k c) := by
  unfold State.linkDown
  refine Safe.after (safe_post _ _ _ _ _) ?_
  refine Safe.after (safe_eachOnSlot _ k _ fun t f => safe_reportSection t f s) ?_
  refine Safe.after (safe_eachOnSlot _ k _ fun t f => safe_reevaluate t f) ?_
  refine Safe.after (safe_eachOnSlot _ k _ fun t f => .elsewhere rfl rfl rfl) ?_
  refine Safe.after (safe_eachOnSlot _ k _ fun t f => safe_clearHandshake t f _) ?_
  exact .elsewhere rfl rfl rfl

theorem safe_linkAccept (k : Slot) : Safe s (s.linkAccept k) := by
  unfold State.linkAccept
  dsimp only
  exact Safe.ite (.elsewhere rfl rfl rfl) (Safe.after (safe_post _ _ _ _ _) (.elsewhere rfl rfl rfl))

theorem safe_acceptFrame (k : Slot) (fr : NeighbourFrame) : Safe s (s.acceptFrame k fr) := by
  unfold State.acceptFrame
  refine Safe.after (safe_eachOnSlot _ k _ fun t f => safe_reportSection t f s) ?_
  refine Safe.after (safe_eachOnSlot _ k _ fun t f => safe_advance t f s) ?_
  refine Safe.after (safe_eachOnSlot _ k _ fun t f => safe_reevaluate t f) ?_
  refine Safe.after (safe_eachOnSlot _ k _ fun t f =>
    Safe.ite (safe_clearHandshake t f _) (Safe.refl t)) ?_
  refine Safe.after (safe_eachOnSlot _ k _ fun t f => .elsewhere rfl rfl rfl) ?_
  exact (safe_linkAccept s k).trans (.elsewhere rfl rfl rfl)

end

end Sys2Proof.Machine
end

-- ==== The waiting commands and record memory through every command ====
section
/-!
Every command through the operations it is made of, then O2 and O58.
-/

namespace Sys2Proof.Machine
open Sys2Proof

/-- The command answers a next state that keeps the waiting commands and spares what lies outside the chain. -/
def Spares (s : State) (r : Result) : Prop := ∃ t : State, r = .next t ∧ Apart s t

theorem spares_next {s t : State} (h : Apart s t) : Spares s (.next t) := ⟨t, rfl, h⟩

theorem spares_whenRunning {s t : State} (h : Apart s t) : Spares s (whenRunning s t) := by
  refine spares_next ?_
  split
  · exact h
  · exact (Safe.refl s).apart

theorem spares_whenPowered {s t : State} (h : Apart s t) : Spares s (whenPowered s t) := by
  refine spares_next ?_
  split
  · exact (Safe.refl s).apart
  · exact h

/-- A running part acts where its row is due, and stands elsewhere. -/
theorem spares_due {s t : State} {p : Prop} [Decidable p] (h : Safe s t) :
    Spares s (whenRunning s (if p then t else s)) := spares_whenRunning (Safe.ite h (Safe.refl s)).apart

section
variable (s : State)

/-! ### The ring -/

theorem safe_loadTime (ms : Nat) : Safe s (s.loadTime ms) := .elsewhere rfl rfl rfl

theorem fctPosition_drc (f : Feeder) (p : Position) : (s.fctPosition f p).drc = s.drc := by
  unfold State.fctPosition
  split
  · exact (quiet_blindOnEntry _ f).drc
  · rfl
  · exact (quiet_closedToService _ f).drc
  · exact ((quiet_withdrawPending s f).trans (quiet_closedToService _ f)).drc
  · exact ((quiet_withdrawPending s f).trans (quiet_closedToService _ f)).drc
  · exact (quiet_closedToService s f).drc
  · rfl
  · exact openingCompletes_drc s f
  · exact (quiet_closedToService s f).drc
  · exact (quiet_examineHolds s f).drc
  · exact (quiet_closedToService s f).drc
  · exact (quiet_examineFollow s f).drc
  · rfl

theorem safe_breakerReport (f : Feeder) (st : BreakerStatus) : Safe s (s.breakerReport f st) := by
  have kept : Safe s (s.modFct f fun c =>
      { c with status := some st, supervised := true, supTimer := some halfSecond }) := .elsewhere rfl rfl rfl
  exact ((kept.trans (safe_calm (calm_fctPosition _ f _) (fctPosition_drc _ f _))).trans
    (safe_calm (calm_ltuContactor _ _ _ _) (quiet_ltuContactor _ f _ _).drc)).trans
    (safe_calm (calm_examineFor _ f) (quiet_examineFor _ f).drc)

theorem safe_startRegulating : Safe s s.startRegulating := safe_calm (calm_startRegulating s) (toRegulating_drc _)

theorem safe_rectHandle (st : RectStatus) : Safe s (s.rectHandle st) := by
  have faulted (t : State) : Safe t (if st.gateFault && t.rcu.active then t.rectBlock .gateFault else t) :=
    Safe.ite (.elsewhere rfl rfl rfl) (Safe.refl t)
  refine Safe.after (faulted _) ?_
  split
  · split
    · exact Safe.after (safe_startRegulating _) (.elsewhere rfl rfl rfl)
    · exact .elsewhere rfl rfl rfl
    · exact Safe.refl _
  · split
    · exact safe_startRegulating _
    all_goals exact .elsewhere rfl rfl rfl

theorem safe_rectReport (st : RectStatus) : Safe s (s.rectReport st) := by
  have kept : Safe s { s with rcu := { s.rcu with status := some st, supervised := true
                                                  supTimer := some halfSecond } } := .elsewhere rfl rfl rfl
  exact kept.trans (safe_rectHandle _ st)

theorem servePlain_still (r : Request) : Still s (s.servePlain r) := by
  unfold State.servePlain
  split
  · exact ⟨rfl, rfl⟩
  · split <;> exact ⟨rfl, rfl⟩

theorem servePlains_still (bound : Nat) : Still s (State.servePlains bound s) ∧
    (State.servePlains bound s).tables = s.tables := by
  induction bound generalizing s with
  | zero => exact ⟨⟨rfl, rfl⟩, rfl⟩
  | succ bound ih =>
    rw [State.servePlains]
    split
    · rename_i r rest waits
      split
      · exact ⟨⟨rfl, rfl⟩, rfl⟩
      · obtain ⟨still, tables⟩ := ih (s.popRequest.servePlain r)
        have popped : Still s s.popRequest := ⟨rfl, rfl⟩
        refine ⟨(popped.trans (servePlain_still s.popRequest r)).trans still, tables.trans ?_⟩
        unfold State.servePlain
        split
        · rfl
        · split <;> rfl
    · exact ⟨⟨rfl, rfl⟩, rfl⟩

theorem settle_still : Still s s.settle := (servePlains_still s 7).1

theorem safe_settle : Safe s s.settle :=
  (settle_still s).safe (by rw [State.settle, (servePlains_still s 7).2])

theorem safe_requestIn (fr : Frame) : Safe s (s.requestIn fr) := by
  unfold State.requestIn
  exact Safe.ite (Safe.after (safe_settle _) (.elsewhere rfl rfl rfl)) (.elsewhere rfl rfl rfl)

theorem safe_readBy (fr : Frame) : Safe s (s.readBy fr) := by
  unfold State.readBy
  split
  · exact safe_takeEntries s _ _ _ _
  · unfold State.timeIn
    exact Safe.ite (safe_loadTime s _) (Safe.refl s)
  · unfold State.breakerIn
    split
    · exact safe_breakerReport s _ _
    · exact Safe.refl s
  · unfold State.rectIn
    split
    · exact safe_rectReport s _
    · exact Safe.refl s
  · unfold State.linkIn
    split
    · exact Safe.refl s
    · split
      · exact safe_acceptFrame s _ _
      · exact Safe.refl s
  · exact safe_requestIn s fr
  · exact Safe.refl s

theorem safe_hand (fr : Frame) : Safe s (s.hand fr) :=
  Safe.ite (Safe.ite (safe_readBy s fr) (Safe.refl s)) (Safe.ite (Safe.refl s) (.elsewhere rfl rfl rfl))

theorem safe_dispose (fr : Frame) : Safe s (s.dispose fr) := by
  have forwarded : Safe s (s.forward fr) := .elsewhere rfl rfl rfl
  have counted : Safe s s.malformed := .elsewhere rfl rfl rfl
  unfold State.dispose State.consume State.readBroadcast
  refine Safe.ite forwarded (Safe.ite (Safe.refl s) (Safe.ite counted (Safe.ite (Safe.ite (safe_hand s fr)
    (Safe.ite (Safe.refl s) counted)) (Safe.ite (Safe.ite ?_ forwarded) forwarded))))
  exact forwarded.trans (safe_hand _ fr)

theorem safe_badFrame : Safe s s.badFrame := by
  unfold State.badFrame
  dsimp only
  exact Safe.ite (Safe.after (safe_post _ _ _ _ _) (.elsewhere rfl rfl rfl)) (.elsewhere rfl rfl rfl)

theorem safe_receive (kind : Byte) (fr : RxFrame) : Safe s (s.receive kind fr) :=
  Safe.ite (safe_dispose s _) (safe_badFrame s)

/-! ### Reports, timers and periods -/

theorem spares_operateReport (f : Feeder) (source : ReportSource) : Spares s (execOperateReport f source s) := by
  refine spares_whenRunning ?_
  split
  · refine Safe.apart (Safe.after (safe_takeOperate _ f _) ?_)
    exact .elsewhere rfl rfl rfl
  · exact (Safe.refl s).apart

theorem safe_outcomeTaken (f : Feeder) (o : TestOutcome) : Safe s (s.outcomeTaken f o) :=
  safe_calm (calm_outcomeTaken s f o) (quiet_outcomeTaken s f o).drc

theorem spares_testOutcome (f : Feeder) : Spares s (execTestOutcome f s) := by
  refine spares_whenRunning ?_
  split
  · refine Safe.apart (Safe.after (safe_outcomeTaken _ f _) ?_)
    exact .elsewhere rfl rfl rfl
  · exact (Safe.refl s).apart

theorem safe_takeTtFail (f : Feeder) : Safe s (s.takeTtFail f) :=
  safe_calm (calm_takeTtFail s f) (quiet_takeTtFail s f).drc

theorem spares_ttFailReport (f : Feeder) : Spares s (execTtFailReport f s) :=
  spares_due (Safe.after (safe_takeTtFail _ f) (safe_modFct s f fun _ => ⟨rfl, rfl, rfl⟩))

theorem spares_breakerFailNotice (f : Feeder) : Spares s (execBreakerFailNotice f s) :=
  spares_due (Safe.after (safe_stationTrip _ _ _) (safe_stl s _))

theorem safe_ltuUnsupervised (f : Feeder) : Safe s (s.ltuUnsupervised f) := by
  refine safe_calm (calm_ltuUnsupervised s f) ?_
  unfold State.ltuUnsupervised
  dsimp only
  split <;> exact (quiet_leavePlace s f).drc

theorem spares_breakerSupervisionExpiry (f : Feeder) : Spares s (execBreakerSupervisionExpiry f s) := by
  refine spares_due ?_
  dsimp only
  have silent : Safe s (s.modFct f fun c => { c with status := none, supervised := false, supTimer := none }) :=
    .elsewhere rfl rfl rfl
  refine Safe.ite (silent.trans ?_) silent
  exact ((safe_ltuUnsupervised _ f).trans (safe_calm (calm_takeOutcome _ f _) (quiet_takeOutcome _ f _).drc)).trans
    (safe_calm (calm_examineAfter _ s f) (quiet_examineAfter _ f s).drc)

theorem spares_tOpenExpiry (f : Feeder) : Spares s (execTOpenExpiry f s) := by
  refine spares_due ?_
  dsimp only
  refine Safe.after (safe_stl _ _) (Safe.after (safe_calm (calm_lockOut _ f _) (quiet_lockOut _ f _).drc) ?_)
  refine Safe.after (safe_post _ _ _ _ _) (Safe.after (safe_calm (calm_tripNotice _ f _ none) rfl) ?_)
  exact safe_calm (calm_dropPhaseBack s f) (dropPhaseBack_drc s f)

theorem spares_deadTimeExpiry (f : Feeder) : Spares s (execDeadTimeExpiry f s) :=
  spares_due (Safe.after (safe_examineHolds _ f) (safe_modFct s f fun _ => ⟨rfl, rfl, rfl⟩))

theorem safe_fpuPeriodEnd (f : Feeder) : Safe s (s.fpuPeriodEnd f) := by
  unfold State.fpuPeriodEnd
  split
  · dsimp only
    split
    · split <;> exact .elsewhere rfl rfl rfl
    · split <;> exact .elsewhere rfl rfl rfl
  · exact Safe.refl s

theorem safe_thermalPeriodEnd : Safe s s.thermalPeriodEnd :=
  (safe_foldl _ _ safe_fpuPeriodEnd s).trans
    (safe_foldl _ _ (fun s f => (safe_examineHolds s f).trans (safe_examineFollow _ f)) _)

theorem spares_thermalPeriodEnd : Spares s (execThermalPeriodEnd s) := by
  refine spares_due (Safe.after (safe_thermalPeriodEnd _) ?_)
  exact .elsewhere rfl rfl rfl

theorem spares_contactorTimerExpiry (k : TestSlot) : Spares s (execContactorTimerExpiry k s) := by
  refine spares_whenRunning ?_
  split
  · exact Safe.apart (.elsewhere rfl rfl rfl)
  · exact (Safe.refl s).apart

theorem spares_settleTimerExpiry (k : TestSlot) : Spares s (execSettleTimerExpiry k s) := by
  refine spares_whenRunning ?_
  split
  · exact Safe.apart (.elsewhere rfl rfl rfl)
  · exact (Safe.refl s).apart

theorem spares_releaseTimerExpiry (k : TestSlot) : Spares s (execReleaseTimerExpiry k s) := by
  refine spares_whenRunning ?_
  split
  · exact (safe_calm (calm_releaseEnds s k _ _) (quiet_releaseEnds s _ k _).drc).apart
  · exact (Safe.refl s).apart

theorem spares_tTtExpiry (f : Feeder) : Spares s (execTTtExpiry f s) :=
  spares_due (Safe.after (safe_takeTtFail _ f) (Safe.after (safe_post _ _ _ _ _) (.elsewhere rfl rfl rfl)))

theorem spares_gateDriverSupervisionExpiry : Spares s (execGateDriverSupervisionExpiry s) := by
  refine spares_due ?_
  dsimp only
  exact Safe.ite (Safe.elsewhere rfl rfl rfl) (Safe.elsewhere rfl rfl rfl)

theorem spares_tPbExpiry : Spares s (execTPbExpiry s) :=
  spares_due (.elsewhere (calm_toRegulating _).pending (calm_toRegulating _).tables (toRegulating_drc _))

theorem regulate_drc : s.regulate.drc = s.drc := by
  unfold State.regulate
  dsimp only
  split
  · rfl
  · split
    · split <;> rfl
    · rfl

theorem spares_controlTick : Spares s (execControlTick s) := by
  have computed (t : State) : t.controlTick.drc = t.drc := by
    unfold State.controlTick
    split
    · exact regulate_drc t
    all_goals rfl
  refine spares_due (Safe.after (safe_calm (calm_controlTick _) (computed _)) ?_)
  exact .elsewhere rfl rfl rfl

theorem safe_sendLink (k : Slot) : Safe s (s.sendLink k) := by
  unfold State.sendLink
  split
  · exact .elsewhere rfl rfl rfl
  · exact Safe.refl s

theorem spares_neighbourFramePeriod : Spares s (execNeighbourFramePeriod s) := by
  refine spares_due (Safe.after (safe_foldl _ _ safe_sendLink _) ?_)
  exact .elsewhere rfl rfl rfl

theorem safe_endStore (good : Bool) : Safe s (s.endStore good) := by
  unfold State.endStore
  dsimp only
  exact Safe.ite (.elsewhere rfl rfl rfl) (.elsewhere rfl rfl rfl)

theorem spares_storeConfirm (n : Nat) : Spares s (execStoreConfirm n s) := by
  refine spares_whenRunning (Safe.apart ?_)
  split
  · exact Safe.ite (safe_endStore s _) (Safe.refl s)
  · exact Safe.refl s

theorem spares_drainingEnd : Spares s (execDrainingEnd s) := by
  refine spares_whenRunning ?_
  unfold State.drainingEnds
  split
  · exact ⟨rfl, (spares_flush _ s.drc).of_eq rfl rfl⟩
  · exact (Safe.refl s).apart

theorem spares_execTick : Spares s (execTick s) := by
  refine spares_next ?_
  split
  · exact (Safe.refl s).apart
  · exact Safe.apart (.elsewhere rfl rfl rfl)
  · exact ⟨rfl, spares_tick s.drc s.tables _⟩

theorem testOffAll_still : Still s s.testOffAll :=
  ⟨(calm_foldl _ _ (fun s f => Calm.ite (fun _ => calm_sendOrder s f .testOff) fun _ => Calm.refl s) s).pending,
    (quiet_foldl _ _ (fun s f => Quiet.ite (quiet_sendOrder s f .testOff) (Quiet.refl s)) s).drc⟩

theorem loaded_still (t : Tables) (b : Bool) : Still s (s.loaded t b) := by
  unfold State.loaded
  refine Still.trans ?_ (testOffAll_still _)
  exact ⟨rfl, rfl⟩

theorem spares_settingsLoadEnd (answer : MemoryAnswer) : Spares s (execSettingsLoadEnd answer s) := by
  have posted (t : State) (c : Option Cause) : Still t (t.post .storeBad .station c none) := ⟨rfl, rfl⟩
  refine spares_next ?_
  split
  · split
    · exact (loaded_still s _ _).apart
    · exact ((loaded_still s _ _).trans (posted _ _)).apart
  · exact (Safe.refl s).apart

end

end Sys2Proof.Machine
end

-- ==== The waiting commands and record memory through the served requests ====
section
/-!
The requests with a row of their own and the settings writes; then O2 and O58.
-/

namespace Sys2Proof.Machine
open Sys2Proof

section
variable (s : State)

/-! ### Services -/

theorem respond_still (r : Request) (st : Status) (data : List Byte) : Still s (s.respond r st data) := ⟨rfl, rfl⟩

theorem safe_popRequest : Safe s s.popRequest := .elsewhere rfl rfl rfl

theorem apart_serve (op : Nat) (objs : List Nat) {act : State → Request → Service}
    (spares : ∀ (t : State) (r : Request), Apart t (act t r).after) : Apart s (s.serve op objs act) := by
  unfold State.serve
  split
  · exact (Safe.refl s).apart
  · rename_i r rest waits
    split
    · split
      · exact ((safe_popRequest s).apart.still (respond_still _ r _ _)).still (settle_still _)
      · exact ((safe_popRequest s).then ((spares _ r).still ((respond_still _ _ _ _)))).still (settle_still _)
    · exact (Safe.refl s).apart

theorem spares_serve (op : Nat) (objs : List Nat) {act : State → Request → Service}
    (spares : ∀ (t : State) (r : Request), Apart t (act t r).after) :
    Spares s (whenRunning s (s.serve op objs act)) := spares_whenRunning (apart_serve s op objs spares)

theorem apart_checked {s t : State} (refusal : Option Status) (h : Apart s t) :
    Apart s (Service.checked s refusal t).after := by
  cases refusal with
  | some st => exact (Safe.refl s).apart
  | none => exact h

theorem apart_written {s t : State} (r : Request) (refusal : Option Status) (h : Apart s t) :
    Apart s (s.written r refusal t).after := by
  have reported : Still t (t.settingsChanged (s.roleCause r) r.obj r.index) := ⟨rfl, rfl⟩
  exact apart_checked refusal (h.still reported)

theorem apart_onFeeder (r : Request) {act : Feeder → Service} (spares : ∀ f, Apart s (act f).after) :
    Apart s (s.onFeeder r act).after := by
  unfold State.onFeeder
  split
  · exact spares _
  · exact (Safe.refl s).apart

theorem safe_feederOpens (f : Feeder) : Safe s (s.feederOpens f) := by
  refine safe_calm (calm_feederOpens s f) ?_
  have withdrawn (t : State) : ((t.withdrawPending f).fctOut f).drc = t.drc :=
    (Quiet.after (quiet_fctOut _ f) (quiet_withdrawPending t f)).drc
  unfold State.feederOpens
  dsimp only
  split
  · rfl
  · rfl
  · rfl
  · exact withdrawn s
  · exact withdrawn s
  · exact withdrawn s
  · exact withdrawn s
  · rfl
  · rfl
  · split <;> rfl

theorem apart_serveFeederClose (r : Request) : Apart s (s.serveFeederClose r).after :=
  apart_onFeeder s r fun f =>
    apart_checked _ (safe_calm (calm_toTestWait s f true 0) (quiet_toTestWait s f true 0).drc).apart

theorem apart_serveSetpoint (r : Request) : Apart s (s.serveSetpoint r).after := by
  unfold State.serveSetpoint
  dsimp only
  split
  · exact Still.apart ⟨rfl, rfl⟩
  · exact (Safe.refl s).apart

theorem apart_serveEmergency (r : Request) : Apart s (s.serveEmergency r).after := by
  unfold State.serveEmergency Service.done
  dsimp only
  exact (safe_emergency s).apart

theorem apart_serveSetMode (r : Request) : Apart s (s.serveSetMode r).after := by
  unfold State.serveSetMode
  split
  · exact Safe.apart (.elsewhere rfl rfl rfl)
  · exact (Safe.refl s).apart

theorem apart_serveAckEvents (r : Request) : Apart s (s.serveAckEvents r).after := by
  unfold State.serveAckEvents
  split
  · exact (Safe.refl s).apart
  · exact Safe.apart (.elsewhere rfl rfl rfl)

theorem ackNotice_still : Still s s.ackNotice := by
  unfold State.ackNotice
  split <;> exact ⟨rfl, rfl⟩

/-- A change of the recorder's state alone. -/
theorem safe_recorderState (st : RecorderState) (n : Nat) :
    Safe s { s with drc := { s.drc with state := st, missed := n } } :=
  ⟨rfl, rfl, (Drc.Spares.refl _ _).of_eq rfl rfl⟩

theorem apart_serveRecArm (r : Request) : Apart s (s.serveRecArm r).after :=
  apart_checked _ ((safe_recorderState s (.armed []) 0).apart.still ⟨rfl, rfl⟩)

theorem apart_serveRecDisarm (r : Request) : Apart s (s.serveRecDisarm r).after := by
  have idle : Apart s (s.changing fun s => { s with drc := { s.drc with state := .idle } }) :=
    (safe_recorderState s .idle _).apart.still ⟨rfl, rfl⟩
  show Apart s s.disarm.1
  unfold State.disarm
  split
  · exact (Safe.refl s).apart
  · exact idle
  · exact ⟨rfl, spares_drain s.tables.chain s.drc _ _⟩
  · exact (Safe.refl s).apart
  · exact idle

theorem apart_serveRecTrigger (r : Request) : Apart s (s.serveRecTrigger r).after := (safe_trigger s _ _).apart

theorem apart_serveRecord (r : Request) : Apart s (s.serveRecord r).after := by
  unfold State.serveRecord
  dsimp only
  split
  · split <;> exact (Safe.refl s).apart
  · exact (Safe.refl s).apart

theorem spares_readSummary : Spares s (execReadSummary s) := by
  refine spares_whenRunning ?_
  have answered (r : Request) (st : Status) (data : List Byte) : Still s (s.popRequest.respond r st data) := ⟨rfl, rfl⟩
  unfold State.readSummary
  split
  · exact (Safe.refl s).apart
  · rename_i r rest waits
    split
    · split
      · exact ((answered r _ _).trans (settle_still _)).apart
      · dsimp only
        split
        · exact (((answered r _ _).trans (ackNotice_still _)).trans (settle_still _)).apart
        · exact ((answered r _ _).trans (settle_still _)).apart
    · exact (Safe.refl s).apart

/-! ### Settings writes -/

theorem gatewayChanged_still : Still s s.gatewayChanged := by
  unfold State.gatewayChanged
  dsimp only
  split <;> exact ⟨rfl, rfl⟩

theorem apart_storeStation (x : StationRec) : Apart s (s.storeStation x) := by
  have stored (t : Tables) : Still s { s with tables := t } := ⟨rfl, rfl⟩
  unfold State.storeStation
  dsimp only
  split
  · exact (stored _).apart
  · exact ((stored _).trans (gatewayChanged_still _)).apart

theorem apart_serveMapPoint (r : Request) : Apart s (s.serveMapPoint r).after := by
  unfold State.serveMapPoint
  split
  · exact (Safe.refl s).apart
  · exact apart_written r _ (Still.apart ⟨rfl, rfl⟩)

theorem apart_serveMapRange (r : Request) : Apart s (s.serveMapRange r).after := by
  unfold State.serveMapRange
  split
  · exact (Safe.refl s).apart
  · exact apart_written r _ (Still.apart ⟨rfl, rfl⟩)

theorem safe_storeFeeder (f : Feeder) (r : FeederRec) : Safe s (s.storeFeeder f r) := by
  unfold State.storeFeeder
  refine Safe.trans ?_ (safe_calm (calm_noteChange _ _) rfl)
  dsimp only
  exact Safe.ite (Still.safe ⟨rfl, rfl⟩ rfl) (Still.safe ⟨rfl, rfl⟩ rfl)

theorem safe_writeFeeder (f : Feeder) (r : FeederRec) : Safe s (s.writeFeeder f r) := by
  unfold State.writeFeeder
  refine Safe.after (safe_reportSection _ f s) ?_
  have cleared (b : Bool) : Safe s (if b then s.clearHandshake f .removed else s) :=
    Safe.ite (safe_clearHandshake s f _) (Safe.refl s)
  have reported (t : State) (b : Bool) : Safe t (if b then t.setFar f (t.freshReport f) else t) :=
    Safe.ite (.elsewhere rfl rfl rfl) (Safe.refl t)
  have evaluated (t : State) (b : Bool) : Safe t (if b then t.reevaluate f else t) :=
    Safe.ite (safe_reevaluate t f) (Safe.refl t)
  have upto (a b c : Bool) := (((cleared a).trans (safe_storeFeeder _ f r)).trans (reported _ b)).trans (evaluated _ c)
  split
  · exact (upto _ _ _).trans (safe_takeStanding _ f _)
  · exact upto _ _ _

theorem safe_writeNeighbour (k : Slot) (r : NeighbourRec) : Safe s (s.writeNeighbour k r) := by
  unfold State.writeNeighbour
  dsimp only
  have stored (t : State) (x : Vector NeighbourRec 4) : Safe t { t with tables := { t.tables with neighbour := x } } :=
    ⟨rfl, rfl, .refl _ _⟩
  refine Safe.after (stored _ _) (Safe.ite (Safe.refl s) (Safe.ite (safe_linkDown s k _) ?_))
  exact (safe_eachOnSlot s k _ fun t f => safe_clearHandshake t f _).trans (.elsewhere rfl rfl rfl)

theorem apart_serveFeeder (r : Request) : Apart s (s.serveFeeder r).after := by
  unfold State.serveFeeder
  split
  · exact apart_written r _ (safe_writeFeeder s _ _).apart
  · exact (Safe.refl s).apart

theorem apart_serveBank (r : Request) : Apart s (s.serveBank r).after := by
  unfold State.serveBank
  split
  · exact apart_written r _ (Still.apart ⟨rfl, rfl⟩)
  · exact (Safe.refl s).apart

theorem apart_serveNeighbour (r : Request) : Apart s (s.serveNeighbour r).after := by
  unfold State.serveNeighbour
  split
  · exact apart_written r _ (safe_writeNeighbour s _ _).apart
  · exact (Safe.refl s).apart

/-! ### Restart -/

theorem safe_restartSlots : Safe s s.restartSlots := by
  have ordered (t : State) (k : TestSlot) : Safe t (match t.ltu.slot[k] with
      | .free => t
      | .contact f _ => t.sendOrder f .testOff
      | .settle f _ => t.sendOrder f .testOff
      | .window f _ _ _ _ => t.sendOrder f .testOff
      | .release f _ _ => t.sendOrder f .testOff) := by
    split
    · exact Safe.refl t
    all_goals exact safe_sendOrder t _ _
  exact (ordered s 0).trans (ordered _ 1)

theorem apart_restart : Apart s s.restart := by
  have restarted (t : State) : Apart t t.restarted := ⟨rfl, spares_restart _ _⟩
  have noted (t : State) : Still t (t.noteChange s.summary) := ⟨rfl, rfl⟩
  exact ((safe_restartSlots s).then (restarted _)).still (noted _)

theorem spares_restartExec : Spares s (execRestart s) := by
  refine spares_whenRunning ?_
  unfold State.restartRequest
  split
  · exact (Safe.refl s).apart
  · rename_i r rest waits
    split
    · split
      · exact ((safe_popRequest s).apart.still (respond_still _ r _ _)).still (settle_still _)
      · have answered : Safe s (s.popRequest.respond r .ok []) := .elsewhere rfl rfl rfl
        exact (answered.then (apart_restart _)).still (settle_still _)
    · exact (Safe.refl s).apart

/-! ### Every command -/

theorem exec_spares (i : Instr) (other : ∀ straps, i ≠ .powerOn straps) : Spares s (exec i s) := by
  have same {t : State} (pending : t.pending = s.pending) (tables : t.tables = s.tables) (drc : t.drc = s.drc) :
      Apart s t := (Safe.elsewhere pending tables drc).apart
  cases i with
  | powerOn straps => exact absurd rfl (other straps)
  | settingsLoadEnd answer => exact spares_settingsLoadEnd s answer
  | tick => exact spares_execTick s
  | millisecondAdvance =>
    refine spares_next ?_
    split
    · exact same rfl rfl rfl
    · exact same rfl rfl rfl
  | pointLoss p => exact spares_due (safe_losePoint s p)
  | controlTick => exact spares_controlTick s
  | thermalPeriodEnd => exact spares_thermalPeriodEnd s
  | neighbourFramePeriod => exact spares_neighbourFramePeriod s
  | ringWindowEnd =>
    refine spares_whenPowered ?_
    split
    · exact same rfl rfl rfl
    · exact same rfl rfl rfl
  | ringFrameReceived bytes =>
    refine spares_whenPowered (Safe.apart ?_)
    unfold State.receiveBytes
    split
    · exact safe_receive s _ _
    · exact safe_badFrame s
  | sampleFrame fr => exact spares_whenPowered (safe_receive s 1 fr).apart
  | timeFrame fr => exact spares_whenPowered (safe_receive s 2 fr).apart
  | breakerStatusFrame fr => exact spares_whenPowered (safe_receive s 3 fr).apart
  | rectStatusFrame fr => exact spares_whenPowered (safe_receive s 5 fr).apart
  | linkInFrame fr => exact spares_whenPowered (safe_receive s 7 fr).apart
  | requestFrame fr => exact spares_whenPowered (safe_receive s 9 fr).apart
  | arbiterTake => exact spares_whenPowered (same rfl rfl rfl)
  | frameSendEnd => exact spares_whenPowered (same rfl rfl rfl)
  | operateReport f source => exact spares_operateReport s f source
  | testOutcome f => exact spares_testOutcome s f
  | ttFailReport f => exact spares_ttFailReport s f
  | breakerFailNotice f => exact spares_breakerFailNotice s f
  | breakerSupervisionExpiry f => exact spares_breakerSupervisionExpiry s f
  | tOpenExpiry f => exact spares_tOpenExpiry s f
  | tCloseExpiry f => exact spares_due (Safe.after (safe_calm (calm_lockOut _ f _) (quiet_lockOut _ f _).drc)
      (Safe.after (safe_post _ _ _ _ _) (safe_sendOrder s f _)))
  | deadTimeExpiry f => exact spares_deadTimeExpiry s f
  | reclaimExpiry f => exact spares_due (.elsewhere rfl rfl rfl)
  | followTimeout f => exact spares_due (safe_calm (calm_lockOut s f _) (quiet_lockOut s f _).drc)
  | contactorTimerExpiry k => exact spares_contactorTimerExpiry s k
  | settleTimerExpiry k => exact spares_settleTimerExpiry s k
  | releaseTimerExpiry k => exact spares_releaseTimerExpiry s k
  | linkTimerExpiry k => exact spares_due (safe_linkDown s k _)
  | tTtExpiry f => exact spares_tTtExpiry s f
  | gateDriverSupervisionExpiry => exact spares_gateDriverSupervisionExpiry s
  | tAcExpiry => exact spares_due (.elsewhere rfl rfl rfl)
  | acTimerExpiry => exact spares_due (.elsewhere rfl rfl rfl)
  | tPbExpiry => exact spares_tPbExpiry s
  | storeTimerExpiry => exact spares_due (safe_endStore s _)
  | storeConfirm readBack => exact spares_storeConfirm s readBack
  | drainingEnd => exact spares_drainingEnd s
  | stationWrite => exact spares_serve s _ _ fun t r => apart_written r _ (apart_storeStation t _)
  | mapPointWrite => exact spares_serve s _ _ apart_serveMapPoint
  | mapRangeWrite => exact spares_serve s _ _ apart_serveMapRange
  | feederWrite => exact spares_serve s _ _ apart_serveFeeder
  | bankWrite => exact spares_serve s _ _ apart_serveBank
  | neighbourWrite => exact spares_serve s _ _ apart_serveNeighbour
  | regulatorWrite => exact spares_serve s _ _ fun t r => apart_written r _ (Still.apart ⟨rfl, rfl⟩)
  | curveWrite => exact spares_serve s _ _ fun t r => apart_written r _ (Still.apart ⟨rfl, rfl⟩)
  | recorderWrite => exact spares_serve s _ _ fun t r => apart_written r _ (Still.apart ⟨rfl, rfl⟩)
  | chainWrite => exact spares_serve s _ _ fun t r => apart_written r _ (by
      have stored (u : State) (d : Drc) (x : Tables) (keeps : t.drc.Spares t.tables.chain d) :
          Apart t (({ t with drc := d, tables := x } : State).noteChange u.summary) := ⟨rfl, keeps⟩
      exact stored t _ _ ((Drc.Spares.refl _ _).of_eq rfl rfl))
  | mapperStatusRead => exact spares_serve s _ _ fun t r => Still.apart ⟨rfl, rfl⟩
  | ringStatusRead => exact spares_serve s _ _ fun t r => Still.apart ⟨rfl, rfl⟩
  | readSummary => exact spares_readSummary s
  | readEvents => exact spares_serve s _ _ fun t r => Still.apart ⟨rfl, rfl⟩
  | readRecord => exact spares_serve s _ _ apart_serveRecord
  | feederOpen => exact spares_serve s _ _ fun t r => apart_onFeeder t r fun f => apart_checked _ (safe_feederOpens t f).apart
  | feederClose => exact spares_serve s _ _ apart_serveFeederClose
  | feederReset => exact spares_serve s _ _ fun t r => apart_onFeeder t r fun f => apart_checked _ (Still.apart ⟨rfl, rfl⟩)
  | clearContext => exact spares_serve s _ _ fun t r => apart_onFeeder t r fun f => Still.apart ⟨rfl, rfl⟩
  | rectStart => exact spares_serve s _ _ fun t r => apart_checked _ (Still.apart ⟨rfl, rfl⟩)
  | rectStop => exact spares_serve s _ _ fun t r => (safe_calm (calm_rectStop t) (rectStop_drc t)).apart
  | rectReset => exact spares_serve s _ _ fun t r => apart_checked _ (Still.apart ⟨rfl, rfl⟩)
  | setSetpoint => exact spares_serve s _ _ apart_serveSetpoint
  | stationReset => exact spares_serve s _ _ fun t r => apart_checked _ (Still.apart ⟨rfl, rfl⟩)
  | emergencyOpen => exact spares_serve s _ _ apart_serveEmergency
  | setMode => exact spares_serve s _ _ apart_serveSetMode
  | setTime => exact spares_serve s _ _ fun t r => Still.apart ⟨rfl, rfl⟩
  | ackEvents => exact spares_serve s _ _ apart_serveAckEvents
  | ackNotice => exact spares_serve s _ _ fun t r => (ackNotice_still t).apart
  | recArm => exact spares_serve s _ _ apart_serveRecArm
  | recDisarm => exact spares_serve s _ _ apart_serveRecDisarm
  | recTrigger => exact spares_serve s _ _ apart_serveRecTrigger
  | store => exact spares_serve s _ _ fun t r => Still.apart ⟨rfl, rfl⟩
  | restart => exact spares_restartExec s

/-- Settles O2: POWER_ON keeps the waiting commands by its definition, every other command by `exec_spares`. -/
theorem everyCommandKeepsQueue : Obligations.EveryCommandKeepsQueue := by
  refine ⟨fun c s => ?_, fun s none => by rw [step, none]⟩
  by_cases on : ∃ straps, c = .powerOn straps
  · obtain ⟨straps, rfl⟩ := on
    exact ⟨_, rfl, rfl⟩
  · obtain ⟨t, answers, apart⟩ := exec_spares s c fun straps is => on ⟨straps, is⟩
    exact ⟨t, answers, apart.pending⟩

/-- Settles O58: what lies outside the chain is spared by every command but POWER_ON. -/
theorem recorderWritesInsideChain : Obligations.RecorderWritesInsideChain := by
  intro c s t a answers other _ outside clear
  obtain ⟨u, answersToo, apart⟩ := exec_spares s c other
  obtain rfl : u = t := by
    rw [answers] at answersToo
    cases answersToo
    rfl
  exact apart.drc a outside clear

end

end Sys2Proof.Machine
end

-- ==== Arriving frames ====
section
/-!
What an arriving frame does by the rules of the ring interface: O10, O11 and O12; and the ORDER queue: O14.
-/

namespace Sys2Proof.Machine
open Sys2Proof

theorem whenPowered_on {s t : State} (on : s.phase ≠ .held) : whenPowered s t = .next t := by
  unfold whenPowered
  rw [if_neg on]

theorem whenRunning_on {s t : State} (running : s.phase = .running) : whenRunning s t = .next t := by
  unfold whenRunning
  rw [if_pos running]

theorem receiveBytes_of_split {s : State} {bytes : List Byte} {kind : Byte} {fr : RxFrame}
    (split : splitFrame bytes = some (kind, fr)) : s.receiveBytes bytes = s.receive kind fr := by
  unfold State.receiveBytes
  rw [split]

/-- A frame row is what its frame does. -/
theorem exec_frame {s : State} {c : Instr} {kind : Byte} {fr : RxFrame} (is : frameOf c = some (kind, fr))
    (on : s.phase ≠ .held) : exec c s = .next (s.receive kind fr) := by
  unfold frameOf at is
  split at is
  case h_7 bytes =>
    rw [← receiveBytes_of_split is]
    exact whenPowered_on on
  case h_8 => cases is
  all_goals
    cases is
    exact whenPowered_on on

theorem frameGood_iff (kind : Byte) (fr : RxFrame) : frameGood kind fr = true ↔ ¬ isBad kind fr := by
  simp only [frameGood, isBad, Bool.and_eq_true, decide_eq_true_eq, not_or, Nat.not_lt, not_not, and_assoc, ne_eq]

/-! ### Bad frames -/

theorem badFrame_reports (s : State) :
    Reports { s with rif := { s.rif with ringErr := satInc 65535 s.rif.ringErr
                                         windowBad := satInc 65535 s.rif.windowBad } } s.badFrame
      (if s.rif.windowBad = 16 then
        [(.ringDegraded, .station, none, some (satInc 65535 s.rif.ringErr : Int))] else []) := by
  unfold State.badFrame
  dsimp only
  split
  · exact reports_post (reports_refl _) _ _ _ _
  · exact reports_refl _

theorem splitFrame_short {bytes : List Byte} (short : bytes.length < 6) : splitFrame bytes = none := by
  unfold splitFrame
  rw [if_pos short]

/-- Settles O10: fewer than six bytes are no frame, and a bad frame is never disposed of. -/
theorem badFrameDropped : Obligations.BadFrameDropped := by
  rintro s c on (⟨bytes, rfl, short⟩ | ⟨kind, fr, is, bad⟩)
  · refine ⟨s.badFrame, ?_, badFrame_reports s⟩
    have dropped : s.receiveBytes bytes = s.badFrame := by
      unfold State.receiveBytes
      rw [splitFrame_short short]
    rw [← dropped]
    exact whenPowered_on on
  · refine ⟨s.badFrame, ?_, badFrame_reports s⟩
    rw [exec_frame is on, State.receive, if_neg]
    exact fun good => (frameGood_iff kind fr).1 good bad

/-! ### Good frames -/

theorem receive_good {kind : Byte} {fr : RxFrame} (s : State) (good : ¬ isBad kind fr) :
    s.receive kind fr = s.dispose (rxToFrame kind fr) := by
  rw [State.receive, if_pos ((frameGood_iff kind fr).2 good)]

section
variable {s : State} {fr : Frame}

theorem dispose_strapFault (fault : s.rif.strapFault = true) : s.dispose fr = s.forward fr := by
  rw [State.dispose, if_pos fault]

theorem dispose_own (straps : s.rif.strapFault = false) (own : fr.src.toNat = s.rif.node) : s.dispose fr = s := by
  rw [State.dispose, if_neg (by simp [straps]), if_pos own]

theorem dispose_source (straps : s.rif.strapFault = false) (own : fr.src.toNat ≠ s.rif.node)
    (source : fr.src.toNat = 0 ∨ fr.src.toNat = 255) : s.dispose fr = s.malformed := by
  rw [State.dispose, if_neg (by simp [straps]), if_neg own, if_pos source]

/-- A frame of another node with a possible source goes by its destination. -/
theorem dispose_dest (straps : s.rif.strapFault = false) (own : fr.src.toNat ≠ s.rif.node)
    (source : fr.src.toNat ≠ 0 ∧ fr.src.toNat ≠ 255) :
    s.dispose fr = if fr.dest.toNat = s.rif.node then s.consume fr
      else if fr.dest.toNat = 255 then (s.forward fr).readBroadcast fr else s.forward fr := by
  rw [State.dispose, if_neg (by simp [straps]), if_neg own, if_neg (not_or.2 source)]

theorem consume_noReader (kind : fr.kind.toNat ∈ [4, 6, 8, 10, 11]) : s.consume fr = s := by
  unfold State.consume
  simp only [List.mem_cons, List.not_mem_nil, or_false] at kind
  rcases kind with kind | kind | kind | kind | kind <;> rw [kind] <;> rfl

theorem consume_unknown (kind : fr.kind.toNat ∉ [1, 2, 3, 4, 5, 6, 7, 8, 9, 10, 11]) : s.consume fr = s.malformed := by
  unfold State.consume
  simp only [List.mem_cons, List.not_mem_nil, or_false, not_or] at kind
  simp [kind]

theorem consume_reader (kind : fr.kind.toNat ∈ [1, 2, 3, 5, 7] ∨ fr.kind.toNat = 9) : s.consume fr = s.hand fr := by
  unfold State.consume
  simp only [List.mem_cons, List.not_mem_nil, or_false] at kind
  rw [if_pos]
  simpa only [List.contains_eq_mem, List.mem_cons, List.not_mem_nil, or_false, decide_eq_true_eq, or_assoc] using kind

theorem readBroadcast_reader (kind : fr.kind.toNat ∈ [1, 2, 3, 5, 7]) : s.readBroadcast fr = s.hand fr := by
  unfold State.readBroadcast
  rw [if_pos (by simpa using kind)]

theorem readBroadcast_other (kind : fr.kind.toNat ∉ [1, 2, 3, 5, 7]) : s.readBroadcast fr = s := by
  unfold State.readBroadcast
  rw [if_neg (by simpa using kind)]

theorem hand_unfit (kind : fr.kind.toNat ∈ [1, 2, 3, 5, 7] ∨ (fr.kind.toNat = 9 ∧ s.phase = .running))
    (unfit : payloadFits fr.kind.toNat fr.payload = false) : s.hand fr = s.malformed := by
  unfold State.hand
  rw [if_neg (by simp [unfit]), if_neg]
  rintro ⟨waits, request⟩
  rcases kind with reader | ⟨_, running⟩
  · rw [request] at reader
    exact absurd reader (by decide)
  · exact waits running

theorem hand_loading (loading : s.phase = .loading) (fits : payloadFits fr.kind.toNat fr.payload = true ∨
    fr.kind.toNat = 9) : s.hand fr = s := by
  have waits : s.phase ≠ .running := by rw [loading]; nofun
  unfold State.hand
  split
  · rfl
  · rename_i unfit
    rw [if_pos ⟨waits, fits.resolve_left unfit⟩]

end

/-! ### The bytes of a frame -/

theorem byte_add {h l : Byte} : u16At [h, l] 0 = h.toNat * 256 + l.toNat := rfl

/-- The check survives its two bytes. -/
theorem check_bytes (check : Check) :
    (BitVec.ofNat 16 ((BitVec.ofNat 8 (check.toNat / 256)).toNat * 256 + (BitVec.ofNat 8 check.toNat).toNat) : Check) =
      check := by
  apply BitVec.eq_of_toNat_eq
  have := check.isLt
  simp only [BitVec.toNat_ofNat]
  omega

theorem splitFrame_frame (dest src kind len : Byte) (payload : List Byte) (check : Check) :
    splitFrame (dest :: src :: kind :: len :: payload ++ be16 check.toNat) =
      some (kind, { dest := dest, src := src, len := len, payload := payload, check := check }) := by
  have length : (dest :: src :: kind :: len :: payload ++ be16 check.toNat).length = payload.length + 6 := by
    simp [be16]
  have trailer : u16At (dest :: src :: kind :: len :: payload ++ be16 check.toNat) (4 + payload.length) =
      (BitVec.ofNat 8 (check.toNat / 256)).toNat * 256 + (BitVec.ofNat 8 check.toNat).toNat := by
    have at4 : 4 + payload.length = payload.length + 4 := by omega
    simp [u16At, byteAt, at4, be16]
  unfold splitFrame
  rw [length, if_neg (by omega)]
  simp only [Nat.add_sub_cancel, trailer, check_bytes]
  simp

/-- Bytes whose kind has a row of its own act as that row. -/
theorem exec_bytes_row {s : State} {bytes : List Byte} {kind : Byte} {fr : RxFrame} {c : Instr}
    (split : splitFrame bytes = some (kind, fr)) (row : (c, kind) ∈ frameRows fr) :
    exec (.ringFrameReceived bytes) s = exec c s := by
  show whenPowered s (s.receiveBytes bytes) = exec c s
  rw [receiveBytes_of_split split]
  simp only [frameRows, List.mem_cons, Prod.mk.injEq, List.not_mem_nil, or_false] at row
  rcases row with ⟨rfl, rfl⟩ | ⟨rfl, rfl⟩ | ⟨rfl, rfl⟩ | ⟨rfl, rfl⟩ | ⟨rfl, rfl⟩ | ⟨rfl, rfl⟩ <;> rfl

/-- Settles O11, row by row of R201's table. -/
theorem frameDisposition : Obligations.FrameDisposition := by
  refine ⟨fun s c kind fr on is good => ?_, splitFrame_frame, fun s bytes kind fr c => exec_bytes_row⟩
  rw [exec_frame is on, receive_good s good]
  have next {t u : State} (h : t = u) : (.next t : Result) = .next u := by rw [h]
  refine ⟨fun fault => next (dispose_strapFault fault), fun straps => ⟨fun own => next (dispose_own straps own),
    fun own => ⟨fun source => next (dispose_source straps own source), fun notZero notAll => ?_⟩⟩⟩
  rw [dispose_dest (fr := rxToFrame kind fr) straps own ⟨notZero, notAll⟩]
  refine ⟨fun other notBroadcast => ?_, fun here => ?_⟩
  · rw [if_neg (by exact other), if_neg (by exact notBroadcast)]
    rfl
  · rw [if_pos (by exact here)]
    refine ⟨fun k => next (consume_noReader k), fun k => next (consume_unknown k), fun k unfit => ?_, fun loading =>
      ⟨fun k fits => ?_, fun k => ?_⟩⟩
    · rw [consume_reader (fr := rxToFrame kind fr) (k.imp_right And.left)]
      exact next (hand_unfit k unfit)
    · rw [consume_reader (fr := rxToFrame kind fr) (.inl k)]
      exact next (hand_loading loading (.inl fits))
    · rw [consume_reader (fr := rxToFrame kind fr) (.inr k)]
      exact next (hand_loading loading (.inr k))

/-! ### Broadcasts -/

/-- A reader that takes a broadcast sees the source and the payload alone. -/
theorem hand_congr (s : State) {a b : Frame} (reader : a.kind.toNat ∈ [1, 2, 3, 5, 7]) (kind : b.kind = a.kind)
    (src : b.src = a.src) (payload : b.payload = a.payload) : s.hand a = s.hand b := by
  have read : s.readBy a = s.readBy b := by
    unfold State.readBy
    rw [kind, src, payload]
    split
    case h_6 is9 =>
      rw [is9] at reader
      exact absurd reader (by decide)
    all_goals rfl
  unfold State.hand
  rw [kind, payload, read]

theorem frameOf_row {fr : RxFrame} {c : Instr} {kind : Byte} (row : (c, kind) ∈ frameRows fr) :
    frameOf c = some (kind, fr) := by
  simp only [frameRows, List.mem_cons, Prod.mk.injEq, List.not_mem_nil, or_false] at row
  rcases row with ⟨rfl, rfl⟩ | ⟨rfl, rfl⟩ | ⟨rfl, rfl⟩ | ⟨rfl, rfl⟩ | ⟨rfl, rfl⟩ | ⟨rfl, rfl⟩ <;> rfl

theorem forward_ring (s : State) (fr : Frame) :
    (s.forward fr).rif.strapFault = s.rif.strapFault ∧ (s.forward fr).rif.node = s.rif.node := by
  unfold State.forward Rif.forward
  split <;> exact ⟨rfl, rfl⟩

/-- Settles O12: the copy that stays is handed as the same frame addressed to the part is. -/
theorem broadcastForwardedAndRead : Obligations.BroadcastForwardedAndRead := by
  intro s c kind fr on straps is good own notZero notAll broadcast node
  have elsewhere : fr.dest.toNat ≠ s.rif.node := by rw [broadcast]; exact node.symm
  rw [exec_frame is on, receive_good s good, dispose_dest (fr := rxToFrame kind fr) straps own ⟨notZero, notAll⟩,
    if_neg (by exact elsewhere), if_pos (by exact broadcast)]
  have next {t u : State} (h : t = u) : (.next t : Result) = .next u := by rw [h]
  refine ⟨fun other => next (readBroadcast_other other), fun reader => ?_⟩
  rw [readBroadcast_reader (fr := rxToFrame kind fr) reader]
  refine ⟨fun unfit => next (hand_unfit (.inl reader) unfit), fun fits loading => next (hand_loading loading (.inl fits)),
    fun running c' fr' row good' dest src payload => ?_⟩
  obtain ⟨straps', node'⟩ := forward_ring s (rxToFrame kind fr)
  have on' : (forwarded s kind fr).phase ≠ .held := on
  rw [exec_frame (frameOf_row row) on', receive_good _ good']
  refine next ?_
  show _ = (s.forward (rxToFrame kind fr)).dispose (rxToFrame kind fr')
  rw [dispose_dest (fr := rxToFrame kind fr') (straps'.trans straps), if_pos, consume_reader (.inl reader)]
  · exact hand_congr _ reader rfl src payload
  · rw [node']; exact dest
  · rw [node']; show fr'.src.toNat ≠ _; rw [src]; exact own
  · show fr'.src.toNat ≠ 0 ∧ fr'.src.toNat ≠ 255; rw [src]; exact ⟨notZero, notAll⟩

/-! ### The ORDER queue -/

/-- In a queue that holds a place once, replacing by place is setting that place. -/
theorem map_place_eq_set (q : List OrderEntry) (p : OrderPlace) (e : OrderEntry) (once : (q.map OrderEntry.place).Nodup)
    (i : Nat) (h : i < q.length) (here : q[i].place = p) :
    (q.map fun x => if x.place == p then e else x) = q.set i e := by
  apply List.ext_getElem
  · simp
  · intro j hj _
    rw [List.length_map] at hj
    rw [List.getElem_map, List.getElem_set]
    by_cases same : i = j
    · subst same
      simp [here]
    · have other : q[j].place ≠ p := by
        intro there
        apply same
        have eq : (q.map OrderEntry.place)[i]'(by simpa using h) = (q.map OrderEntry.place)[j]'(by simpa using hj) := by
          simp [here, there]
        exact (List.Nodup.getElem_inj_iff once).1 eq
      simp [same, other]

/-- Settles O14 from the laws of `putOrder`. -/
theorem orderTakesItsPlace : Obligations.OrderTakesItsPlace := by
  refine ⟨fun r p fr straps form => ⟨fun i h here => ?_, fun free => ?_⟩, fun r p fr fault => putOrder_strap r p fr fault,
    fun s f o code is => ⟨fun none => ?_, fun m node => ?_⟩⟩
  · have stands : r.orderQ.any (·.place == p) = true :=
      List.any_eq_true.2 ⟨r.orderQ[i], List.getElem_mem h, by simpa using here⟩
    rw [putOrder_replaces r p fr straps stands, map_place_eq_set _ p _ form.1 i h here]
  · have free' : r.orderQ.any (·.place == p) = false := by
      rw [List.any_eq_false]
      intro x hx
      simpa using free x hx
    exact ⟨putOrder_appends r p fr straps free', fun full => putOrder_discards r p fr straps free' (by omega)⟩
  · simp only [State.sendOrder, none]
  · simp only [State.sendOrder, node]
    have payload : orderPayload o = [code] := by
      simp only [List.mem_cons, Prod.mk.injEq, List.not_mem_nil, or_false] at is
      rcases is with ⟨rfl, rfl⟩ | ⟨rfl, rfl⟩ | ⟨rfl, rfl⟩ | ⟨rfl, rfl⟩ <;> rfl
    rw [payload]
    rfl

end Sys2Proof.Machine
end

-- ==== Served requests and stream frames ====
section
/-!
What a row that serves a request does by the head of the list: refused, not its own, or served; O17. The entries of a
SAMPLE frame and the TIME frame; O20.
-/

namespace Sys2Proof.Machine
open Sys2Proof

/-! ### A row and the head of the list -/

theorem isOf_iff (r : Request) (op : Nat) (objs : List Nat) : r.isOf op objs = true ↔ r.op = op ∧ r.obj ∈ objs := by
  simp [Request.isOf]

/-- What a row does with a head that is not its own, and with one that the agent refuses. -/
def RefusesAtHead (e : State → Result) (op : Nat) (objs : List Nat) : Prop :=
  ∀ s : State, s.phase = .running →
    (∀ r rest st, s.mga.requests = r :: rest → r.op = op → r.obj ∈ objs → s.agentRefusal r = some st →
      e s = .next (({ s with mga := { s.mga with requests := rest } } : State).respond r st []).settle) ∧
    ((∀ r rest, s.mga.requests = r :: rest → ¬ (r.op = op ∧ r.obj ∈ objs)) → e s = .next s)

theorem popRequest_of_head {s : State} {r : Request} {rest : List Request} (head : s.mga.requests = r :: rest) :
    s.popRequest = { s with mga := { s.mga with requests := rest } } := by
  unfold State.popRequest
  rw [head]
  rfl

theorem refusesAtHead_serve (op : Nat) (objs : List Nat) (act : State → Request → Service) :
    RefusesAtHead (fun s => whenRunning s (s.serve op objs act)) op objs := by
  intro s running
  dsimp only
  rw [whenRunning_on running]
  unfold State.serve
  refine ⟨fun r rest st head isOp isObj refused => ?_, fun other => ?_⟩
  · rw [head]
    dsimp only
    rw [if_pos ((isOf_iff r op objs).2 ⟨isOp, isObj⟩), refused, popRequest_of_head head]
    rfl
  · split
    · rfl
    · rename_i r rest head
      rw [if_neg fun is => other r rest head ((isOf_iff r op objs).1 is)]

theorem refusesAtHead_readSummary : RefusesAtHead execReadSummary 1 [27] := by
  intro s running
  unfold execReadSummary State.readSummary
  rw [whenRunning_on running]
  refine ⟨fun r rest st head isOp isObj refused => ?_, fun other => ?_⟩
  · rw [head]
    dsimp only
    rw [if_pos ((isOf_iff r opRead [27]).2 ⟨isOp, isObj⟩), refused, popRequest_of_head head]
    rfl
  · split
    · rfl
    · rename_i r rest head
      rw [if_neg fun is => other r rest head ((isOf_iff r opRead [27]).1 is)]

theorem refusesAtHead_restart : RefusesAtHead execRestart 3 [50] := by
  intro s running
  unfold execRestart State.restartRequest
  rw [whenRunning_on running]
  refine ⟨fun r rest st head isOp isObj refused => ?_, fun other => ?_⟩
  · rw [head]
    dsimp only
    rw [if_pos ((isOf_iff r opCommand [50]).2 ⟨isOp, isObj⟩), refused, popRequest_of_head head]
    rfl
  · split
    · rfl
    · rename_i r rest head
      rw [if_neg fun is => other r rest head ((isOf_iff r opCommand [50]).1 is)]

theorem requestRows_refuse : ∀ x ∈ requestRows, RefusesAtHead (exec x.1) x.2.1 x.2.2 := by
  have serves (op : Nat) (objs : List Nat) (act : State → Request → Service) := refusesAtHead_serve op objs act
  simp only [requestRows, List.forall_mem_cons]
  exact ⟨serves _ _ _, serves _ _ _, serves _ _ _, serves _ _ _, serves _ _ _, serves _ _ _, serves _ _ _, serves _ _ _,
    serves _ _ _, serves _ _ _, serves _ _ _, serves _ _ _, refusesAtHead_readSummary, serves _ _ _, serves _ _ _,
    serves _ _ _, serves _ _ _, serves _ _ _, serves _ _ _, serves _ _ _, serves _ _ _, serves _ _ _, serves _ _ _,
    serves _ _ _, serves _ _ _, serves _ _ _, serves _ _ _, serves _ _ _, serves _ _ _, serves _ _ _, serves _ _ _,
    serves _ _ _, serves _ _ _, refusesAtHead_restart, nofun⟩

/-- Settles O17. -/
theorem refusedRequestHasNoEffect : Obligations.RefusedRequestHasNoEffect :=
  fun _ _ _ s row running => requestRows_refuse _ row s running

/-! ### A granted request -/

theorem Granted.waits {s : State} {r : Request} {op obj : Nat} (h : Granted s r op obj) :
    ∃ rest, s.mga.requests = r :: rest := List.head?_eq_some_iff.1 h.head

/-- A request that passes the checks is served by its owning block. -/
theorem serve_granted {s : State} {r : Request} {op obj : Nat} {objs : List Nat} {act : State → Request → Service}
    (h : Granted s r op obj) (of : obj ∈ objs) :
    whenRunning s (s.serve op objs act) = .next (((act (popped s) r).after.respond r (act (popped s) r).status
      (act (popped s) r).data).settle) := by
  obtain ⟨rest, head⟩ := h.waits
  rw [whenRunning_on h.running]
  unfold State.serve
  rw [head]
  dsimp only
  rw [if_pos ((isOf_iff r op objs).2 ⟨h.op, h.obj ▸ of⟩), h.passes]
  rfl

/-- A service that is refused. -/
theorem serve_checked_refused {s : State} {r : Request} {op obj : Nat} {objs : List Nat}
    {act : State → Request → Service} (h : Granted s r op obj) (of : obj ∈ objs) {st : Status} {t : State}
    {refusal : Option Status} (is : act (popped s) r = Service.checked (popped s) refusal t)
    (refused : refusal = some st) :
    whenRunning s (s.serve op objs act) = .next (((popped s).respond r st []).settle) := by
  rw [serve_granted h of, is, refused]
  rfl

/-- A service that is accepted. -/
theorem serve_checked_accepted {s : State} {r : Request} {op obj : Nat} {objs : List Nat}
    {act : State → Request → Service} (h : Granted s r op obj) (of : obj ∈ objs) {t : State}
    {refusal : Option Status} (is : act (popped s) r = Service.checked (popped s) refusal t)
    (passes : refusal = none) :
    whenRunning s (s.serve op objs act) = .next ((t.respond r .ok []).settle) := by
  rw [serve_granted h of, is, passes]
  rfl

/-! ### Stream frames -/

theorem receive_forPart {s : State} {kind : Byte} {fr : RxFrame} (h : ForPart s kind fr)
    (reader : kind.toNat ∈ [1, 2, 3, 5, 7] ∨ kind.toNat = 9) :
    whenPowered s (s.receive kind fr) = .next (s.readBy (rxToFrame kind fr)) := by
  have on : s.phase ≠ .held := by rw [h.running]; nofun
  rw [whenPowered_on on, State.receive, if_pos h.good,
    dispose_dest (fr := rxToFrame kind fr) h.straps h.own h.source, if_pos (by exact h.dest),
    consume_reader (fr := rxToFrame kind fr) reader, State.hand, if_pos (by exact h.fits), if_pos h.running]

theorem s16_bytes (a b : Byte) : s16At [a, b] 0 = (a ++ b).toInt := by
  have ha := a.isLt
  have hb := b.isLt
  have value : (a ++ b).toNat = a.toNat * 256 + b.toNat := by
    rw [BitVec.toNat_append, ← Nat.shiftLeft_add_eq_or_of_lt hb, Nat.shiftLeft_eq]
  have number : u16At [a, b] 0 = a.toNat * 256 + b.toNat := rfl
  rw [s16At, number, BitVec.toInt_eq_toNat_cond, value]
  split <;> split <;> omega

theorem quality_code (q : Byte) :
    qualityOf q.toNat = if q = 0 then .good else if q = 1 then .overrange else .invalid := by
  by_cases zero : q = 0
  · subst zero; rfl
  · by_cases one : q = 1
    · subst one; rfl
    · rw [if_neg zero, if_neg one]
      have notZero : q.toNat ≠ 0 := fun is => zero (BitVec.eq_of_toNat_eq is)
      have notOne : q.toNat ≠ 1 := fun is => one (BitVec.eq_of_toNat_eq is)
      unfold qualityOf
      split
      · exact absurd (by assumption) notZero
      · exact absurd (by assumption) notOne
      · rfl

theorem sampleEntries_length (n : Nat) (l : List Byte) : (sampleEntries n l).length = min n (l.length / 3) := by
  induction n, l using sampleEntries.induct with
  | case1 l => simp [sampleEntries]
  | case2 n a b q rest ih => rw [sampleEntries, List.length_cons, ih]; simp only [List.length_cons]; omega
  | case3 n l short =>
    have few : l.length < 3 := by
      match l, short with
      | [], _ => simp
      | [_], _ => simp
      | [_, _], _ => simp
      | a :: b :: q :: rest, short => exact absurd rfl (short a b q rest)
    have none : sampleEntries (n + 1) l = [] := by
      match l, short with
      | [], _ => rfl
      | [_], _ => rfl
      | [_, _], _ => rfl
      | a :: b :: q :: rest, short => exact absurd rfl (short a b q rest)
    rw [none, List.length_nil]
    omega

theorem sampleEntries_getElem (n : Nat) (l : List Byte) (i : Nat) (h : i < (sampleEntries n l).length) :
    (sampleEntries n l)[i] = ((l.getD (3 * i) 0 ++ l.getD (3 * i + 1) 0).toInt, qualityOf (l.getD (3 * i + 2) 0).toNat) := by
  induction n, l using sampleEntries.induct generalizing i with
  | case1 l => simp [sampleEntries] at h
  | case2 n a b q rest ih =>
    cases i with
    | zero => simp [sampleEntries, s16_bytes]
    | succ i =>
      have inRest : i < (sampleEntries n rest).length := by simpa [sampleEntries] using h
      simp only [sampleEntries, List.getElem_cons_succ]
      rw [ih i inRest]
      rfl
  | case3 n l short =>
    rw [sampleEntries_length] at h
    match l, short with
    | [], _ => simp at h
    | [_], _ => simp at h
    | [_, _], _ => simp at h
    | a :: b :: q :: rest, short => exact absurd rfl (short a b q rest)

theorem takeEntries_zipIdx (src seq ch : Nat) (xs : List (Int × Quality)) (s : State) :
    s.takeEntries src seq ch xs = (xs.zipIdx ch).foldl (fun t x => t.takeSample (src, x.2) seq x.1.1 x.1.2) s := by
  induction xs generalizing s ch with
  | nil => rfl
  | cons x rest ih => rw [State.takeEntries, ih, List.zipIdx_cons, List.foldl_cons]

theorem u16At_append (l : List Byte) (i : Nat) : u16At l i = (l.getD i 0 ++ l.getD (i + 1) 0).toNat := by
  rw [BitVec.toNat_append, ← Nat.shiftLeft_add_eq_or_of_lt (l.getD (i + 1) 0).isLt, Nat.shiftLeft_eq]
  rfl

theorem u32At_append (l : List Byte) (i : Nat) : u32At l i =
    ((l.getD i 0 ++ l.getD (i + 1) 0) ++ (l.getD (i + 2) 0 ++ l.getD (i + 3) 0)).toNat := by
  rw [BitVec.toNat_append, ← Nat.shiftLeft_add_eq_or_of_lt (l.getD (i + 2) 0 ++ l.getD (i + 3) 0).isLt, Nat.shiftLeft_eq,
    ← u16At_append, ← u16At_append]
  rfl

/-- Settles O20. -/
theorem streamFramesTaken : Obligations.StreamFramesTaken := by
  refine ⟨fun s fr forPart => ⟨sampleChannels fr.payload, ?_, fun i h => ?_, ?_⟩, fun s fr forPart => ?_⟩
  · rw [sampleChannels, sampleEntries_length, List.length_drop]
  · simp only [sampleChannels]
    rw [sampleEntries_getElem, ← quality_code]
    have shifted (k : Nat) : (fr.payload.drop 2).getD k 0 = fr.payload.getD (2 + k) 0 := by
      simp [List.getElem?_drop]
    simp only [shifted, show 2 + (3 * i + 1) = 3 + 3 * i by omega, show 2 + (3 * i + 2) = 4 + 3 * i by omega, and_self]
  · refine (receive_forPart forPart (by decide)).trans ?_
    show (Host.Outcome.next (s.takeEntries fr.src.toNat (u16At fr.payload 0) 0 (sampleChannels fr.payload)) : Result) = _
    rw [takeEntries_zipIdx, u16At_append]
  · have taken : exec (.timeFrame fr) s = .next (s.timeIn fr.src.toNat fr.payload) :=
      receive_forPart forPart (by decide)
    rw [taken]
    unfold State.timeIn
    refine ⟨fun gateway => ?_, fun other => ?_⟩
    · rw [if_pos gateway, State.loadTime, u32At_append]
    · rw [if_neg other]

end Sys2Proof.Machine
end

-- ==== The rectifier controller ====
section
/-!
Entries to a rectifier state, the phase-back set, the timers, the commands, a status report and the control tick:
O45, O46, O47, O48 and O49.
-/

namespace Sys2Proof.Machine
open Sys2Proof

/-! ### Entries -/

/-- The gate order of entry to a state, R129. -/
theorem sendGate_enter (s : State) (st : RectState) (c : Option Cause) (t : Option Nat) :
    State.sendGate { s with rcu := s.rcu.enter st c t } = gateSent { s with rcu := { s.rcu with
      state := st
      cause := c
      timer := t
      ocRun := if st ∈ [.off, .blocked, .tripped] then 0 else s.rcu.ocRun
      lastAlpha := if st = .regulating then 9000 else s.rcu.lastAlpha
      acLow := if st = .regulating then false else s.rcu.acLow } }
      (if st = .phaseBack then (s.tables.regulator.alphaPb : Int) else 9000)
      (decide (st ∉ [.regulating, .phaseBack])) (decide (st ∈ [.starting, .regulating, .phaseBack])) := by
  unfold State.sendGate gateSent
  cases st <;> cases s.tables.regulator.gateNode <;> rfl

theorem rectEntered (s : State) (st : RectState) (c : Option Cause) (t : Option Nat) :
    RectEntered s (s.rectEnter st c t) st c t := by
  have entered := reports_changing (reportFree_rcu fun r => r.enter st c t) (reports_refl s)
  have gated := reports_update reportFree_sendGate
    (reports_post entered .rectState .station c (some (st.code : Int)))
  rw [sendGate_enter] at gated
  exact gated

section
variable (s : State)

theorem pbEmpty_of_none (none : ∀ f : Feeder, s.rcu.pbSet[f] = false) : pbEmpty s.rcu.pbSet = true := by
  cases empty : pbEmpty s.rcu.pbSet with
  | true => rfl
  | false =>
    obtain ⟨i, h, requested⟩ := (pbEmpty_iff _).1 empty
    exact absurd (none ⟨i, h⟩) (by rw [show s.rcu.pbSet[(⟨i, h⟩ : Feeder)] = true from requested]; nofun)

theorem pbEmpty_of_some (some : ∃ f : Feeder, s.rcu.pbSet[f] = true) : pbEmpty s.rcu.pbSet = false := by
  obtain ⟨f, requested⟩ := some
  exact (pbEmpty_iff _).2 ⟨f.val, f.isLt, requested⟩

theorem toRegulating_empty (empty : pbEmpty s.rcu.pbSet = true) :
    RectEntered s s.toRegulating .regulating none none := by
  have stays : s.toRegulating = s.rectEnter .regulating none none := by
    unfold State.toRegulating State.toPhaseBack
    rw [if_neg]
    rintro ⟨_, waits⟩
    exact absurd empty (by rw [show pbEmpty s.rcu.pbSet = false from waits]; nofun)
  rw [stays]
  exact rectEntered s _ _ _

theorem toRegulating_requested (requested : pbEmpty s.rcu.pbSet = false) : ∃ v : State,
    RectEntered s v .regulating none none ∧
      RectEntered v s.toRegulating .phaseBack none (some (4 * s.tables.regulator.tPb)) := by
  have backs : s.toRegulating = (s.rectEnter .regulating none none).rectEnter .phaseBack none
      (some (4 * s.tables.regulator.tPb)) := by
    unfold State.toRegulating State.toPhaseBack
    rw [if_pos ⟨rfl, requested⟩]
    rfl
  rw [backs]
  exact ⟨_, rectEntered s _ _ _, rectEntered _ _ _ _⟩

/-- The states an entry to REGULATING leads to move to BLOCKED. -/
theorem toRegulating_active : s.toRegulating.rcu.active = true := by
  unfold State.toRegulating State.toPhaseBack
  split <;> rfl

/-! ### Phase-back -/

/-- Settles O47. -/
theorem phaseBackSet : Obligations.PhaseBackSet := by
  rintro s f joined left rfl rfl
  refine ⟨fun other => ?_, fun regulating => ?_, fun stays => ?_, fun back last => ?_⟩
  · unfold State.phaseBackRequest State.toPhaseBack
    rw [if_neg fun is => other is.1]
  · unfold State.phaseBackRequest State.toPhaseBack
    rw [if_pos ⟨regulating, pbEmpty_set _ f⟩]
    exact rectEntered _ _ _ _
  · unfold State.phaseBackWithdraw
    dsimp only
    rw [if_neg]
    rintro ⟨back, empty⟩
    rcases stays with other | ⟨g, other, requested⟩
    · exact other back
    · have still : pbEmpty (s.rcu.pbSet.set f false) = false :=
        (pbEmpty_iff _).2 ⟨g.val, g.isLt, by
          rw [Vector.getElem_set_ne _ _ (fun same => other (Fin.ext same.symm))]; exact requested⟩
      rw [still] at empty
      cases empty
  · have empty : pbEmpty (s.rcu.pbSet.set f false) = true := by
      cases is : pbEmpty (s.rcu.pbSet.set f false) with
      | true => rfl
      | false =>
        obtain ⟨i, h, requested⟩ := (pbEmpty_iff _).1 is
        rw [Vector.getElem_set] at requested
        split at requested
        · cases requested
        · rename_i other
          have none := last ⟨i, h⟩ fun same => other (congrArg Fin.val same).symm
          rw [show s.rcu.pbSet[(⟨i, h⟩ : Feeder)] = true from requested] at none
          cases none
    unfold State.phaseBackWithdraw
    dsimp only
    rw [if_pos ⟨back, empty⟩]
    exact toRegulating_empty _ empty

/-! ### Timers -/

theorem ranOut_iff (t : Option Nat) : ranOut t = true ↔ t = some 0 := by simp [ranOut]

theorem toList_eq_allFeeders {α : Type} (v : Vector α 10) : v.toList = allFeeders.map fun f => v[f] := by
  apply List.ext_getElem
  · simp [allFeeders]
  · intro i h _
    have inRange : i < 10 := by simpa using h
    have number : ∀ j : Feeder, (allFeeders[j.val]'(by simp [allFeeders])) = j := by decide
    rw [List.getElem_map]
    have this := number ⟨i, inRange⟩
    simp only at this
    rw [this]
    simp

theorem pbCount_eq (set : Vector Bool 10) : pbCount set = allFeeders.countP fun f => set[f] := by
  unfold pbCount
  rw [toList_eq_allFeeders, List.countP_map]
  rfl

theorem sendGate_off (off : s.rcu.state = .off) : s.sendGate = gateSent s 9000 true false := by
  unfold State.sendGate gateSent Rcu.gateOrder
  rw [off]
  cases s.tables.regulator.gateNode <;> rfl

end

/-- A row that is due does what it does, and one that is not has no effect. -/
theorem due_next {s t : State} {p : Prop} [Decidable p] (running : s.phase = .running) :
    (p → whenRunning s (if p then t else s) = .next t) ∧ (¬ p → whenRunning s (if p then t else s) = .next s) := by
  rw [whenRunning_on running]
  exact ⟨fun due => by rw [if_pos due], fun early => by rw [if_neg early]⟩

/-- Settles O46. -/
theorem rectifierTimersExpire : Obligations.RectifierTimersExpire := by
  intro s running
  have timer (p : Prop) (due : ranOut s.rcu.timer = true) (early : s.rcu.timer ≠ some 0 ∨ ¬ p) : ¬ p :=
    early.resolve_left fun other => other ((ranOut_iff _).1 due)
  refine ⟨?_, ?_, ?_, ?_, fun early => (due_next running).2 fun due => early ((ranOut_iff _).1 due),
    fun early => (due_next running).2 fun due => timer _ due.2 early due.1,
    fun early => (due_next running).2 fun due => timer _ due.2 early (by simpa using due.1),
    fun early => (due_next running).2 fun due => timer _ due.2 early due.1⟩
  · intro due v is
    have expired : exec .gateDriverSupervisionExpiry s = .next (if s.rcu.adoption then v.sendGate else v) := by
      subst is
      exact (due_next running).1 ((ranOut_iff _).2 due)
    rw [expired]
    refine ⟨fun adopted => ?_, fun adopting off => ?_⟩
    · rw [adopted]; rfl
    · rw [if_pos adopting, sendGate_off v (by rw [is]; exact off)]
  · intro starting due
    exact ⟨_, _, (due_next running).1 ⟨starting, (ranOut_iff _).2 due⟩, reports_post (reports_refl s) _ _ _ _,
      rectEntered _ _ _ _⟩
  · intro opens due
    exact ⟨_, (due_next running).1 ⟨by simpa using opens, (ranOut_iff _).2 due⟩, rectEntered _ _ _ _⟩
  · intro back due
    refine ⟨_, _, (due_next running).1 ⟨back, (ranOut_iff _).2 due⟩, ?_, toRegulating_empty _ rfl⟩
    rw [← pbCount_eq]
    exact reports_post (reports_refl s) _ _ _ _

/-! ### Commands -/

theorem statusShows_iff (r : Rcu) (p : RectStatus → Bool) :
    r.statusShows p = true ↔ r.supervised = true ∧ ∃ st, r.status = some st ∧ p st = true := by
  cases status : r.status <;> simp [Rcu.statusShows, status]

/-- The refusal of RECT_START: STATE by the first four conditions, RANGE by the curve. -/
theorem rectStartRefusal_eq (s : State) : s.rectStartRefusal =
    if s.rcu.state = .off ∧ s.rcu.adoption = false ∧ s.stl.lockout = false ∧ s.mga.unconfigured = false ∧
        s.rcu.statusShows (fun st => st.ac == .opened && st.ready && !st.gateFault) = true then
      if curveValid s.tables.curve = true then none else some .range
    else some .state := by
  unfold State.rectStartRefusal
  simp only [firstFailing]
  cases s.rcu.adoption <;> cases s.stl.lockout <;> cases s.mga.unconfigured <;>
    cases s.rcu.statusShows (fun st => st.ac == .opened && st.ready && !st.gateFault) <;>
      by_cases off : s.rcu.state = .off <;> simp [off]

theorem curveValid_iff (tab : Vector Nat 65) : curveValid tab = true ↔
    tab[0] = 9000 ∧ tab[64] = 0 ∧ ∀ j (h : j < 64), tab[j + 1] ≤ tab[j] := by
  unfold curveValid
  rw [Bool.and_eq_true, Bool.and_eq_true, decide_eq_true_iff, decide_eq_true_iff, and_assoc, List.all_eq_true]
  refine and_congr_right fun _ => and_congr_right fun _ => ⟨fun all j h => ?_, fun all x hx => ?_⟩
  · have inZip : j < (tab.toList.zip (tab.toList.drop 1)).length := by simp; omega
    have step := all _ (List.getElem_mem inZip)
    have second : 1 + j = j + 1 := Nat.add_comm 1 j
    simpa [second] using step
  · obtain ⟨j, h, rfl⟩ := List.getElem_of_mem hx
    have inRange : j < 64 := by simp at h; omega
    have second : 1 + j = j + 1 := Nat.add_comm 1 j
    simpa [second] using all j inRange

/-- Settles O49. -/
theorem rectifierCommandsServed : Obligations.RectifierCommandsServed := by
  intro s r
  dsimp only
  have ready : (s.rcu.supervised = true ∧ ∃ st, s.rcu.status = some st ∧ st.ac = .opened ∧ st.ready = true ∧
      st.gateFault = false) ↔
      s.rcu.statusShows (fun st => st.ac == .opened && st.ready && !st.gateFault) = true := by
    rw [statusShows_iff]; simp [and_assoc]
  have opened : (s.rcu.supervised = true ∧ ∃ st, s.rcu.status = some st ∧ st.ac = .opened ∧ st.gateFault = false) ↔
      s.rcu.statusShows (fun st => st.ac == .opened && !st.gateFault) = true := by
    rw [statusShows_iff]; simp
  rw [ready, opened, ← curveValid_iff]
  refine ⟨fun granted => ⟨fun refused => ?_, fun off adopted lockout configured shows => ⟨fun invalid => ?_, fun valid =>
    ?_⟩⟩, fun granted => ?_, fun granted => ?_⟩
  · refine serve_checked_refused granted (by decide) rfl ?_
    rw [rectStartRefusal_eq, if_neg]
    rintro ⟨off, adopted, lockout, configured, shows⟩
    rcases refused with h | h | h | h | h
    · exact h off
    · rw [show s.rcu.adoption = false from adopted] at h; cases h
    · rw [show s.stl.lockout = false from lockout] at h; cases h
    · rw [show s.mga.unconfigured = false from configured] at h; cases h
    · exact h shows
  · refine serve_checked_refused granted (by decide) rfl ?_
    rw [rectStartRefusal_eq, if_pos ⟨off, adopted, lockout, configured, shows⟩]
    exact if_neg invalid
  · refine ⟨_, serve_checked_accepted granted (by decide) rfl ?_, rectEntered _ _ _ _⟩
    rw [rectStartRefusal_eq, if_pos ⟨off, adopted, lockout, configured, shows⟩]
    exact if_pos valid
  · have served : exec .rectStop s = .next (((popped s).rectStop.1.respond r (popped s).rectStop.2 []).settle) :=
      serve_granted (act := State.serveRectStop) granted (by decide)
    have stop {u : State} {st : Status} (is : (popped s).rectStop = (u, st)) : Serves .rectStop s r st [] u := by
      rw [Serves, served, is]
    refine ⟨fun stops => ⟨(popped s).rectEnter .stopping none (some halfSecond), stop ?_, rectEntered _ _ _ _⟩,
      fun stopping => stop ?_, fun refuses => stop ?_⟩
    · simp only [List.mem_cons, List.not_mem_nil, or_false] at stops
      unfold State.rectStop
      rcases stops with is | is | is <;> rw [show (popped s).rcu.state = _ from is]
    · unfold State.rectStop
      rw [show (popped s).rcu.state = _ from stopping]
    · simp only [List.mem_cons, List.not_mem_nil, or_false] at refuses
      unfold State.rectStop
      rcases refuses with is | is | is <;> rw [show (popped s).rcu.state = _ from is]
  · have refusal : (popped s).rectResetRefusal =
        if s.rcu.state = .tripped ∧ s.rcu.statusShows (fun st => st.ac == .opened && !st.gateFault) = true then none
        else some .state := by
      unfold State.rectResetRefusal popped
      simp only [firstFailing]
      cases s.rcu.statusShows (fun st => st.ac == .opened && !st.gateFault) <;>
        by_cases tripped : s.rcu.state = .tripped <;> simp [tripped]
    refine ⟨fun tripped shows => ⟨_, serve_checked_accepted granted (by decide) rfl ?_, rectEntered _ _ _ _⟩,
      fun refused => serve_checked_refused granted (by decide) rfl ?_⟩
    · rw [refusal, if_pos ⟨tripped, shows⟩]
    · rw [refusal, if_neg]
      rintro ⟨tripped, shows⟩
      rcases refused with h | h
      · exact h tripped
      · exact h shows

/-! ### A status report -/

theorem positionOf_code (x : Byte) :
    positionOf x.toNat = if x = 0 then .opened else if x = 1 then .closed else .travel := by
  by_cases zero : x = 0
  · subst zero; rfl
  · by_cases one : x = 1
    · subst one; rfl
    · rw [if_neg zero, if_neg one]
      have notZero : x.toNat ≠ 0 := fun is => zero (BitVec.eq_of_toNat_eq is)
      have notOne : x.toNat ≠ 1 := fun is => one (BitVec.eq_of_toNat_eq is)
      unfold positionOf
      split
      · exact absurd (by assumption) notZero
      · exact absurd (by assumption) notOne
      · rfl

section
variable {u : State} {st : RectStatus}

/-- What the AC breaker's position and the adoption make of a report, before its gate fault. -/
def State.breakerHandled (u : State) (st : RectStatus) : State := u.rectHandle { st with gateFault := false }

theorem rectHandle_noFault (fault : st.gateFault = false) : u.rectHandle st = u.breakerHandled st := by
  cases st
  cases fault
  rfl

theorem rectHandle_fault (fault : st.gateFault = true) : u.rectHandle st =
    if (u.breakerHandled st).rcu.active then (u.breakerHandled st).rectBlock .gateFault else u.breakerHandled st := by
  unfold State.breakerHandled State.rectHandle
  rw [fault]
  rfl

theorem breakerHandled_adopting_closed (adopting : u.rcu.adoption = true) (ac : st.ac = .closed) :
    u.breakerHandled st = State.startRegulating { u with rcu := { u.rcu with adoption := false } } := by
  simp [State.breakerHandled, State.rectHandle, adopting, ac]

theorem breakerHandled_adopting_opened (adopting : u.rcu.adoption = true) (ac : st.ac = .opened) :
    u.breakerHandled st = { u with rcu := { u.rcu with adoption := false } } := by
  simp [State.breakerHandled, State.rectHandle, adopting, ac]

theorem breakerHandled_adopting_travel (adopting : u.rcu.adoption = true) (ac : st.ac = .travel) :
    u.breakerHandled st = u := by
  simp [State.breakerHandled, State.rectHandle, adopting, ac]

theorem breakerHandled_starting_closed (adopted : u.rcu.adoption = false) (state : u.rcu.state = .starting)
    (ac : st.ac = .closed) : u.breakerHandled st = u.startRegulating := by
  simp [State.breakerHandled, State.rectHandle, adopted, ac, state]

/-- Positions that a state takes no part in. -/
theorem breakerHandled_other (adopted : u.rcu.adoption = false)
    (other : st.ac = .travel ∨ u.rcu.state ∈ [.off, .tripped] ∨ (st.ac = .opened ∧ u.rcu.state = .starting) ∨
      (st.ac = .closed ∧ u.rcu.state ∈ [.regulating, .phaseBack, .stopping, .blocked])) :
    u.breakerHandled st = u := by
  unfold State.breakerHandled State.rectHandle
  dsimp only
  rw [adopted]
  simp only [List.mem_cons, List.not_mem_nil, or_false] at other
  rcases other with ac | (state | state) | ⟨ac, state⟩ | ⟨ac, state | state | state | state⟩
  · rw [ac]; cases u.rcu.state <;> rfl
  · rw [state]; cases st.ac <;> rfl
  · rw [state]; cases st.ac <;> rfl
  all_goals rw [ac, state]; rfl

theorem breakerHandled_opened {state : RectState} {cause : Option Cause} (adopted : u.rcu.adoption = false)
    (ac : st.ac = .opened) (enters : (u.rcu.state ∈ [.regulating, .phaseBack] ∧ state = .tripped ∧
        cause = some .acOpened) ∨ (u.rcu.state = .stopping ∧ state = .off ∧ cause = none) ∨
      (u.rcu.state = .blocked ∧ state = .tripped ∧ cause = u.rcu.cause)) :
    u.breakerHandled st = u.rectEnter state cause none := by
  simp only [List.mem_cons, List.not_mem_nil, or_false] at enters
  unfold State.breakerHandled State.rectHandle
  dsimp only
  rw [adopted, ac]
  rcases enters with ⟨is | is, rfl, rfl⟩ | ⟨is, rfl, rfl⟩ | ⟨is, rfl, rfl⟩ <;> rw [is] <;> rfl

theorem startRegulating_runs (s : State) :
    ((∀ f : Feeder, s.rcu.pbSet[f] = false) →
      RectEntered { s with rcu := { s.rcu with trim := 0 } } s.startRegulating .regulating none none) ∧
    ((∃ f : Feeder, s.rcu.pbSet[f] = true) → ∃ v : State,
      RectEntered { s with rcu := { s.rcu with trim := 0 } } v .regulating none none ∧
        RectEntered v s.startRegulating .phaseBack none (some (4 * s.tables.regulator.tPb))) :=
  ⟨fun none => toRegulating_empty _ (pbEmpty_of_none s none), fun some =>
    toRegulating_requested _ (pbEmpty_of_some s some)⟩

theorem active_iff (r : Rcu) : r.active = true ↔ r.state ∈ [.starting, .regulating, .phaseBack, .stopping] := by
  simp [Rcu.active, or_assoc]

theorem inactive_of {s : State} (state : s.rcu.state ∈ [.off, .tripped, .blocked]) : s.rcu.active = false := by
  simp only [List.mem_cons, List.not_mem_nil, or_false] at state
  rcases state with is | is | is <;> simp [Rcu.active, is]

end

/-- Settles O45: the breaker's part first, then the gate fault in the state it leaves (log entry 16). -/
theorem rectStatusTaken : Obligations.RectStatusTaken := by
  intro s u fr st forPart report kept
  have taken : exec (.rectStatusFrame fr) s = .next (s.rectIn fr.src.toNat fr.payload) :=
    receive_forPart forPart (by decide)
  refine ⟨fun other => ?_, fun gate => ?_⟩
  · rw [taken]
    unfold State.rectIn
    rw [if_neg other]
  have handled : exec (.rectStatusFrame fr) s = .next (u.rectHandle st) := by
    rw [taken]
    unfold State.rectIn
    rw [if_pos gate, kept, report, ← positionOf_code]
    rfl
  have noFault (fault : st.gateFault = false) {t : State} (is : u.breakerHandled st = t) :
      exec (.rectStatusFrame fr) s = .next t := by rw [handled, rectHandle_noFault fault, is]
  have still (fault : st.gateFault = true) {t : State} (is : u.breakerHandled st = t) (inactive : t.rcu.active = false) :
      exec (.rectStatusFrame fr) s = .next t := by
    rw [handled, rectHandle_fault fault, is, if_neg (by rw [inactive]; nofun)]
  have blocked (fault : st.gateFault = true) {t : State} (is : u.breakerHandled st = t) (active : t.rcu.active = true) :
      ∃ t' : State, exec (.rectStatusFrame fr) s = .next t' ∧ RectEntered t t' .blocked (some .gateFault) (some 2000) := by
    rw [handled, rectHandle_fault fault, is, if_pos active]
    exact ⟨_, rfl, rectEntered _ _ _ _⟩
  have enters {state : RectState} {cause : Option Cause} (is : u.breakerHandled st = u.rectEnter state cause none)
      (inactive : state ∈ [.off, .tripped, .blocked]) :
      ∃ t : State, exec (.rectStatusFrame fr) s = .next t ∧ RectEntered u t state cause none := by
    refine ⟨_, ?_, rectEntered u state cause none⟩
    cases fault : st.gateFault with
    | false => exact noFault fault is
    | true => exact still fault is (inactive_of inactive)
  have state : s.rcu.state = u.rcu.state := by rw [kept]
  have adoption : s.rcu.adoption = u.rcu.adoption := by rw [kept]
  have cause : s.rcu.cause = u.rcu.cause := by rw [kept]
  have set : s.rcu.pbSet = u.rcu.pbSet := by rw [kept]
  have limit : s.tables.regulator.tPb = u.tables.regulator.tPb := by rw [kept]
  dsimp only
  rw [state, adoption, cause, set, limit]
  refine ⟨fun fault => ⟨fun adopting => ⟨fun ac => ?_, fun ac => ?_, fun ac => ?_⟩, fun adopted => ⟨fun ac state => ?_,
    fun other => ?_⟩⟩, fun adopted ac => ⟨fun state => ?_, fun state => ?_, fun state => ?_⟩,
    fun fault => ⟨fun adopting => ⟨fun ac => ?_, fun state ac => ?_, fun state ac => ?_⟩,
      fun adopted => ⟨fun state => ?_, fun state ac => ?_, fun state ac => ?_, fun state => ?_⟩⟩⟩
  · exact noFault fault (breakerHandled_adopting_travel adopting ac)
  · exact noFault fault (breakerHandled_adopting_opened adopting ac)
  · exact ⟨_, noFault fault (breakerHandled_adopting_closed adopting ac),
      startRegulating_runs { u with rcu := { u.rcu with adoption := false } }⟩
  · exact ⟨_, noFault fault (breakerHandled_starting_closed adopted state ac), startRegulating_runs u⟩
  · exact noFault fault (breakerHandled_other adopted other)
  · exact enters (breakerHandled_opened adopted ac (.inl ⟨state, rfl, rfl⟩)) (by decide)
  · exact enters (breakerHandled_opened adopted ac (.inr (.inl ⟨state, rfl, rfl⟩))) (by decide)
  · exact enters (breakerHandled_opened adopted ac (.inr (.inr ⟨state, rfl, rfl⟩))) (by decide)
  · exact ⟨_, startRegulating_runs { u with rcu := { u.rcu with adoption := false } },
      blocked fault (breakerHandled_adopting_closed adopting ac) (toRegulating_active _)⟩
  · exact still fault (breakerHandled_adopting_opened adopting ac) (inactive_of (by simp [state]))
  · exact still fault (breakerHandled_adopting_travel adopting ac) (inactive_of (by simp [state]))
  · exact still fault (breakerHandled_other adopted (.inr (.inl state))) (inactive_of (by
      simp only [List.mem_cons, List.not_mem_nil, or_false] at state ⊢; tauto))
  · refine still fault (breakerHandled_other adopted ?_) (inactive_of (by simp [state]))
    cases position : st.ac with
    | opened => exact absurd position ac
    | closed => exact .inr (.inr (.inr ⟨rfl, by simp [state]⟩))
    | travel => exact .inl rfl
  · exact ⟨_, startRegulating_runs u, blocked fault (breakerHandled_starting_closed adopted state ac) (toRegulating_active _)⟩
  · refine blocked fault (breakerHandled_other adopted ?_) ((active_iff _).2 ?_)
    · rcases state with ⟨state, ac⟩ | ⟨state, ac⟩
      · cases position : st.ac with
        | opened => exact .inr (.inr (.inl ⟨rfl, state⟩))
        | closed => exact absurd position ac
        | travel => exact .inl rfl
      · cases position : st.ac with
        | opened => exact absurd position ac
        | closed => exact .inr (.inr (.inr ⟨rfl, by simp only [List.mem_cons, List.not_mem_nil, or_false] at state ⊢; tauto⟩))
        | travel => exact .inl rfl
    · rcases state with ⟨state, _⟩ | ⟨state, _⟩
      · simp [state]
      · exact List.mem_cons_of_mem _ state

end Sys2Proof.Machine
end

-- ==== The control tick ====
section
/-!
The gate orders of a control tick and the stages of the regulator: O48.
-/

namespace Sys2Proof.Machine
open Sys2Proof

section
variable (s : State)

theorem sendGate_regulating (state : s.rcu.state = .regulating) : s.sendGate = gateSent s s.rcu.lastAlpha false true := by
  unfold State.sendGate gateSent Rcu.gateOrder
  rw [state]
  cases s.tables.regulator.gateNode <;> rfl

theorem sendGate_phaseBack (state : s.rcu.state = .phaseBack) :
    s.sendGate = gateSent s s.tables.regulator.alphaPb false true := by
  unfold State.sendGate gateSent Rcu.gateOrder
  rw [state]
  cases s.tables.regulator.gateNode <;> rfl

theorem sendGate_blocked (state : s.rcu.state ∈ [.starting, .stopping, .blocked]) :
    s.sendGate = gateSent s 9000 true (decide (s.rcu.state = .starting)) := by
  simp only [List.mem_cons, List.not_mem_nil, or_false] at state
  unfold State.sendGate gateSent Rcu.gateOrder
  rcases state with is | is | is <;> rw [is] <;> cases s.tables.regulator.gateNode <;> rfl

theorem controlTick_regulating (state : s.rcu.state = .regulating) : s.controlTick = s.regulate.sendGate := by
  unfold State.controlTick
  rw [state]

theorem controlTick_sends (state : s.rcu.state ∈ [.starting, .stopping, .blocked] ∨ s.rcu.state = .phaseBack) :
    s.controlTick = s.sendGate := by
  simp only [List.mem_cons, List.not_mem_nil, or_false, or_assoc] at state
  unfold State.controlTick
  rcases state with is | is | is | is <;> rw [is]

theorem controlTick_silent (state : s.rcu.state ∈ [.off, .tripped]) : s.controlTick = s := by
  simp only [List.mem_cons, List.not_mem_nil, or_false] at state
  unfold State.controlTick
  rcases state with is | is <;> rw [is]

/-! ### The stages -/

/-- A LOST point holds the last values (R139). -/
theorem regulate_lost (lost : s.smp.points[20].sighted = false ∨ s.smp.points[21].sighted = false ∨
    s.smp.points[22].sighted = false) : s.regulate = { s with rcu := s.rcu.hold s.tables.regulator } := by
  unfold State.regulate
  dsimp only
  rw [if_pos]
  simp only [State.lost, busPoint, rectPoint, acPoint, Bool.or_eq_true, Bool.not_eq_true', or_assoc]
  exact lost

theorem regulate_sighted (bus : s.smp.points[20].sighted = true) (rect : s.smp.points[21].sighted = true)
    (ac : s.smp.points[22].sighted = true) {w : Working} (is : w = s.rcu.working1 s.tables.regulator
      s.smp.points[20].last s.smp.points[21].last s.smp.points[22].last) :
    (w.vD0 < s.tables.regulator.vD0Min → s.regulate =
      if s.rcu.acLow then { s with rcu := { s.rcu.hold s.tables.regulator with acLow := true } }
      else State.post { s with rcu := { s.rcu.hold s.tables.regulator with acLow := true } } .acLow .station none
        (some w.vD0)) ∧
    (¬ w.vD0 < s.tables.regulator.vD0Min → s.regulate =
      { s with rcu := s.rcu.regulated s.tables.regulator s.tables.curve w }) := by
  subst is
  have sighted : (s.lost busPoint || s.lost rectPoint || s.lost acPoint) = false := by
    simp only [State.lost, busPoint, rectPoint, acPoint, Bool.or_eq_false_iff, Bool.not_eq_false']
    exact ⟨⟨bus, rect⟩, ac⟩
  unfold State.regulate
  dsimp only
  rw [sighted]
  exact ⟨fun low => if_pos low, fun high => if_neg high⟩

theorem clampInt_eq_max_min {a b : Int} (x : Int) (ordered : a ≤ b) : clampInt x a b = max a (min b x) := by
  unfold clampInt
  split
  · omega
  · split <;> omega

/-- Stage 8 on the integers, with its end at 4096. -/
theorem curveAngle_eq (tab : Vector Nat 65) {d raw : Int} (top : d ≤ 4096)
    (between : ∀ (j r : Nat) (h : j < 64), j = d.toNat / 64 → r = d.toNat % 64 →
      raw = (tab[j] : Int) - (((tab[j] : Int) - tab[j + 1]) * r).tdiv 64)
    (last : d = 4096 → raw = tab[64]) : curveAngle tab d = raw := by
  unfold curveAngle
  dsimp only
  split
  · rename_i inside
    rw [between _ _ inside rfl rfl]
    simp only [curveAt]
    rw [dif_pos (by omega), dif_pos (by omega)]
  · rw [last (by omega)]
    simp [curveAt]

end

/-- Settles O48: the orders by state; in REGULATING the stages, each as the model computes it. -/
theorem controlTickComputes : Obligations.ControlTickComputes := by
  rintro s s1 g c running due is rfl rfl
  have ticks : exec .controlTick s = .next s1.controlTick := by
    subst is
    exact (due_next running).1 due
  have rcu : s1.rcu = s.rcu := by rw [is]
  have tables : s1.tables = s.tables := by rw [is]
  have smp : s1.smp = s.smp := by rw [is]
  rw [ticks, ← rcu, ← tables, ← smp]
  have next {t u : State} (h : t = u) : (.next t : Result) = .next u := by rw [h]
  refine ⟨fun state => next (controlTick_silent s1 state), fun state => next ?_, fun state => next ?_, fun state => ?_⟩
  · rw [controlTick_sends s1 (.inl state), sendGate_blocked s1 state]
  · rw [controlTick_sends s1 (.inr state), sendGate_phaseBack s1 state]
  rw [controlTick_regulating s1 state]
  refine ⟨fun lost => next ?_, fun bus rect ac => ?_⟩
  · rw [regulate_lost s1 lost]
    exact sendGate_regulating _ state
  rintro i base vRef e st trim u vD0 d raw alpha rfl baseIs vRefIs eIs stIs trimIs uIs vD0Is
  have reference : vReference s1.tables.regulator s1.smp.points[21].last = vRef := by
    rw [vReference, clampInt_eq_max_min _ (by decide), ← baseIs]
    exact vRefIs.symm
  have trimmed : trimStep s1.tables.regulator s1.rcu.trim s1.rcu.lastAlpha e = trim := by
    rw [trimStep, ← stIs]
    exact trimIs.symm
  have working : s1.rcu.working1 s1.tables.regulator s1.smp.points[20].last s1.smp.points[21].last
      s1.smp.points[22].last = { vRef := vRef, e := e, u := u, vD0 := vD0, d := ratio u vD0 } := by
    rw [Rcu.working1]
    rw [reference, ← eIs, trimmed, demand, ← uIs, noLoadVoltage, ← vD0Is]
  obtain ⟨low, high⟩ := regulate_sighted s1 bus rect ac working.symm
  refine ⟨fun below => ?_, fun above dIs between last alphaIs => next ?_⟩
  · rw [low below]
    refine ⟨_, rfl, ?_⟩
    have gate (x : State) (state : x.rcu.state = .regulating) : gateSent x x.rcu.lastAlpha false true = x.sendGate :=
      (sendGate_regulating x state).symm
    have base := gate { s1 with rcu := { s1.rcu.hold s1.tables.regulator with acLow := true } } state
    refine Eq.mpr (congrArg (fun x => Reports x _ _) base) (reports_update reportFree_sendGate ?_)
    split
    · exact reports_refl _
    · exact reports_post (reports_refl _) _ _ _ _
  · rw [high (not_lt.2 above)]
    have angle : curveAngle s1.tables.curve (ratio u vD0) = raw := by
      have same : ratio u vD0 = d := dIs.symm
      rw [same]
      exact curveAngle_eq _ (by omega) between last
    have limited : limitAngle s1.tables.regulator s1.rcu.lastAlpha raw = alpha := alphaIs.symm
    have stored : s1.rcu.regulated s1.tables.regulator s1.tables.curve
        { vRef := vRef, e := e, u := u, vD0 := vD0, d := ratio u vD0 } =
        { s1.rcu with trim := trim, lastAlpha := alpha, acLow := false
                      working := some { vRef := vRef, e := e, u := u, vD0 := vD0, d := d } } := by
      rw [Rcu.regulated]
      dsimp only
      rw [trimmed, angle, limited, dIs]
      rfl
    rw [stored]
    exact sendGate_regulating _ state

end Sys2Proof.Machine
end

-- ==== Events, notices and the set commands ====
section
/-!
The change of the summary, the summary and its bytes, the acknowledgements, SET_SETPOINT, SET_MODE, SET_TIME and the
store: O53, O54 and O60.
-/

namespace Sys2Proof.Machine
open Sys2Proof

/-! ### Notices -/

theorem noticed_noteChange (old : Summary) (t : State) : Noticed old t (t.noteChange old) := by
  unfold State.noteChange State.notify
  refine ⟨fun still => ?_, fun n changed none gateway straps => ?_⟩
  · have flag : (old != t.summary && t.evr.notice.isNone && t.canNotify) = false := by
      unfold State.canNotify
      rcases still with same | outstanding | noGateway | fault
      · simp [same]
      · simp [outstanding]
      · simp [noGateway]
      · simp [fault]
    rw [flag]
    rfl
  · have flag : (old != t.summary && t.evr.notice.isNone && t.canNotify) = true := by
      simp [State.canNotify, changed, none, gateway, straps]
    rw [flag]
    simp only [if_true, State.noticeFrame, noticeTo, gateway, Option.getD_some, kindNotice]

theorem noticed_changing (s : State) (g : State → State) : Noticed s.summary (g s) (s.changing g) :=
  noticed_noteChange s.summary (g s)

theorem noteChange_summary (t : State) : t.noteChange t.summary = t :=
  (noticed_noteChange t.summary t).1 (.inl rfl)

/-! ### The summary -/

theorem allFeeders_getElem? (f : Feeder) : allFeeders[f.val]? = some f := by revert f; decide

theorem allSlots_getElem? (n : Slot) : allSlots[n.val]? = some n := by revert n; decide

theorem summaryShows (s : State) : SummaryShows s s.summary where
  unconfigured := rfl
  lockout := rfl
  mode := rfl
  rect := rfl
  feeders := ⟨rfl, fun f => by simp [State.summary, allFeeders_getElem?, State.feederSummary, State.blind, State.lost, currentPoint]⟩
  links := ⟨rfl, fun n => by simp [State.summary, allSlots_getElem?]⟩
  pending := by simp [State.summary]
  lost := rfl
  recorder := by
    show s.drc.state.name = _
    cases s.drc.state <;> rfl
  storeBusy := rfl

theorem bits_station (a b c d e f : Bool) : (byteOfBits [a, b, c, d, e, f]).toNat < 64 ∧
    (byteOfBits [a, b, c, d, e, f]).getLsbD 0 = a ∧ (byteOfBits [a, b, c, d, e, f]).getLsbD 1 = b ∧
    (byteOfBits [a, b, c, d, e, f]).getLsbD 2 = c ∧ (byteOfBits [a, b, c, d, e, f]).getLsbD 3 = d ∧
    (byteOfBits [a, b, c, d, e, f]).getLsbD 4 = e ∧ (byteOfBits [a, b, c, d, e, f]).getLsbD 5 = f := by
  revert a b c d e f; decide

/-- The byte of one feeder, R212. -/
def feederByte (st : FeederState) (held blind b : Bool) : Byte :=
  BitVec.ofNat 8 st.code ||| byteOfBits [false, false, false, false, held, blind, b]

theorem bits_feeder (st : FeederState) (held blind b : Bool) : (feederByte st held blind b).toNat < 128 ∧
    (feederByte st held blind b).toNat % 16 = feederStateNum st ∧ (feederByte st held blind b).getLsbD 4 = held ∧
    (feederByte st held blind b).getLsbD 5 = blind ∧ (feederByte st held blind b).getLsbD 6 = b := by
  revert held blind b
  cases st <;> decide

theorem bits_links (a b c d : Bool) : (byteOfBits [a, b, c, d]).toNat < 16 ∧
    ∀ n : Slot, (byteOfBits [a, b, c, d]).getLsbD n.val = [a, b, c, d][n.val] := by
  revert a b c d; decide

theorem summaryLaidOut (s : State) : SummaryLaidOut s (summaryBytes s.summary) where
  length := by simp [summaryBytes, State.summary, allFeeders]
  station := by
    obtain ⟨small, b0, b1, b2, b3, b4, b5⟩ := bits_station s.mga.unconfigured s.stl.lockout (s.mga.mode == .remote)
      (!s.evr.events.isEmpty) s.evr.lost s.mga.busy
    refine ⟨byteOfBits [s.mga.unconfigured, s.stl.lockout, s.mga.mode == .remote, !s.evr.events.isEmpty, s.evr.lost,
      s.mga.busy], rfl, small, b0, b1, ?_, ?_, b4, b5⟩
    · rw [b2]; simp
    · rw [b3]; simp
  feeders f := by
    obtain ⟨small, code, held, blind, bank⟩ := bits_feeder s.fct[f].state s.fpu[f].context.isSome
      (!s.smp.points[f.val].sighted) (s.sco.sect[f].bank == .b)
    refine ⟨feederByte s.fct[f].state s.fpu[f].context.isSome (!s.smp.points[f.val].sighted)
      (s.sco.sect[f].bank == .b), ?_, small, code, held, blind, by rw [bank]; simp⟩
    have inside : f.val < (allFeeders.map fun g => feederByte s.fct[g].state s.fpu[g].context.isSome (s.blind g)
        (s.sco.sect[g].bank == .b)).length := by simp [allFeeders]
    have bytes : summaryBytes s.summary = byteOfBits [s.mga.unconfigured, s.stl.lockout, s.mga.mode == .remote,
        !s.evr.events.isEmpty, s.evr.lost, s.mga.busy] ::
        ((allFeeders.map fun g => feederByte s.fct[g].state s.fpu[g].context.isSome (s.blind g)
          (s.sco.sect[g].bank == .b)) ++ [BitVec.ofNat 8 (s.rcu.state.code + 16 * s.drc.state.name.code),
            byteOfBits s.summary.links]) := rfl
    rw [bytes, Nat.add_comm 1 f.val, List.getElem?_cons_succ, List.getElem?_append_left inside, List.getElem?_map,
      allFeeders_getElem?]
    rfl
  rectifier := by
    refine ⟨BitVec.ofNat 8 (s.rcu.state.code + 16 * s.drc.state.name.code), rfl, ?_⟩
    cases s.rcu.state <;> cases s.drc.state <;> rfl
  links := by
    obtain ⟨small, bits⟩ := bits_links s.sco.link[(0 : Slot)].up s.sco.link[(1 : Slot)].up s.sco.link[(2 : Slot)].up
      s.sco.link[(3 : Slot)].up
    refine ⟨_, rfl, small, fun n => (bits n).trans ?_⟩
    match n with
    | 0 => rfl
    | 1 => rfl
    | 2 => rfl
    | 3 => rfl

/-! ### Acknowledgements -/

/-- In a queue in form the record that carries a sequence number stands where `placeOf` says. -/
theorem placeOf_seq {e : Evr} (form : EventQueueOk e) (words : ∀ x ∈ e.events, x.seq < 65536) (i : Nat)
    (h : i < e.events.length) : e.placeOf e.events[i].seq = some i := by
  obtain ⟨few, _, runs⟩ := form
  have first := runs 0 (by omega)
  have here := runs i h
  have small := words _ (List.getElem_mem h)
  have firstSmall := words _ (List.getElem_mem (Nat.zero_lt_of_lt h))
  unfold Evr.placeOf
  split
  · rename_i none
    rw [none] at h
    exact absurd h (Nat.not_lt_zero _)
  · rename_i x rest is
    have head : e.events[0] = x := by simp [is]
    rw [head] at first firstSmall
    dsimp only
    have place : (e.events[i].seq + 65536 - x.seq % 65536) % 65536 = i := by omega
    rw [place, if_pos h]

theorem placeOf_none {e : Evr} (form : EventQueueOk e) (words : ∀ x ∈ e.events, x.seq < 65536) {n : Nat}
    (word : n < 65536) (absent : ∀ x ∈ e.events, x.seq ≠ n) : e.placeOf n = none := by
  obtain ⟨few, _, runs⟩ := form
  unfold Evr.placeOf
  split
  · rfl
  · rename_i x rest is
    dsimp only
    rw [if_neg]
    intro inside
    have first := runs 0 (by omega)
    have here := runs _ inside
    have small := words _ (List.getElem_mem inside)
    have head : e.events[0]'(by omega) = x := by simp [is]
    rw [head] at first
    have firstSmall := words x (by simp [is])
    refine absent _ (List.getElem_mem inside) ?_
    omega

theorem serve_done {s u : State} {r : Request} {op obj : Nat} {objs : List Nat} {act : State → Request → Service}
    {st : Status} {data : List Byte} (h : Granted s r op obj) (of : obj ∈ objs)
    (is : act (popped s) r = { after := u, status := st, data := data }) :
    whenRunning s (s.serve op objs act) = .next ((u.respond r st data).settle) := by
  rw [serve_granted h of, is]

theorem summary_popped (s : State) : (popped s).summary = s.summary := rfl

/-- Settles O54. -/
theorem acknowledgementsServed : Obligations.AcknowledgementsServed := by
  refine ⟨noticed_changing, fun s kind subject cause value => ⟨noticed_changing s fun s => { s with evr := s.evr.take kind subject cause value },
      fun room => ?_, fun full => ?_⟩,
    fun s r n granted number form words => ⟨fun absent => ?_, fun i h seq => ?_⟩, fun s r granted => ⟨fun acknowledged => ?_,
      fun copy outstanding => ⟨fun still => ?_, fun m differs gateway straps => ?_⟩⟩,
    fun s => ⟨summaryShows s, summaryLaidOut s⟩⟩
  · have few : ¬ 128 ≤ s.evr.events.length := by omega
    simp [Evr.take, room, few]
  · have many : ¬ s.evr.events.length < 128 := by omega
    simp [Evr.take, full, many]
  · refine serve_done (act := State.serveAckEvents) granted (by decide) ?_
    have word : u16At r.data 0 = n := by rw [u16At_append, number]
    have place : (popped s).evr.placeOf (u16At r.data 0) = none :=
      placeOf_none form words (by rw [word, number]; exact BitVec.isLt _) (by rw [word]; exact absent)
    unfold State.serveAckEvents
    rw [place]
    rfl
  · refine ⟨(popped s).changing fun s =>
      { s with evr := { s.evr with events := s.evr.events.drop (i + 1), lost := false } },
      serve_done (act := State.serveAckEvents) granted (by decide) ?_,
      noticed_changing (popped s) fun s => { s with evr := { s.evr with events := s.evr.events.drop (i + 1), lost := false } }⟩
    have place : (popped s).evr.placeOf (u16At r.data 0) = some i := by
      rw [u16At_append, ← number, ← seq]
      exact placeOf_seq form words i h
    unfold State.serveAckEvents
    rw [place]
    rfl
  · refine serve_done (act := State.serveAckNotice) granted (by decide) ?_
    unfold State.serveAckNotice State.ackNotice
    rw [show (popped s).evr.notice = none from acknowledged]
    rfl
  · refine serve_done (act := State.serveAckNotice) granted (by decide) ?_
    have due : (copy != s.summary && s.canNotify) = false := by
      unfold State.canNotify
      rcases still with same | gateway | straps
      · simp [same]
      · simp [gateway]
      · simp [straps]
    have quiet (t : State) : t.notify (copy != s.summary && s.canNotify) = t := by rw [due]; rfl
    unfold State.serveAckNotice State.ackNotice
    rw [show (popped s).evr.notice = some copy from outstanding]
    exact congrArg Service.done (quiet _)
  · refine serve_done (act := State.serveAckNotice) granted (by decide) ?_
    have due : (copy != s.summary && s.canNotify) = true := by
      simp [State.canNotify, differs, gateway, straps]
    have built (t : State) : t.notify (copy != s.summary && s.canNotify) =
        { t with evr := { t.evr with notice := some t.summary }, rif := t.rif.putNotice t.noticeFrame } := by
      rw [due]; rfl
    have frame (t : State) (same : t.tables = s.tables) : t.noticeFrame = makeFrame t.rif.node m 11
        (summaryBytes t.summary ++ be32 t.evr.ms ++ be16 t.evr.nextSeq) := by
      rw [State.noticeFrame, same, gateway]
      rfl
    unfold State.serveAckNotice State.ackNotice
    rw [show (popped s).evr.notice = some copy from outstanding]
    refine (congrArg Service.done (built _)).trans ?_
    rw [frame _ (by rfl)]
    rfl

/-! ### SET_SETPOINT, SET_MODE and SET_TIME -/

/-- The role a served request is reported with. -/
theorem roleCause_granted {s : State} {r : Request} {op obj : Nat} (h : Granted s r op obj) :
    (popped s).roleCause r = writerOf s r := by
  have all := (firstFailing_none_iff _).1 h.passes
  have role : (s.roleOf r.src).isSome = true := all ((s.roleOf r.src).isSome, .access) (by simp)
  have cause (role : Role) (is : s.roleOf r.src = some role) : (popped s).roleCause r = role.cause := by
    unfold State.roleCause
    rw [show (popped s).roleOf r.src = some role from is]
  unfold writerOf
  unfold State.roleOf at role cause
  split
  · rename_i unconfigured
    exact cause .panel (if_pos unconfigured)
  · rename_i configured
    rw [if_neg configured] at role cause
    split
    · rename_i panel
      exact cause .panel (if_pos panel)
    · rename_i other
      rw [if_neg other] at role cause
      split at role
      · rename_i gateway
        exact cause .control (if_pos gateway)
      · cases role

theorem s32At_append (l : List Byte) : s32At l 0 =
    ((l.getD 0 0 ++ l.getD 1 0) ++ (l.getD 2 0 ++ l.getD 3 0) : BitVec 32).toInt := by
  have value : u32At l 0 = ((l.getD 0 0 ++ l.getD 1 0) ++ (l.getD 2 0 ++ l.getD 3 0) : BitVec 32).toNat :=
    u32At_append l 0
  rw [s32At, value, BitVec.toInt_eq_toNat_cond]
  split <;> split <;> omega

theorem modeOf_byte (x : Byte) : modeOf x.toNat = if x = 0 then some .localMode else if x = 1 then some .remote else none := by
  by_cases zero : x = 0
  · subst zero; rfl
  · by_cases one : x = 1
    · subst one; rfl
    · rw [if_neg zero, if_neg one]
      have notZero : x.toNat ≠ 0 := fun is => zero (BitVec.eq_of_toNat_eq is)
      have notOne : x.toNat ≠ 1 := fun is => one (BitVec.eq_of_toNat_eq is)
      unfold modeOf
      split
      · exact absurd (by assumption) notZero
      · exact absurd (by assumption) notOne
      · rfl

/-- Settles O53. -/
theorem setCommandsServed : Obligations.SetCommandsServed := by
  intro s r
  dsimp only
  rw [← s32At_append]
  refine ⟨fun granted => ⟨fun outside => ?_, fun low high v is => ?_⟩, fun granted => ⟨fun mode is => ?_, fun zero one => ?_⟩,
    fun granted => ?_⟩
  · refine serve_done (act := State.serveSetpoint) granted (by decide) ?_
    unfold State.serveSetpoint
    dsimp only
    rw [if_neg (by omega)]
    rfl
  · have clamped : clampInt (s32At r.data 0) (popped s).tables.station.vSetMin (popped s).tables.station.vSetMax = v :=
      is.symm
    refine ⟨((popped s).setVSet v.toNat).settingsChanged (writerOf s r) 8 0,
      serve_done (act := State.serveSetpoint) granted (by decide) ?_, reports_post (reports_refl _) _ _ _ _⟩
    unfold State.serveSetpoint
    dsimp only
    rw [if_pos ⟨low, high⟩, clamped, roleCause_granted granted]
  · refine ⟨(popped s).changing fun s => { s with mga := { s.mga with mode := mode } },
      serve_done (act := State.serveSetMode) granted (by decide) ?_,
      noticed_changing (popped s) fun s => { s with mga := { s.mga with mode := mode } }⟩
    have code : modeOf (byteAt r.data 0) = some mode := by
      rw [byteAt, modeOf_byte]
      rcases is with ⟨zero, rfl⟩ | ⟨one, rfl⟩
      · rw [zero]; rfl
      · rw [one]; rfl
    unfold State.serveSetMode
    rw [code]
    rfl
  · refine serve_done (act := State.serveSetMode) granted (by decide) ?_
    have code : modeOf (byteAt r.data 0) = none := by rw [byteAt, modeOf_byte, if_neg zero, if_neg one]
    unfold State.serveSetMode
    rw [code]
    rfl
  · refine serve_done (act := State.serveSetTime) granted (by decide) ?_
    unfold State.serveSetTime State.loadTime
    rw [u32At_append]
    rfl

/-! ### The store -/

theorem reports_endStore (s : State) (good : Bool) : Reports
    { s with mga := { s.mga with busy := false, storeTimer := none, image := none
                                 unconfigured := s.mga.unconfigured && !good } } (s.endStore good)
    [if good then (.storeDone, .station, none, none) else (.storeBad, .station, some .writeFailed, none)] := by
  have ended := reports_changing (reportFree_mga fun m => { m with busy := false, storeTimer := none, image := none
                                                                   unconfigured := m.unconfigured && !good })
    (reports_refl s)
  unfold State.endStore
  dsimp only
  cases good with
  | true => exact reports_post ended _ _ _ _
  | false => exact reports_post ended _ _ _ _

/-- Settles O60. -/
theorem storeRuns : Obligations.StoreRuns := by
  refine ⟨fun s r granted => ⟨(popped s).beginStore, serve_done (act := State.serveStore) granted (by decide) rfl, ?_⟩,
    fun s running => ⟨fun back check image is busy => ?_, fun back still => ?_, fun busy due => ?_, fun still => ?_⟩⟩
  · have begins : ReportFree fun s : State => { s with mga := { s.mga with
        busy := true, storeTimer := some storeTicks, image := some (s.tables, Config.imageCheck s.tables) } } :=
      fun _ => ⟨fun _ _ => rfl, rfl, rfl, rfl, rfl, rfl, rfl⟩
    exact reports_changing begins (reports_refl (popped s))
  · have confirmed : exec (.storeConfirm back) s = .next (s.endStore (decide (back = check))) := by
      refine (whenRunning_on running).trans ?_
      rw [is]
      dsimp only
      rw [if_pos busy]
    refine ⟨fun same => ⟨_, confirmed, ?_⟩, fun other => ⟨_, confirmed, ?_⟩⟩
    · rw [decide_eq_true same]
      have ended := reports_endStore s true
      rwa [Bool.not_true, Bool.and_false] at ended
    · rw [decide_eq_false other]
      have ended := reports_endStore s false
      rwa [Bool.not_false, Bool.and_true] at ended
  · refine (whenRunning_on running).trans ?_
    rcases still with idle | none
    · split
      · rw [idle]; rfl
      · rfl
    · rw [none]
  · refine ⟨_, (due_next running).1 (by simp [busy, due, ranOut]), ?_⟩
    have ended := reports_endStore s false
    rwa [Bool.not_false, Bool.and_true] at ended
  · refine (due_next running).2 ?_
    rcases still with idle | early
    · simp [idle]
    · simp [ranOut, early]

end Sys2Proof.Machine
end

-- ==== The recorder's words, triggers and commands ====
section
/-!
Where a word of a record lies and how it is placed, the header, a trigger by the recorder's state and the recorder's
commands: O56 and O57.
-/

namespace Sys2Proof.Machine
open Sys2Proof

/-! ### Words -/

theorem liesAt_cons (x : ChainDesc) (rest : List ChainDesc) (n a : Nat) : LiesAt (x :: rest) n a ↔
    (n < regionWords x ∧ a = x.start + n) ∨ (regionWords x ≤ n ∧ LiesAt rest (n - regionWords x) a) := by
  constructor
  · rintro ⟨i, h, before, rfl, low, high, rfl⟩
    cases i with
    | zero => exact .inl ⟨by simpa using high, by simp⟩
    | succ i =>
      simp only [List.take_succ_cons, List.map_cons, List.sum_cons, List.getElem_cons_succ] at low high ⊢
      exact .inr ⟨by omega, i, by simpa using h, _, rfl, by omega, by omega, by omega⟩
  · rintro (⟨inside, rfl⟩ | ⟨beyond, i, h, before, rfl, low, high, rfl⟩)
    · exact ⟨0, by simp, 0, by simp, by omega, by simpa using inside, by simp⟩
    · refine ⟨i + 1, by simpa using h, _, rfl, ?_⟩
      simp only [List.take_succ_cons, List.map_cons, List.sum_cons, List.getElem_cons_succ]
      omega

theorem liesAt_iff (chain : List ChainDesc) (n a : Nat) : LiesAt chain n a ↔ chainAddr chain n = some a := by
  induction chain generalizing n with
  | nil => simp [LiesAt, chainAddr]
  | cons x rest ih =>
    have size : descSize x = regionWords x := rfl
    rw [liesAt_cons, ih, chainAddr, size]
    split
    · rename_i inside
      simp only [inside, true_and, Nat.not_le_of_lt inside, false_and, or_false, Option.some.injEq]
      exact eq_comm
    · rename_i beyond
      simp only [beyond, false_and, Nat.le_of_not_lt beyond, true_and, false_or]

theorem wordPlaced_placeAt (d : Drc) (chain : List ChainDesc) (n : Nat) (x : Word) :
    WordPlaced d (d.placeAt chain n x) chain n x := by
  unfold WordPlaced Drc.placeAt
  simp only [liesAt_iff]
  refine ⟨fun nowhere => ?_, fun a here => ?_⟩
  · split
    · rename_i a here
      exact absurd here (nowhere a)
    · rfl
  · rw [here]
    dsimp only
    refine ⟨fun room => ?_, fun y rest full many => ?_⟩
    · unfold Drc.buffer
      split
      · rw [if_neg (by omega)]
      · rename_i empty
        rw [empty]
        rfl
    · unfold Drc.buffer
      rw [full] at many ⊢
      dsimp only
      rw [if_pos many]

theorem chainCapacity_eq (chain : List ChainDesc) : chainCapacity chain = (chain.map regionWords).sum := rfl

/-! ### The header -/

theorem point_small {ps : List Nat} (points : ∀ q ∈ ps, q ≤ 23) (i : Nat) : ps.getD i 0 ≤ 23 := by
  rw [List.getD_eq_getElem?_getD]
  cases h : ps[i]? with
  | none => simp
  | some q => exact points q (List.mem_of_getElem? h)

/-- Four points of six bits each: their sum fits in 24 bits and each stands in its place. -/
theorem packPoints_digits {ps : List Nat} (points : ∀ q ∈ ps, q ≤ 23) : packPoints ps < 16777216 ∧
    ∀ (n : Nat) (j : Fin 4), (n * 268435456 + packPoints ps) / 64 ^ (3 - j.val) % 64 = ps.getD j.val 0 := by
  have p0 := point_small points 0
  have p1 := point_small points 1
  have p2 := point_small points 2
  have p3 := point_small points 3
  unfold packPoints
  refine ⟨by omega, fun n j => ?_⟩
  match j with
  | 0 => show _ / 262144 % 64 = ps.getD 0 0; omega
  | 1 => show _ / 4096 % 64 = ps.getD 1 0; omega
  | 2 => show _ / 64 % 64 = ps.getD 2 0; omega
  | 3 => show _ / 1 % 64 = ps.getD 3 0; omega

theorem headerLaidOut (points : List Nat) (x : RecordInProgress) : HeaderLaidOut points x (headerWords points x) where
  length := rfl
  trigger := ⟨rfl, rfl, rfl⟩
  counts := ⟨rfl, rfl, rfl⟩
  list := by
    intro few small
    have front (j : Fin 4) : (points.take 4).getD j.val 0 = points.getD j.val 0 := by
      simp [List.getD_eq_getElem?_getD, j.isLt]
    have back (j : Fin 4) : (points.drop 4).getD j.val 0 = points.getD (4 + j.val) 0 := by
      simp [List.getD_eq_getElem?_getD, List.getElem?_drop]
    obtain ⟨fits, digits⟩ := packPoints_digits (ps := points.take 4) fun q hq => small q (List.mem_of_mem_take hq)
    obtain ⟨fits', digits'⟩ := packPoints_digits (ps := points.drop 4) fun q hq => small q (List.mem_of_mem_drop hq)
    refine ⟨_, _, rfl, rfl, ?_⟩
    have first : (BitVec.ofNat 32 (points.length * 268435456 + packPoints (points.take 4))).toNat =
        points.length * 268435456 + packPoints (points.take 4) := by
      rw [BitVec.toNat_ofNat]; omega
    have second : (BitVec.ofNat 32 (packPoints (points.drop 4))).toNat = packPoints (points.drop 4) := by
      rw [BitVec.toNat_ofNat]; omega
    rw [first, second]
    refine ⟨by omega, by omega, fits', fun j => ⟨?_, ?_⟩⟩
    · rw [digits, front]
    · rw [← back, ← digits' 0, Nat.zero_mul, Nat.zero_add]

/-! ### Triggers -/

theorem reportFree_drc (d : Drc) : ReportFree fun s => { s with drc := d } :=
  fun _ => ⟨fun _ _ => rfl, rfl, rfl, rfl, rfl, rfl, rfl⟩

/-- A trigger's changes of the summary bring at most one notice. -/
theorem reports_trigger {u t : State} {ps : List (EventKind × Subject × Option Cause × Option Int)}
    (h : Reports u t ps) (c : Cause) (x : Subject) :
    Reports { u with drc := u.drc.trigger u.tables u.evr.ms c x } (t.trigger c x) ps := by
  obtain ⟨_, _, _, tables, _, _, _, _, _, _, _, drc, _⟩ := h.same
  have same : (t.trigger c x).drc = u.drc.trigger u.tables u.evr.ms c x := by rw [trigger_drc, drc, tables, h.ms]
  rw [← same]
  unfold State.trigger
  split
  · rename_i b _
    have started := reports_changing (reportFree_drc (t.drc.startCapture t.tables t.evr.ms c x b)) h
    have ended := reports_changing (reportFree_drc
      ((t.drc.startCapture t.tables t.evr.ms c x b).endIfFull t.tables)) started
    exact ended
  · exact reports_changing (reportFree_drc (t.drc.trigger t.tables t.evr.ms c x)) h

theorem startCapture_state (d : Drc) (t : Tables) (now : Nat) (c : Cause) (x : Subject) (b : List (List Int)) :
    ∃ r, (d.startCapture t now c x b).state = .capturing r := ⟨_, rfl⟩

theorem endIfFull_capturing {d : Drc} {t : Tables} {r : RecordInProgress} (state : d.state = .capturing r) :
    d.endIfFull t =
      if chainCapacity t.chain - r.words < t.recorder.points.length then d.drain t.chain r .short else d := by
  unfold Drc.endIfFull
  rw [state]

theorem trigger_armed {d : Drc} {b : List (List Int)} (state : d.state = .armed b) (t : Tables) (now : Nat) (c : Cause)
    (x : Subject) : d.trigger t now c x = (d.startCapture t now c x b).endIfFull t := by
  unfold Drc.trigger
  rw [state]

theorem trigger_capturing {d : Drc} {r : RecordInProgress} (state : d.state = .capturing r) (t : Tables) (now : Nat)
    (c : Cause) (x : Subject) : d.trigger t now c x = { d with state := (.capturing
      { r with remaining := t.recorder.postCount, retriggers := satInc 255 r.retriggers }) } := by
  unfold Drc.trigger
  rw [state]

theorem trigger_missed {d : Drc} (state : d.state = .idle ∨ (∃ r, d.state = .draining r) ∨ ∃ n r, d.state = .held n r)
    (t : Tables) (now : Nat) (c : Cause) (x : Subject) :
    d.trigger t now c x = { d with missed := satInc 255 d.missed } := by
  unfold Drc.trigger
  rcases state with state | ⟨r, state⟩ | ⟨n, r, state⟩ <;> rw [state]

theorem stateTrigger_other {s : State} (other : ∀ b, s.drc.state ≠ .armed b) (c : Cause) (x : Subject) :
    s.trigger c x = s.changing fun s => { s with drc := s.drc.trigger s.tables s.evr.ms c x } := by
  unfold State.trigger
  split
  · rename_i b armed
    exact absurd armed (other b)
  · rfl

theorem stateTrigger_armed {s : State} {b : List (List Int)} (armed : s.drc.state = .armed b) (c : Cause) (x : Subject) :
    s.trigger c x = (s.changing fun s => { s with
      drc := s.drc.startCapture s.tables s.evr.ms c x b }).changing fun s =>
        { s with drc := s.drc.endIfFull s.tables } := by
  unfold State.trigger
  rw [armed]

theorem satInc_eq_min (top n : Nat) : satInc top n = if n < top then n + 1 else top := rfl

/-! ### Commands -/

theorem recArmRefused_iff (s : State) : s.recArmRefused = true ↔ (∃ b, s.drc.state = .armed b) ∨
    (∃ x, s.drc.state = .capturing x) ∨ (∃ x, s.drc.state = .draining x) ∨ s.tables.chain = [] ∨
    chainCapacity s.tables.chain < 8 + s.tables.recorder.points.length := by
  unfold State.recArmRefused
  cases s.drc.state <;> simp

theorem firstFailing_single (b : Bool) (st : Status) : firstFailing [(!b, st)] = if b then some st else none := by
  cases b <;> rfl

theorem serve_recDisarm {s : State} {r : Request} {u : State} {st : Status} (granted : Granted s r 3 47)
    (is : (popped s).disarm = (u, st)) : Serves .recDisarm s r st [] u := by
  refine serve_done (act := State.serveRecDisarm) granted (by decide) ?_
  unfold State.serveRecDisarm
  rw [is]

theorem disarm_sleeps {s : State} (state : (∃ b, s.drc.state = .armed b) ∨ ∃ n x, s.drc.state = .held n x) :
    s.disarm = (s.changing fun s => { s with drc := { s.drc with state := .idle } }, .ok) := by
  unfold State.disarm
  rcases state with ⟨b, state⟩ | ⟨n, x, state⟩ <;> rw [state]

/-- A change of the recorder alone, with the notice that the summary's change brings. -/
theorem reports_recorder (s : State) (d : Drc) :
    Reports { s with drc := d } (s.changing fun s => { s with drc := d }) [] :=
  reports_changing (reportFree_drc d) (reports_refl s)

theorem placeFrom_state (d : Drc) (st : RecorderState) (chain : List ChainDesc) (n : Nat) (ws : List Word) :
    ({ d with state := st } : Drc).placeFrom chain n ws = { d.placeFrom chain n ws with state := st } := by
  induction ws generalizing d n with
  | nil => rfl
  | cons w rest ih =>
    have placed : ({ d with state := st } : Drc).placeAt chain n w = { d.placeAt chain n w with state := st } := by
      unfold Drc.placeAt
      split
      · unfold Drc.buffer
        dsimp only
        split
        · split <;> rfl
        · rfl
      · rfl
    rw [Drc.placeFrom, placed, ih]
    rfl

/-- Settles O56. -/
theorem recorderCommandsServed : Obligations.RecorderCommandsServed := by
  refine ⟨fun d t now cause subject => ⟨fun state => ?_, fun x state => ?_, fun buffer x state pre is d' placed => ?_⟩,
    fun s cause subject d is => ⟨fun other => ?_, fun b armed => ?_⟩, headerLaidOut, chainCapacity_eq,
    fun d chain n w rest => ⟨rfl, d.placeAt chain n w, wordPlaced_placeAt d chain n w, rfl⟩, fun s r => ?_⟩
  · rw [trigger_missed state]
    have count : satInc 255 d.missed = min 255 (d.missed + 1) := by unfold satInc; split <;> omega
    rw [count]
  · exact trigger_capturing state t now cause subject
  · have started : d.startCapture t now cause subject buffer = { d' with state := .capturing x } := by
      rw [placed, is, pre]
      rfl
    have drained : ({ d' with state := .capturing x } : Drc).drain t.chain x .short = d'.drain t.chain x .short := by
      unfold Drc.drain
      rw [placeFrom_state]
    rw [trigger_armed state, started, endIfFull_capturing rfl, drained]
  · subst is
    rw [stateTrigger_other other]
    exact noticed_changing s fun s => { s with drc := s.drc.trigger s.tables s.evr.ms cause subject }
  · subst is
    obtain ⟨x, captures⟩ := startCapture_state s.drc s.tables s.evr.ms cause subject b
    refine ⟨s.drc.startCapture s.tables s.evr.ms cause subject b, x, s.changing fun s => { s with
      drc := s.drc.startCapture s.tables s.evr.ms cause subject b }, captures, noticed_changing s fun s => { s with
        drc := s.drc.startCapture s.tables s.evr.ms cause subject b },
      fun full => ⟨?_, ?_⟩, fun room => ?_⟩
    · rw [trigger_armed armed, endIfFull_capturing captures, if_pos full]
    · rw [trigger_armed armed, stateTrigger_armed armed]
      exact noticed_changing _ fun s => { s with drc := s.drc.endIfFull s.tables }
    · have stays : (s.drc.startCapture s.tables s.evr.ms cause subject b).endIfFull s.tables =
          s.drc.startCapture s.tables s.evr.ms cause subject b := by
        rw [endIfFull_capturing captures, if_neg (by omega)]
      refine ⟨by rw [trigger_armed armed, stays], ?_⟩
      rw [stateTrigger_armed armed]
      generalize kept : (s.changing fun s => { s with
        drc := s.drc.startCapture s.tables s.evr.ms cause subject b }) = u
      have drc : u.drc = s.drc.startCapture s.tables s.evr.ms cause subject b := by rw [← kept]; rfl
      have tables : u.tables = s.tables := by rw [← kept]; rfl
      have same : ({ u with drc := u.drc.endIfFull u.tables } : State) = u := by
        rw [drc, tables, stays, ← drc, ← tables]
      show ({ u with drc := u.drc.endIfFull u.tables } : State).noteChange u.summary = u
      rw [same, noteChange_summary]
  · dsimp only
    refine ⟨fun granted => ⟨_, serve_done (act := State.serveRecTrigger) granted (by decide) rfl,
      reports_trigger (reports_refl (popped s)) .command .station⟩, fun granted => ⟨fun bad => ?_, fun good => ?_⟩,
      fun granted => ⟨fun state => ?_, fun state => ?_, fun x state => ?_, fun x state => ?_⟩⟩
    · refine serve_checked_refused (act := State.serveRecArm) granted (by decide) rfl ?_
      rw [firstFailing_single, if_pos ((recArmRefused_iff (popped s)).2 bad)]
    · refine ⟨_, serve_checked_accepted (act := State.serveRecArm) granted (by decide) rfl ?_,
        reports_recorder (popped s) { s.drc with state := .armed [], missed := 0 }⟩
      rw [firstFailing_single, if_neg fun refused => good ((recArmRefused_iff (popped s)).1 refused)]
    · refine serve_recDisarm granted ?_
      unfold State.disarm
      rw [show (popped s).drc.state = .idle from state]
    · exact ⟨_, _, rfl, serve_recDisarm granted (disarm_sleeps (s := popped s) state),
        reports_recorder (popped s) { s.drc with state := .idle }⟩
    · refine ⟨_, serve_recDisarm granted ?_,
        reports_recorder (popped s) (s.drc.drain s.tables.chain x .aborted)⟩
      unfold State.disarm
      rw [show (popped s).drc.state = .capturing x from state]
      rfl
    · refine serve_recDisarm granted ?_
      unfold State.disarm
      rw [show (popped s).drc.state = .draining x from state]

/-! ### The end of a record -/

/-- Settles O57. -/
theorem recordHeld : Obligations.RecordHeld := by
  refine ⟨fun d chain x reason => ⟨_, _, _, wordPlaced_placeAt d chain 5 _, wordPlaced_placeAt _ chain 6 _,
    wordPlaced_placeAt _ chain 7 _, ?_⟩, fun s running => ⟨fun other => ?_, fun x reason state is => ?_⟩⟩
  · cases reason <;> rfl
  · refine (whenRunning_on running).trans ?_
    unfold State.drainingEnds
    split
    · rename_i x state
      exact absurd state (other x)
    · rfl
  · refine ⟨_, whenRunning_on running, ?_⟩
    unfold State.drainingEnds
    rw [state]
    dsimp only
    rw [is]
    have held := reports_recorder s { s.drc.flush with
      state := .held (recordLength s.tables.recorder.points.length x) reason }
    have posted := reports_post held .recordReady .station reason.cause
      (some ((recordLength s.tables.recorder.points.length x : Nat) : Int))
    cases reason <;> exact posted

end Sys2Proof.Machine
end

-- ==== What the feeder controller reports ====
section
/-!
How `Reports` travels along the operations of the feeder controller that enter a state: each lemma takes a state known
but for reports through one more entry, with the record the controller then holds (R56 to R75).
-/

namespace Sys2Proof.Machine
open Sys2Proof

/-! ### The records of the states as the entries write them -/

theorem enter_lockout (c : Fct) (cause : Cause) :
    { c.enter .lockout none with lockCause := some cause } = lockoutRecord c cause := by
  simp [Fct.enter, lockoutRecord, inTest, keepsOpeningCause]

theorem enter_out (c : Fct) (n : Nat) : { c.enter .out none with attempts := n } = { outRecord c with attempts := n } := by
  simp [Fct.enter, outRecord, inTest, keepsOpeningCause]

theorem enter_opening (c : Fct) (timer : Option Nat) (cause : Cause) (r : FeederRec) :
    { c.enter .opening timer with openingCause := some cause } = { openingRecord c r cause with timer := timer } := by
  simp [Fct.enter, openingRecord, inTest]

theorem enter_closing (c : Fct) (r : FeederRec) : c.enter .closing (some (msTicks r.tClose)) = closingRecord c r := by
  simp [Fct.enter, closingRecord, inTest, keepsOpeningCause, msTicks]

theorem enter_deadTime (c : Fct) (r : FeederRec) (n : Nat) :
    { c.enter .deadTime (some (tenthTicks r.deadTime)) with attempts := n } = deadTimeRecord c r n := by
  simp [Fct.enter, deadTimeRecord, inTest, keepsOpeningCause, tenthTicks]

theorem enter_follow (c : Fct) (r : FeederRec) :
    c.enter .follow (some (tenthTicks r.followTimeout)) = followRecord c r := by
  simp [Fct.enter, followRecord, inTest, keepsOpeningCause, tenthTicks]

theorem enter_service (c : Fct) (r : FeederRec) :
    c.enter .service (some (tenthTicks r.reclaim)) = serviceRecord c r := by
  simp [Fct.enter, serviceRecord, inTest, keepsOpeningCause, tenthTicks]

theorem enter_testWait (c : Fct) (operator : Bool) (n : Nat) :
    { c.enter .testWait none with opClose := operator, attempts := n } = testWaitRecord c operator n := by
  simp [Fct.enter, testWaitRecord, inTest, keepsOpeningCause]

theorem enter_testing (c : Fct) : c.enter .testing none =
    { testWaitRecord c c.opClose c.attempts with state := .testing } := by
  simp [Fct.enter, testWaitRecord, inTest, keepsOpeningCause]

theorem enter_yielded (c : Fct) : c.enter .testWait none = testWaitRecord c c.opClose c.attempts := by
  simp [Fct.enter, testWaitRecord, inTest, keepsOpeningCause]

/-! ### Reports along the entries -/

theorem modFct_modFct (s : State) (f : Feeder) (g h : Fct → Fct) :
    (s.modFct f g).modFct f h = s.modFct f fun c => h (g c) := by
  have again : (s.modFct f g).modFct f h =
      { s with fct := (s.fct.set f (g s.fct[f])).set f (h (s.modFct f g).fct[f]) } := rfl
  rw [again, modFct_self, Vector.set_set]
  rfl

theorem modFct_fct_set (s : State) (f : Feeder) (g : Fct → Fct) (c : Fct) :
    (s.modFct f g).fct.set f c = s.fct.set f c := Vector.set_set ..

section
variable {u t : State} {ps : List (EventKind × Subject × Option Cause × Option Int)} (h : Reports u t ps) (f : Feeder)
include h

theorem Reports.fct : t.fct = u.fct := h.same.2.2.2.2.2.2.1
theorem Reports.tables : t.tables = u.tables := h.same.2.2.2.1
theorem Reports.smp : t.smp = u.smp := h.same.2.2.2.2.1
theorem Reports.fpu : t.fpu = u.fpu := h.same.2.2.2.2.2.1
theorem Reports.ltu : t.ltu = u.ltu := h.same.2.2.2.2.2.2.2.1
theorem Reports.sco : t.sco = u.sco := h.same.2.2.2.2.2.2.2.2.1
theorem Reports.rcu : t.rcu = u.rcu := h.same.2.2.2.2.2.2.2.2.2.1
theorem Reports.stl : t.stl = u.stl := h.same.2.2.2.2.2.2.2.2.2.2.1
theorem Reports.drc : t.drc = u.drc := h.same.2.2.2.2.2.2.2.2.2.2.2.1
theorem Reports.mga : t.mga = u.mga := h.same.2.2.2.2.2.2.2.2.2.2.2.2
theorem Reports.phase : t.phase = u.phase := h.same.1

/-- A controller's update that writes the record of a state. -/
theorem reports_fctSet_as {g k : Fct → Fct} (writes : ∀ c, g c = k c) : Reports (u.modFct f k) (t.fctSet f g) ps := by
  rw [← funext writes]
  exact reports_fctSet h f g

theorem reports_lockOut (c : Cause) : Reports (u.modFct f fun x => lockoutRecord x c) (t.lockOut f c)
    (ps ++ [(.lockout, .feeder f, some c, some (u.fct[f].attempts : Int))]) := by
  have entered := reports_fctSet_as h f fun x => enter_lockout x c
  unfold State.lockOut
  rw [h.fct]
  exact reports_post entered _ _ _ _

theorem reports_fctOut : Reports (u.modFct f outRecord) (t.fctOut f) ps :=
  reports_fctSet_as h f fun c => enter_out c 0

theorem reports_enterOut : Reports (u.modFct f fun c => { outRecord c with attempts := c.attempts })
    (t.fctEnter f .out none) ps := reports_fctSet_as h f fun c => enter_out c c.attempts

theorem reports_toOpening (c : Cause) (timed : Bool) :
    Reports (u.modFct f fun x => { openingRecord x u.tables.feeder[f] c with
      timer := if timed then some (4 * u.tables.feeder[f].tOpen) else none }) (t.toOpening f c timed) ps := by
  unfold State.toOpening
  rw [h.tables]
  exact reports_fctSet_as h f fun x => enter_opening x _ c _

theorem reports_openWithoutTrip (c : Cause) :
    Reports ((u.sendOrder f .opened).modFct f fun x => openingRecord x u.tables.feeder[f] c)
      (t.openWithoutTrip f c) ps := reports_toOpening (reports_sendOrder h f .opened) f c true

theorem Reports.blind : t.blind f = u.blind f := by
  unfold State.blind State.lost
  rw [h.smp]

/-- Entry to CLOSING of a feeder that is not blind (R66, R73). -/
theorem reports_toClosing (sighted : u.smp.points[f.val].sighted = true) :
    Reports ((u.sendOrder f .close).modFct f fun x => closingRecord x u.tables.feeder[f]) (t.toClosing f) ps := by
  have entered : Reports ((u.sendOrder f .close).modFct f fun x => closingRecord x u.tables.feeder[f])
      ((t.sendOrder f .close).fctEnter f .closing (some (msTicks t.tables.feeder[f].tClose))) ps := by
    rw [h.tables]
    exact reports_fctSet_as (reports_sendOrder h f .close) f fun x => enter_closing x _
  have notBlind : State.blind ((t.sendOrder f .close).fctEnter f .closing (some (msTicks t.tables.feeder[f].tClose)))
      f = false := by
    rw [entered.blind f]
    show (!u.smp.points[f.val].sighted) = false
    rw [sighted]
    rfl
  unfold State.toClosing State.blindOnEntry
  rw [notBlind]
  exact entered

theorem reports_toDeadTime (n : Nat) (c : Option Cause) :
    Reports (u.modFct f fun x => deadTimeRecord x u.tables.feeder[f] n) (t.toDeadTime f n c)
      (ps ++ [(.recloseStart, .feeder f, c, some (n : Int))]) := by
  unfold State.toDeadTime
  rw [h.tables]
  have entered := reports_fctSet_as h f fun x => enter_deadTime x u.tables.feeder[f] n
  exact reports_post entered _ _ _ _

theorem reports_toFollow : Reports (u.modFct f fun x => followRecord x u.tables.feeder[f])
    (t.fctEnter f .follow (some (tenthTicks t.tables.feeder[f].followTimeout))) ps := by
  rw [h.tables]
  exact reports_fctSet_as h f fun x => enter_follow x _

theorem reports_enterService : Reports (u.modFct f fun x => serviceRecord x u.tables.feeder[f])
    (t.enterService f) ps := by
  unfold State.enterService
  rw [h.tables]
  exact reports_fctSet_as h f fun x => enter_service x _

theorem reports_postSection (k : EventKind) (c : Option Cause) : Reports u (t.postSection f k c)
    (ps ++ [(k, .feeder f, c, some (u.tables.feeder[f].secNo : Int))]) := by
  unfold State.postSection
  rw [h.tables]
  exact reports_post h k _ c _

theorem reports_modFct (g : Fct → Fct) : Reports (u.modFct f g) (t.modFct f g) ps :=
  reports_update (reportFree_modFct f g) h

theorem reports_setQueue (q : List Feeder) : Reports (u.setQueue q) (t.setQueue q) ps :=
  reports_update (reportFree_setQueue q) h

end

/-! ### Outcomes, R65 -/

theorem sighted_of_not_blind {s : State} {f : Feeder} (h : s.blind f = false) : s.smp.points[f.val].sighted = true := by
  have seen : (!s.smp.points[f.val].sighted) = false := h
  simpa using seen

theorem blind_eq (s : State) (f : Feeder) : s.blind f = !s.smp.points[f.val].sighted := rfl

/-- The kinds that close the feeder are those the controller counts as PASS or LIVE. -/
theorem countedKind_closes_iff (s : State) (f : Feeder) (k : OutcomeKind) :
    (s.countedKind f k = .pass ∨ s.countedKind f k = .live) ↔ s.smp.points[f.val].sighted = true ∧
      (k = .pass ∨ (k = .live ∧ s.sco.sect[f].coupled = true ∧
        s.sco.sect[f].far.any SectionEntry.closed = true)) := by
  have seen := blind_eq s f
  have live := coupledFarClosed_iff s f
  cases k with
  | pass => cases sighted : s.smp.points[f.val].sighted <;> simp [State.countedKind, seen, sighted]
  | live =>
    cases sighted : s.smp.points[f.val].sighted with
    | false => simp [State.countedKind, seen, sighted]
    | true =>
      by_cases holds : s.coupledFarClosed f = true
      · obtain ⟨coupled, closed⟩ := live.1 holds
        exact iff_of_true (Or.inr (by simp [State.countedKind, seen, sighted, holds]))
          ⟨rfl, Or.inr ⟨rfl, coupled, closed⟩⟩
      · have not := fun x => holds (live.2 x)
        simpa [State.countedKind, seen, sighted, holds] using not
  | fail => simp [State.countedKind]
  | inconclusive => simp [State.countedKind]

/-- A kind that does not close the feeder counts as FAIL only when it is FAIL. -/
theorem countedKind_other {s : State} {f : Feeder} {k : OutcomeKind}
    (other : ¬(s.countedKind f k = .pass ∨ s.countedKind f k = .live)) :
    s.countedKind f k = if k = .fail then .fail else .inconclusive := by
  cases k with
  | pass => unfold State.countedKind at other ⊢; dsimp only at other ⊢; split <;> simp_all
  | live => unfold State.countedKind at other ⊢; dsimp only at other ⊢; split <;> simp_all
  | fail => rfl
  | inconclusive => rfl

theorem inTest_mem (st : FeederState) : inTest st = true ↔ st ∈ [FeederState.testWait, .testing] := by
  cases st <;> decide

/-- The taking of an outcome, through reports already made, as R65 has it. -/
theorem outcomeTaken_taken {s t : State} {first : List (EventKind × Subject × Option Cause × Option Int)}
    (h : Reports s t first) (f : Feeder) (o : TestOutcome) : OutcomeTaken s (t.outcomeTaken f o) f o first := by
  have counted : t.countedKind f o.kind = s.countedKind f o.kind := by
    unfold State.countedKind State.coupledFarClosed
    rw [h.blind f, h.sco]
  have iff := countedKind_closes_iff s f o.kind
  unfold OutcomeTaken State.outcomeTaken
  rw [h.fct]
  refine ⟨fun out => ?_, fun tested => ?_⟩
  · rw [if_neg fun tests => out ((inTest_mem _).1 tests)]
    exact h
  rw [if_pos ((inTest_mem _).2 tested)]
  unfold State.takeOutcome
  rw [counted, h.fct, h.tables]
  refine ⟨fun closes => ?_, ?_⟩
  · rw [if_pos (iff.2 closes)]
    exact reports_toClosing h f closes.1
  · rintro open' why rfl
    have other := fun closes => open' (iff.1 closes)
    have kind := countedKind_other other
    have cause : (s.countedKind f o.kind).cause = if o.kind = .fail then .fail else .inconclusive := by
      rw [kind]
      split <;> rfl
    rw [if_neg other]
    refine ⟨fun operator => ?_, fun automatic more => ?_, fun automatic last => ?_⟩
    · rw [if_pos operator, cause]
      have failed : (s.countedKind f o.kind = .fail) = (o.kind = .fail) := by
        rw [kind]
        split <;> simp_all
      simp only [failed]
      have ended := fun value => reports_post (reports_enterOut h f) .testFail (.feeder f)
        (some (if o.kind = .fail then .fail else .inconclusive)) value
      cases o.rLine <;> exact ended _
    · rw [if_neg (by rw [automatic]; nofun), if_pos more, cause]
      exact reports_toDeadTime h f _ _
    · rw [if_neg (by rw [automatic]; nofun), if_neg (by omega)]
      exact reports_lockOut h f _

/-- Settles O29. -/
theorem testOutcomeTaken : Obligations.TestOutcomeTaken := by
  rintro s f c o rest running rfl waits u
  have u_fct : u.fct[f] = { s.fct[f] with outcomeIn := rest } := modFct_self s f fun c => { c with outcomeIn := rest }
  have runs : exec (.testOutcome f) s = .next (u.outcomeTaken f o) := by
    show execTestOutcome f s = _
    unfold execTestOutcome
    rw [whenRunning_on running, waits]
    rfl
  refine ⟨fun out => ?_, fun _ => ⟨_, runs, outcomeTaken_taken (reports_refl u) f o⟩⟩
  rw [runs]
  unfold State.outcomeTaken
  rw [u_fct, if_neg fun tests => out ((inTest_mem _).1 tests)]

end Sys2Proof.Machine
end

-- ==== Withdrawals, commands and timers of the feeder controller ====
section
/-!
A withdrawn feeder's record, the examination of the head, the holds and the close condition, and with them the
controller's timers and commands and the timers of the test slots: O30, O31, O32, O36, O37 and O38.
-/

namespace Sys2Proof.Machine
open Sys2Proof

/-! ### A feeder out of the queue, R81 and R92 -/

theorem grant_fct_ne (s : State) (k : TestSlot) {f g : Feeder} (other : g ≠ f) : (s.grant k f).fct[g] = s.fct[g] := by
  show (State.fctEnter (s.setTestSlot k (.contact f contactorTicks)) f .testing none).fct[g] = _
  unfold State.fctEnter State.fctSet
  rw [changing_fct]
  exact modFct_ne _ f g _ other.symm

theorem handOutcome_fct_ne (s : State) (o : TestOutcome) {f g : Feeder} (other : g ≠ f) :
    (s.handOutcome f o).fct[g] = s.fct[g] := by
  unfold State.handOutcome State.postOutcome
  rw [post_fct]
  exact modFct_ne s f g _ other.symm

/-- What the examination of a head with a free slot does. -/
theorem examine_head {s : State} {f : Feeder} {rest : List Feeder} {k : TestSlot} (n : Nat)
    (queue : s.ltu.queue = f :: rest) (free : s.freeSlot = some k) : s.examine (n + 1) =
      if s.headClear f then
        if s.busDead then ((s.setQueue rest).handOutcome f inconclusive).examine n
        else ((s.setQueue rest).grant k f).examine n
      else s := by
  rw [State.examine, queue, free]

/-- Without a head, or without a free slot, an examination has no effect. -/
theorem examine_idle {s : State} (n : Nat) (idle : s.ltu.queue = [] ∨ s.freeSlot = none) : s.examine n = s := by
  cases n with
  | zero => rfl
  | succ n =>
    rw [State.examine]
    rcases idle with empty | full
    · rw [empty]
    · rw [full]
      cases s.ltu.queue <;> rfl

theorem handOutcome_ltu (s : State) (f : Feeder) (o : TestOutcome) : (s.handOutcome f o).ltu = s.ltu := by
  unfold State.handOutcome State.postOutcome
  rw [post_ltu]
  rfl

theorem grant_queue (s : State) (k : TestSlot) (f : Feeder) : (s.grant k f).ltu.queue = s.ltu.queue := by
  simp [State.grant, State.fctEnter, State.fctSet]

/-- An examination leaves the controller of a feeder that is not in the queue. -/
theorem examine_fct {f : Feeder} (n : Nat) (s : State) (out : f ∉ s.ltu.queue) : (s.examine n).fct[f] = s.fct[f] := by
  induction n generalizing s with
  | zero => rfl
  | succ n ih =>
    cases queue : s.ltu.queue with
    | nil => rw [examine_idle _ (Or.inl queue)]
    | cons g rest =>
      cases free : s.freeSlot with
      | none => rw [examine_idle _ (Or.inr free)]
      | some k =>
        rw [queue, List.mem_cons, not_or] at out
        obtain ⟨other, out⟩ := out
        rw [examine_head n queue free]
        split
        · split
          · rw [ih _ (by rw [handOutcome_ltu]; exact out)]
            exact handOutcome_fct_ne _ _ other
          · rw [ih _ (by rw [grant_queue]; exact out)]
            exact grant_fct_ne _ _ other
        · rfl

/-- The record of a withdrawn feeder: no outcome waits for it. -/
theorem ltuWithdraw_fct (s : State) (f : Feeder) :
    (s.ltuWithdraw f).fct[f] = { s.fct[f] with outcomeIn := [] } := by
  have left := leavePlace_fct_self s f
  unfold State.ltuWithdraw State.examineAfter
  split
  · unfold State.examineHead
    rw [examine_fct 10 (s.leavePlace f) (by rw [leavePlace_eq]; simp)]
    exact left
  · exact left

theorem withdrawPending_eq (s : State) (f : Feeder) : s.withdrawPending f =
    if s.fct[f].state = .testWait then s.ltuWithdraw f
    else if s.fct[f].state = .testing then (s.sendOrder f .testOff).ltuWithdraw f else s := by
  unfold State.withdrawPending
  cases s.fct[f].state <;> rfl

theorem withdrawPending_fct (s : State) (f : Feeder) : (s.withdrawPending f).fct[f] = s.fct[f] ∨
    (s.withdrawPending f).fct[f] = { s.fct[f] with outcomeIn := [] } := by
  unfold State.withdrawPending
  split
  · exact Or.inr (ltuWithdraw_fct s f)
  · exact Or.inr (ltuWithdraw_fct _ f)
  · exact Or.inl rfl

theorem isPending_mem (st : FeederState) :
    isPending st = true ↔ st ∈ [FeederState.testWait, .testing, .deadTime, .follow] := by
  cases st <;> decide

/-- A pending feeder withdrawn and locked out, R68, R73, R74. -/
theorem withdrawn_lockOut (s : State) (f : Feeder) (cause : Cause) : ∃ u : State,
    u = (if s.fct[f].state = .testWait then s.ltuWithdraw f
      else if s.fct[f].state = .testing then (s.sendOrder f .testOff).ltuWithdraw f else s) ∧
    Reports { u with fct := u.fct.set f (lockoutRecord s.fct[f] cause) } ((s.withdrawPending f).lockOut f cause)
      [(.lockout, .feeder f, some cause, some (s.fct[f].attempts : Int))] := by
  refine ⟨_, withdrawPending_eq s f, ?_⟩
  have locked := reports_lockOut (reports_refl (s.withdrawPending f)) f cause
  have record : lockoutRecord (s.withdrawPending f).fct[f] cause = lockoutRecord s.fct[f] cause := by
    rcases withdrawPending_fct s f with same | left
    · rw [same]
    · rw [left]; rfl
  have attempts : (s.withdrawPending f).fct[f].attempts = s.fct[f].attempts := by
    rcases withdrawPending_fct s f with same | left
    · rw [same]
    · rw [left]
  rw [attempts] at locked
  rw [← record]
  exact locked

/-! ### TT_FAIL, R68 and R115 -/

/-- Settles O30. -/
theorem ttFailByState : Obligations.TtFailByState := by
  refine ⟨?_, fun s f running => ⟨fun none => ?_, fun waits => ?_, fun flight due => ?_⟩⟩
  · rintro s f c rfl
    refine ⟨fun opening => ?_, fun stays => ?_, fun pending => ?_⟩
    · unfold State.takeTtFail
      exact if_pos opening
    · have notOpening : s.fct[f].state ≠ .opening := fun opening => absurd (opening ▸ stays) (by decide)
      have notPending : isPending s.fct[f].state ≠ true := by
        revert stays
        cases s.fct[f].state <;> decide
      unfold State.takeTtFail
      dsimp only
      rw [if_neg notOpening, if_neg notPending]
    · have notOpening : s.fct[f].state ≠ .opening := fun opening => absurd (opening ▸ pending) (by decide)
      have taken : s.takeTtFail f = (s.withdrawPending f).lockOut f .ttFail := by
        unfold State.takeTtFail
        dsimp only
        rw [if_neg notOpening, if_pos ((isPending_mem _).2 pending)]
      rw [taken]
      exact withdrawn_lockOut s f .ttFail
  · exact (due_next running).2 (by omega)
  · exact (due_next running).1 waits
  · have inFlight : s.sco.sect[f].hs.inFlight = true := by
      unfold Handshake.inFlight
      rwa [Bool.or_eq_true]
    have marked := reports_refl (s.modHs f fun h => { h with failed := true, timer := none })
    refine ⟨_, reports_postSection marked f .ttFail (some .timeout), ?_⟩
    exact (due_next running).1 (by rw [(ranOut_iff _).2 due, inFlight]; rfl)

/-! ### Switching timers, R63 and R66 -/

theorem expired_iff (c : Fct) (st : FeederState) : c.expired st = true ↔ c.state = st ∧ c.timer = some 0 := by
  simp [Fct.expired, ranOut]

theorem satInc_further (n : Nat) : satInc 255 n = min 255 (n + 1) := by
  unfold satInc
  split <;> omega

theorem noteTrip_eq (p : Fpu) (x : TripContext) : p.noteTrip x = { p with context := contextAfter p.context x } := by
  unfold Fpu.noteTrip contextAfter
  cases p.context with
  | none => rfl
  | some o => simp only [satInc_further]

theorem reports_tripNotice {u t : State} {ps : List (EventKind × Subject × Option Cause × Option Int)}
    (h : Reports u t ps) (f : Feeder) (c : Cause) (r : Option OperateReport) :
    Reports (u.modFpu f fun p => { p with context := contextAfter p.context (u.contextOf f c r) })
      (t.tripNotice f c r) ps := by
  have context : t.contextOf f c r = u.contextOf f c r := by
    unfold State.contextOf State.last
    rw [h.ms, h.sco, h.smp, h.tables]
  have noted := reports_changing (reportFree_modFpu f fun p => p.noteTrip (u.contextOf f c r)) h
  simp only [noteTrip_eq] at noted
  show Reports _ (State.noteChange (t.modFpu f fun p => p.noteTrip (t.contextOf f c r)) t.summary) ps
  rw [context]
  simp only [noteTrip_eq]
  exact noted

/-- What the withdrawal of a raised phase-back request leaves. -/
theorem dropPhaseBack_eq (s : State) (f : Feeder) : s.dropPhaseBack f =
    if s.fct[f].pbRaised = true then
      State.phaseBackWithdraw { s with fct := s.fct.set f { s.fct[f] with pbRaised := false } } f
    else s := rfl

theorem rectEnter_rest (s : State) (st : RectState) (c : Option Cause) (n : Option Nat) :
    (s.rectEnter st c n).fct = s.fct ∧ (s.rectEnter st c n).fpu = s.fpu ∧ (s.rectEnter st c n).sco = s.sco ∧
      (s.rectEnter st c n).stl = s.stl ∧ (s.rectEnter st c n).ltu = s.ltu := by
  simp [State.rectEnter]

/-- What an entry to REGULATING or PHASE_BACK leaves of the other blocks. -/
theorem toPhaseBack_rest (s : State) : s.toPhaseBack.fct = s.fct ∧ s.toPhaseBack.fpu = s.fpu ∧
    s.toPhaseBack.sco = s.sco ∧ s.toPhaseBack.stl = s.stl ∧ s.toPhaseBack.ltu = s.ltu := by
  unfold State.toPhaseBack
  split
  · exact rectEnter_rest s _ _ _
  · exact ⟨rfl, rfl, rfl, rfl, rfl⟩

/-- What the withdrawal of a phase-back request leaves as it stands. -/
theorem phaseBackWithdraw_rest (s : State) (f : Feeder) : (s.phaseBackWithdraw f).fct = s.fct ∧
    (s.phaseBackWithdraw f).fpu = s.fpu ∧ (s.phaseBackWithdraw f).sco = s.sco ∧
    (s.phaseBackWithdraw f).stl = s.stl ∧ (s.phaseBackWithdraw f).ltu = s.ltu := by
  unfold State.phaseBackWithdraw
  dsimp only
  split
  · unfold State.toRegulating
    obtain ⟨fct, fpu, sco, stl, ltu⟩ := toPhaseBack_rest (State.rectEnter { s with
      rcu := { s.rcu with pbSet := s.rcu.pbSet.set f false } } .regulating none none)
    obtain ⟨fct', fpu', sco', stl', ltu'⟩ := rectEnter_rest { s with
      rcu := { s.rcu with pbSet := s.rcu.pbSet.set f false } } .regulating none none
    exact ⟨fct.trans fct', fpu.trans fpu', sco.trans sco', stl.trans stl', ltu.trans ltu'⟩
  · exact ⟨rfl, rfl, rfl, rfl, rfl⟩

theorem dropPhaseBack_raised {s : State} {f : Feeder} (raised : s.fct[f].pbRaised = true) :
    s.dropPhaseBack f = (s.modFct f fun c => { c with pbRaised := false }).phaseBackWithdraw f := if_pos raised

theorem dropPhaseBack_lowered {s : State} {f : Feeder} (lowered : s.fct[f].pbRaised = false) :
    s.dropPhaseBack f = s := if_neg (by rw [lowered]; nofun)

theorem dropPhaseBack_rest (s : State) (f : Feeder) : (s.dropPhaseBack f).fpu = s.fpu ∧
    (s.dropPhaseBack f).sco = s.sco ∧ (s.dropPhaseBack f).stl = s.stl ∧ (s.dropPhaseBack f).ltu = s.ltu := by
  cases raised : s.fct[f].pbRaised with
  | true =>
    rw [dropPhaseBack_raised raised]
    obtain ⟨_, fpu, sco, stl, ltu⟩ := phaseBackWithdraw_rest (s.modFct f fun c => { c with pbRaised := false }) f
    exact ⟨fpu, sco, stl, ltu⟩
  | false =>
    rw [dropPhaseBack_lowered raised]
    exact ⟨rfl, rfl, rfl, rfl⟩

theorem dropPhaseBack_fct (s : State) (f : Feeder) :
    (s.dropPhaseBack f).fct[f] = { s.fct[f] with pbRaised := false } := by
  cases raised : s.fct[f].pbRaised with
  | true =>
    rw [dropPhaseBack_raised raised]
    obtain ⟨fct, _⟩ := phaseBackWithdraw_rest (s.modFct f fun c => { c with pbRaised := false }) f
    rw [fct]
    exact modFct_self s f fun c => { c with pbRaised := false }
  | false => rw [dropPhaseBack_lowered raised, ← raised]

/-- The trip notice of a breaker failure, R43. -/
theorem contextOf_breakerFail (s : State) (f : Feeder) : s.contextOf f .breakerFail none =
    { cause := .breakerFail, time := s.evr.ms, bank := s.sco.sect[f].bank, current := s.smp.points[f.val].last,
      delta := none, t := none, theta := none, secNo := none, further := 0 } := rfl

/-- Settles O31. -/
theorem switchingTimersExpire : Obligations.SwitchingTimersExpire := by
  rintro s f c r running rfl rfl
  refine ⟨fun early => ?_, fun early => ?_, fun opening due => ?_, fun closing due => ?_⟩
  · exact (due_next running).2 fun expired => early ((expired_iff _ _).1 expired)
  · exact (due_next running).2 fun expired => early ((expired_iff _ _).1 expired)
  · refine ⟨_, _, dropPhaseBack_eq s f, (due_next running).1 ((expired_iff _ _).2 ⟨opening, due⟩), ?_⟩
    obtain ⟨fpu, sco, stl, _⟩ := dropPhaseBack_rest s f
    have calm := calm_dropPhaseBack s f
    have noted := reports_tripNotice (reports_refl (s.dropPhaseBack f)) f .breakerFail none
    have posted := reports_post noted .breakerFail (.feeder f) s.fct[f].openingCause
      (some (s.tables.feeder[f].tOpen : Int))
    have locked := reports_update (reportFree_stl fun x => { x with failNotices := x.failNotices ++ [f] })
      (reports_lockOut posted f .breakerFail)
    rw [contextOf_breakerFail, calm.ms, calm.smp, sco] at locked
    have record : lockoutRecord (s.dropPhaseBack f).fct[f] .breakerFail = lockoutRecord s.fct[f] .breakerFail := by
      rw [dropPhaseBack_fct]
      rfl
    have attempts : (s.dropPhaseBack f).fct[f].attempts = s.fct[f].attempts := by rw [dropPhaseBack_fct]
    rw [← record, ← attempts, ← fpu, ← stl]
    exact locked
  · refine ⟨_, (due_next running).1 ((expired_iff _ _).2 ⟨closing, due⟩), ?_⟩
    have sent := reports_sendOrder (reports_refl s) f .opened
    exact reports_lockOut (reports_post sent .closeFail (.feeder f) none (some (s.tables.feeder[f].tClose : Int)))
      f .closeFail

/-! ### The holds and the close condition, R54, R64, R67 -/

theorem breakerReady_iff (c : Fct) : c.breakerReady = true ↔
    c.supervised = true ∧ ∃ b, c.status = some b ∧ b.ready = true ∧ b.localOp = false := by
  unfold Fct.breakerReady
  cases c.status <;> simp

theorem thermalClear_iff (s : State) (f : Feeder) : s.thermalClear f = true ↔
    (s.fct[f].openingCause = some .thermal → s.fpu[f].theta < s.tables.feeder[f].thetaAlarm) := by
  unfold State.thermalClear
  by_cases thermal : s.fct[f].openingCause = some .thermal
  · rw [thermal]; simp
  · rw [Bool.or_eq_true, bne_iff_ne]
    exact iff_of_true (Or.inl thermal) fun is => absurd is thermal

theorem closable_iff (s : State) (f : Feeder) : s.closable f = true ↔ s.fct[f].supervised = true ∧
    (∃ b, s.fct[f].status = some b ∧ b.ready = true ∧ b.localOp = false) ∧
      s.smp.points[f.val].sighted = true := by
  unfold State.closable
  rw [Bool.and_eq_true, breakerReady_iff, blind_eq, Bool.not_not, and_assoc]

theorem mayClose_iff (s : State) (f : Feeder) :
    (s.closable f = true ∧ s.thermalClear f = true) ↔ MayClose s f := by
  rw [closable_iff, thermalClear_iff]
  unfold MayClose
  rw [and_assoc, and_assoc]

theorem lineLive_iff (s : State) (f : Feeder) : s.lineLive f = true ↔ s.smp.points[f.val + 10].sighted = true ∧
    (s.tables.feeder[f].vLive : Int) ≤ s.smp.points[f.val + 10].last := by
  unfold State.lineLive State.lost
  rw [Bool.not_not, Bool.and_eq_true, decide_eq_true_iff]
  rfl

theorem farHolds_iff (s : State) (f : Feeder) :
    (s.lineLive f = true ∧ s.coupledFarClosed f = true) ↔ FarHolds s f := by
  rw [lineLive_iff, coupledFarClosed_iff, Option.any_eq_true, and_assoc]
  rfl

/-- Feeder f in TEST_WAIT at the tail of the queue, which is examined when f is its head (R58, R64, R80). -/
theorem toTestWait_joins {s t : State} (h : Reports s t []) (f : Feeder) (operator : Bool) (attempts : Nat) : ∃ u : State,
    Reports { s with
      fct := s.fct.set f (testWaitRecord s.fct[f] operator attempts)
      ltu := { s.ltu with queue := s.ltu.queue ++ [f] } } u [] ∧
    t.toTestWait f operator attempts = if (s.ltu.queue ++ [f]).head? = some f then u.examineHead else u := by
  have entered := reports_fctSet_as h f fun c => enter_testWait c operator attempts
  have joined := reports_setQueue entered (s.ltu.queue ++ [f])
  refine ⟨_, joined, ?_⟩
  have queue : (t.fctSet f fun c => { c.enter .testWait none with
      opClose := operator, attempts := attempts }).ltu.queue = s.ltu.queue := by
    rw [entered.ltu]
    rfl
  unfold State.toTestWait State.enqueue State.examineFor State.isHead
  rw [queue]
  simp only [setQueue_queue, beq_iff_eq]

theorem examinedIf_of_ite {due : Prop} [Decidable due] {u t : State} (h : t = if due then u.examineHead else u) :
    ExaminedIf due u t := by
  subst h
  exact ⟨fun is => if_pos is, fun is => if_neg is⟩

theorem awaitsHolds_iff (c : Fct) : c.awaitsHolds = true ↔ c.state = .deadTime ∧ c.timer = none := by
  simp [Fct.awaitsHolds]

theorem holdsExamined (s : State) (f : Feeder) : HoldsExamined s (s.examineHolds f) f := by
  have ready : (s.fct[f].awaitsHolds && s.closable f && s.thermalClear f) = true ↔
      s.fct[f].state = .deadTime ∧ s.fct[f].timer = none ∧ MayClose s f := by
    rw [Bool.and_eq_true, Bool.and_eq_true, and_assoc, mayClose_iff, awaitsHolds_iff, and_assoc]
  have far : (s.lineLive f && s.coupledFarClosed f) = true ↔ FarHolds s f := by
    rw [Bool.and_eq_true, farHolds_iff]
  unfold State.examineHolds
  refine ⟨fun stays => if_neg fun is => stays (ready.1 is), fun dead waits may => ?_⟩
  rw [if_pos (ready.2 ⟨dead, waits, may⟩)]
  refine ⟨fun live => ?_, fun test => ?_⟩
  · rw [if_pos (far.2 live)]
    exact reports_toClosing (reports_refl s) f may.2.2.1
  · rw [if_neg fun is => test (far.1 is)]
    obtain ⟨u, joined, examined⟩ := toTestWait_joins (reports_refl s) f false s.fct[f].attempts
    exact ⟨u, joined, examinedIf_of_ite examined⟩

theorem followExamined (s : State) (f : Feeder) : FollowExamined s (s.examineFollow f) f := by
  have ready : (s.fct[f].state == .follow && s.lineLive f && s.coupledFarClosed f && s.closable f &&
      s.thermalClear f) = true ↔ s.fct[f].state = .follow ∧ FarHolds s f ∧ MayClose s f := by
    simp only [Bool.and_eq_true, beq_iff_eq, and_assoc, ← mayClose_iff, ← farHolds_iff]
  unfold State.examineFollow
  refine ⟨fun stays => if_neg fun is => stays (ready.1 is), fun follow far may => ?_⟩
  rw [if_pos (ready.2 ⟨follow, far, may⟩)]
  exact reports_toClosing (reports_refl s) f may.2.2.1

/-- Settles O32. -/
theorem reclosingTimersExpire : Obligations.ReclosingTimersExpire := by
  rintro s f c r holds live running rfl rfl due hold far
  refine ⟨fun service => ?_, fun follow => ?_, fun dead => ?_⟩
  · exact (due_next running).1 ((expired_iff _ _).2 ⟨service, due⟩)
  · exact ⟨_, (due_next running).1 ((expired_iff _ _).2 ⟨follow, due⟩), reports_lockOut (reports_refl s) f _⟩
  · have runs : exec (.deadTimeExpiry f) s = .next ((s.modFct f fun c => { c with timer := none }).examineHolds f) :=
      (due_next running).1 ((expired_iff _ _).2 ⟨dead, due⟩)
    have record := modFct_self s f fun c => { c with timer := none }
    have may : MayClose (s.modFct f fun c => { c with timer := none }) f ↔ ¬ holds := by
      rw [hold, not_not]
      unfold MayClose
      rw [record]
      rfl
    have farHolds : FarHolds (s.modFct f fun c => { c with timer := none }) f ↔ live := far.symm
    obtain ⟨stays, examined⟩ := holdsExamined (s.modFct f fun c => { c with timer := none }) f
    rw [record, may, farHolds] at examined
    rw [runs]
    refine ⟨fun held => ?_, fun free at' => ⟨_, rfl, ?_⟩, fun free test => ?_⟩
    · rw [stays fun is => (may.1 is.2.2) held]
      rfl
    · have closed := (examined dead rfl free).1 at'
      unfold ClosingBegun at closed
      rw [record, modFct_fct_set] at closed
      exact closed
    · obtain ⟨u, joined, examined⟩ := (examined dead rfl free).2 test
      refine ⟨u, ?_, ?_⟩
      · rw [modFct_fct_set] at joined
        exact joined
      · split
        · rw [examined.1 (by assumption)]
        · rw [examined.2 (by assumption)]

end Sys2Proof.Machine
end

-- ==== Feeder commands, slot timers and the head of the test queue ====
section
/-!
The feeder commands but FEEDER_OPEN, the timers of the test slots and the examination of the head: O36, O37 and O38.
-/

namespace Sys2Proof.Machine
open Sys2Proof

/-! ### Commands, R45, R70 and R72 -/

theorem onFeeder_of {s : State} {r : Request} {f : Feeder} (index : r.index = f.val) (act : Feeder → Service) :
    s.onFeeder r act = act f := by
  unfold State.onFeeder feederAt
  rw [index, dif_pos f.isLt]

theorem feederCloseRefusal_eq (s : State) (f : Feeder) : s.feederCloseRefusal f =
    if s.tables.feeder[f].inUse = true ∧ s.stl.lockout = false ∧ s.mga.unconfigured = false ∧ s.fct[f].state = .out then
      if s.smp.points[f.val].sighted = true then if s.fct[f].breakerReady = true then none else some .state
      else some .blind
    else some .state := by
  unfold State.feederCloseRefusal
  rw [blind_eq]
  simp only [firstFailing]
  cases s.tables.feeder[f].inUse <;> cases s.stl.lockout <;> cases s.mga.unconfigured <;>
    cases s.smp.points[f.val].sighted <;> cases s.fct[f].state <;> simp

theorem positionIs_iff (c : Fct) (p : Position) : c.positionIs p = true ↔ lastPosition c = some p := by
  unfold Fct.positionIs lastPosition
  cases c.status <;> simp

theorem feederResetRefusal_eq (s : State) (f : Feeder) : s.feederResetRefusal f =
    if s.tables.feeder[f].inUse = true ∧ s.fct[f].state = .lockout ∧ s.stl.lockout = false ∧
      lastPosition s.fct[f] = some .opened then none else some .state := by
  unfold State.feederResetRefusal
  simp only [firstFailing, ← positionIs_iff]
  cases s.tables.feeder[f].inUse <;> cases s.stl.lockout <;> cases s.fct[f].state <;>
    simp

/-- Settles O36. -/
theorem feederCommandsServed : Obligations.FeederCommandsServed := by
  rintro s r f c index rfl
  dsimp only
  rw [← breakerReady_iff]
  have close : State.serveFeederClose (popped s) r =
      .checked (popped s) ((popped s).feederCloseRefusal f) ((popped s).toTestWait f true 0) := onFeeder_of index _
  have reset : State.serveFeederReset (popped s) r =
      .checked (popped s) ((popped s).feederResetRefusal f) ((popped s).fctOut f) := onFeeder_of index _
  have clear : State.serveClearContext (popped s) r = .done ((popped s).emptyContext f) := onFeeder_of index _
  refine ⟨fun granted => ⟨fun refused => ?_, fun inUse lockout configured out => ⟨fun blind => ?_, fun sighted unready => ?_,
      fun sighted ready => ?_⟩⟩, fun granted => ⟨fun refused => ?_, fun inUse locked lockout opened => ?_⟩,
    fun granted => ?_⟩
  · refine serve_checked_refused granted (by decide) close ?_
    rw [feederCloseRefusal_eq, if_neg]
    rintro ⟨inUse, lockout, configured, out⟩
    rcases refused with h | h | h | h
    · exact absurd (inUse.symm.trans h) (by decide)
    · exact absurd (lockout.symm.trans h) (by decide)
    · exact absurd (configured.symm.trans h) (by decide)
    · exact h out
  · refine serve_checked_refused granted (by decide) close ?_
    rw [feederCloseRefusal_eq, if_pos ⟨inUse, lockout, configured, out⟩]
    exact if_neg fun sighted => absurd (sighted.symm.trans blind) (by decide)
  · refine serve_checked_refused granted (by decide) close ?_
    rw [feederCloseRefusal_eq, if_pos ⟨inUse, lockout, configured, out⟩, if_pos (by exact sighted)]
    exact if_neg unready
  · obtain ⟨u, joined, examined⟩ := toTestWait_joins (reports_refl (popped s)) f true 0
    refine ⟨u, joined, ?_⟩
    have passes : (popped s).feederCloseRefusal f = none := by
      rw [feederCloseRefusal_eq, if_pos ⟨inUse, lockout, configured, out⟩, if_pos (by exact sighted)]
      exact if_pos ready
    have served := serve_checked_accepted (objs := [33]) granted (by decide) close passes
    rw [examined] at served
    exact served
  · refine serve_checked_refused granted (by decide) reset ?_
    rw [feederResetRefusal_eq, if_neg]
    rintro ⟨inUse, locked, lockout, opened⟩
    rcases refused with h | h | h | h
    · exact absurd (inUse.symm.trans h) (by decide)
    · exact h locked
    · exact absurd (lockout.symm.trans h) (by decide)
    · exact h opened
  · refine ⟨_, serve_checked_accepted granted (by decide) reset ?_, reports_fctOut (reports_refl (popped s)) f⟩
    rw [feederResetRefusal_eq]
    exact if_pos ⟨inUse, locked, lockout, opened⟩
  · exact ⟨_, serve_done granted (by decide) clear,
      reports_changing (reportFree_modFpu f fun p => { p with context := none }) (reports_refl (popped s))⟩

/-! ### The timers of a slot, R84, R85 and R88 -/

/-- LINE_TEST_RESULT through reports already made, R94. -/
theorem reports_postOutcome {u t : State} {ps : List (EventKind × Subject × Option Cause × Option Int)}
    (h : Reports u t ps) (f : Feeder) (o : TestOutcome) : Reports u (t.postOutcome f o)
      (ps ++ [(.lineTestResult, .feeder f, some o.kind.cause, o.rLine.map Int.ofNat)]) := reports_post h _ _ _ _

/-- What a slot's release hands when it ends, before the head is examined. -/
def State.slotFreed (s : State) (k : TestSlot) (f : Feeder) (pending : Option TestOutcome) : State :=
  match pending with
  | some o => ((s.setTestSlot k .free).postOutcome f o).outcomeTaken f o
  | none => s.setTestSlot k .free

theorem releaseEnds_eq (s : State) (k : TestSlot) (f : Feeder) (pending : Option TestOutcome) :
    s.releaseEnds k f pending = (s.slotFreed k f pending).examineHead := by
  cases pending <;> rfl

theorem slotFreed_frees (s : State) (k : TestSlot) (f : Feeder) (pending : Option TestOutcome) :
    SlotFreed s (s.slotFreed k f pending) k f pending := by
  refine ⟨?_, ?_⟩
  · rintro rfl
    rfl
  · rintro o rfl
    have posted := reports_postOutcome (reports_refl (s.setTestSlot k .free)) f o
    have taken := outcomeTaken_taken posted f o
    obtain ⟨kind, line⟩ := o
    cases kind <;> cases line <;> exact taken

/-- Settles O38. -/
theorem slotTimersExpire : Obligations.SlotTimersExpire := by
  intro s k running
  have contactor : exec (.contactorTimerExpiry k) s = execContactorTimerExpiry k s := rfl
  have settle : exec (.settleTimerExpiry k) s = execSettleTimerExpiry k s := rfl
  have release : exec (.releaseTimerExpiry k) s = execReleaseTimerExpiry k s := rfl
  rw [contactor, settle, release]
  unfold execContactorTimerExpiry execSettleTimerExpiry execReleaseTimerExpiry
  rw [whenRunning_on running, whenRunning_on running, whenRunning_on running]
  refine ⟨fun f slot => by rw [slot]; rfl, fun f slot => by rw [slot]; rfl,
    fun f slot => by rw [slot]; rfl, fun f o slot => ?_, fun other => ?_, fun other => ?_, fun other => ?_⟩
  · refine ⟨_, slotFreed_frees s k f _, ?_⟩
    rw [slot, ← releaseEnds_eq]
    rfl
  · split
    · exact absurd (by assumption) (other _)
    · rfl
  · split
    · exact absurd (by assumption) (other _)
    · rfl
  · split
    · exact absurd (by assumption) (other _ _)
    · rfl

/-! ### The head of the queue, R81 to R83 -/

/-- More examinations than feeders wait bring nothing new. -/
theorem examine_enough (m n : Nat) (s : State) (enough : s.ltu.queue.length ≤ n) : s.examine (n + m) = s.examine n := by
  induction n generalizing s with
  | zero =>
    have empty : s.ltu.queue = [] := List.length_eq_zero_iff.1 (by omega)
    rw [examine_idle _ (Or.inl empty), examine_idle _ (Or.inl empty)]
  | succ n ih =>
    cases queue : s.ltu.queue with
    | nil => rw [examine_idle _ (Or.inl queue), examine_idle _ (Or.inl queue)]
    | cons f rest =>
      cases free : s.freeSlot with
      | none => rw [examine_idle _ (Or.inr free), examine_idle _ (Or.inr free)]
      | some k =>
        rw [queue, List.length_cons] at enough
        rw [show n + 1 + m = n + m + 1 by omega, examine_head _ queue free, examine_head _ queue free]
        split
        · split
          · exact ih _ (by rw [handOutcome_ltu]; exact Nat.le_of_succ_le_succ enough)
          · exact ih _ (by rw [grant_queue]; exact Nat.le_of_succ_le_succ enough)
        · rfl

theorem ownRelease_iff (s : State) (f : Feeder) : s.ownRelease f = true ↔
    ∃ (k : TestSlot) (n : Nat) (o : Option TestOutcome), s.ltu.slot[k] = .release f n o := by
  have releasing (ph : TestPhase) : (ph.releasing == some f) = true ↔ ∃ n o, ph = .release f n o := by
    cases ph <;> simp [TestPhase.releasing]
  unfold State.ownRelease
  rw [Bool.or_eq_true, releasing, releasing]
  constructor
  · rintro (⟨n, o, is⟩ | ⟨n, o, is⟩)
    · exact ⟨0, n, o, is⟩
    · exact ⟨1, n, o, is⟩
  · rintro ⟨k, n, o, is⟩
    match k with
    | 0 => exact Or.inl ⟨n, o, is⟩
    | 1 => exact Or.inr ⟨n, o, is⟩

theorem farTesting_eq_any (x : Section) : x.farTesting = x.far.any SectionEntry.testActive := by
  unfold Section.farTesting Section.farValue
  cases x.far <;> rfl

theorem headClear_iff (s : State) (f : Feeder) : s.headClear f = true ↔ s.smp.points[20].sighted = true ∧
    s.sco.sect[f].far.any SectionEntry.testActive = false ∧
    ¬ ∃ (k : TestSlot) (n : Nat) (o : Option TestOutcome), s.ltu.slot[k] = .release f n o := by
  unfold State.headClear State.lost
  rw [← ownRelease_iff, farTesting_eq_any, Bool.not_not]
  rw [Bool.and_eq_true, Bool.and_eq_true, and_assoc, Bool.not_eq_true', Bool.not_eq_true', Bool.not_eq_true]
  exact Iff.rfl

theorem reports_handOutcome {u t : State} {ps : List (EventKind × Subject × Option Cause × Option Int)}
    (h : Reports u t ps) (f : Feeder) (o : TestOutcome) :
    Reports (u.modFct f fun c => { c with outcomeIn := c.outcomeIn ++ [o] }) (t.handOutcome f o)
      (ps ++ [(.lineTestResult, .feeder f, some o.kind.cause, o.rLine.map Int.ofNat)]) :=
  reports_postOutcome (reports_modFct h f _) f o

theorem reports_grant {u t : State} {ps : List (EventKind × Subject × Option Cause × Option Int)}
    (h : Reports u t ps) (k : TestSlot) (f : Feeder) :
    Reports (((u.setTestSlot k (.contact f contactorTicks)).modFct f fun c =>
        { testWaitRecord c c.opClose c.attempts with state := .testing }).sendOrder f .testOn)
      (t.grant k f) ps := by
  have placed := reports_update (reportFree_setTestSlot k (.contact f contactorTicks)) h
  exact reports_sendOrder (reports_fctSet_as placed f fun c => enter_testing c) f .testOn

/-- Settles O37. -/
theorem headExamined : Obligations.HeadExamined := by
  refine fun s => ⟨fun empty => examine_idle 10 (Or.inl empty), ?_⟩
  rintro f rest c queue short rfl
  refine ⟨fun waits => ?_, fun k place sighted quiet released => ?_⟩
  · cases free : s.freeSlot with
    | none => exact examine_idle 10 (Or.inr free)
    | some k =>
      show s.examine (9 + 1) = s
      rw [examine_head 9 queue free, if_neg]
      intro clear
      obtain ⟨sighted, quiet, released⟩ := (headClear_iff s f).1 clear
      rcases waits with ⟨full, full'⟩ | lost | far | own
      · unfold State.freeSlot at free
        rw [if_neg full, if_neg full'] at free
        cases free
      · exact absurd (sighted.symm.trans lost) (by decide)
      · exact absurd (far.symm.trans quiet) (by decide)
      · exact released own
  · have free : s.freeSlot = some k := by
      unfold State.freeSlot
      rcases place with ⟨rfl, first⟩ | ⟨rfl, first, second⟩
      · rw [if_pos first]
      · rw [if_neg first, if_pos second]
    have clear := (headClear_iff s f).2 ⟨sighted, quiet, fun ⟨j, n, o, own⟩ => released j n o own⟩
    have dead : s.busDead = true ↔ s.smp.points[20].last < s.tables.station.vBusMin := decide_eq_true_iff
    have examined : s.examineHead = s.examine (9 + 1) := rfl
    rw [examine_head 9 queue free, if_pos clear] at examined
    refine ⟨fun low => ?_, fun live => ?_⟩
    · rw [if_pos (dead.2 low), ← examine_enough 1 9] at examined
      · exact ⟨_, reports_handOutcome (reports_setQueue (reports_refl s) rest) f inconclusive, examined⟩
      · rw [handOutcome_ltu]
        exact short
    · rw [if_neg fun is => absurd (dead.1 is) (by omega), ← examine_enough 1 9] at examined
      · exact ⟨_, reports_grant (reports_setQueue (reports_refl s) rest) k f, examined⟩
      · rw [grant_queue]
        exact short

end Sys2Proof.Machine
end

-- ==== Trips, the reclose decision and the withdrawals ====
section
/-!
A taken trip by its hands, the opening that completes with the decision it takes, FEEDER_OPEN, and the end of a
breaker's supervision: O26, O27, O28, O33 and O35.
-/

namespace Sys2Proof.Machine
open Sys2Proof

/-! ### The decision, R62 -/

/-- The controller's record after a decision. -/
def Decision.record (d : Decision) (c : Fct) (r : FeederRec) : Fct :=
  match d with
  | .lockout why => lockoutRecord c why
  | .out => outRecord c
  | .follow => followRecord c r
  | .deadTime n => deadTimeRecord c r n

/-- The events a decision posts after FEEDER_OPENED, for the cause of the opening. -/
def Decision.posts (d : Decision) (f : Feeder) (attempts : Nat) (cause : Option Cause) :
    List (EventKind × Subject × Option Cause × Option Int) :=
  match d with
  | .lockout why => [(.lockout, .feeder f, some why, some (attempts : Int))]
  | .out => []
  | .follow => []
  | .deadTime n => [(.recloseStart, .feeder f, cause, some (n : Int))]

theorem reports_takeDecision {u t : State} {ps : List (EventKind × Subject × Option Cause × Option Int)}
    (h : Reports u t ps) (f : Feeder) (cause : Option Cause) (d : Decision) :
    Reports (u.modFct f fun c => d.record c u.tables.feeder[f]) (t.takeDecision f cause d)
      (ps ++ d.posts f u.fct[f].attempts cause) := by
  cases d with
  | lockout why => exact reports_lockOut h f why
  | out =>
    show Reports _ _ (ps ++ [])
    rw [List.append_nil]
    exact reports_fctOut h f
  | follow =>
    show Reports _ _ (ps ++ [])
    rw [List.append_nil]
    exact reports_toFollow h f
  | deadTime n => exact reports_toDeadTime h f n cause

/-- The opening without its timer and its phase-back request. -/
theorem timerless_dropPhaseBack (s : State) (f : Feeder) :
    (s.modFct f fun c => { c with timer := none }).dropPhaseBack f =
      if s.fct[f].pbRaised = true then
        State.phaseBackWithdraw { s with fct := s.fct.set f { s.fct[f] with timer := none, pbRaised := false } } f
      else { s with fct := s.fct.set f { s.fct[f] with timer := none, pbRaised := false } } := by
  have record := modFct_self s f fun c => { c with timer := none }
  cases raised : s.fct[f].pbRaised with
  | true =>
    rw [dropPhaseBack_raised (by rw [record]; exact raised), modFct_modFct]
    rfl
  | false =>
    rw [dropPhaseBack_lowered (by rw [record]; exact raised)]
    have lowered : { s.fct[f] with timer := none } = { s.fct[f] with timer := none, pbRaised := false } := by
      rw [← raised]
    show { s with fct := s.fct.set f { s.fct[f] with timer := none } } = _
    rw [lowered]
    rfl

theorem timerless_dropPhaseBack_fct (s : State) (f : Feeder) :
    ((s.modFct f fun c => { c with timer := none }).dropPhaseBack f).fct[f] =
      { s.fct[f] with timer := none, pbRaised := false } := by
  rw [dropPhaseBack_fct, modFct_self s f fun c => { c with timer := none }]

/-- A record of a state that follows an opening does not depend on its timer and its phase-back mark. -/
theorem Decision.record_timerless (d : Decision) (c : Fct) (r : FeederRec) :
    d.record { c with timer := none, pbRaised := false } r = d.record c r := by
  cases d <;> rfl

/-- The opening that completes, with the decision it takes. -/
theorem reports_openingCompletes (s : State) (f : Feeder) :
    let u : State := (s.modFct f fun c => { c with timer := none }).dropPhaseBack f
    let d : Decision := decideReclose s.fct[f] s.tables.feeder[f] s.sco.sect[f].coupled
    Reports { u with fct := u.fct.set f (d.record s.fct[f] s.tables.feeder[f]) } (s.openingCompletes f)
      ((.feederOpened, .feeder f, s.fct[f].openingCause, some (s.fct[f].attempts : Int)) ::
        d.posts f s.fct[f].attempts s.fct[f].openingCause) := by
  intro u d
  have record : u.fct[f] = { s.fct[f] with timer := none, pbRaised := false } := timerless_dropPhaseBack_fct s f
  have tables : u.tables = s.tables := (calm_dropPhaseBack _ f).tables
  have posted := reports_post (reports_refl u) .feederOpened (.feeder f) s.fct[f].openingCause
    (some (s.fct[f].attempts : Int))
  have decided := reports_takeDecision posted f s.fct[f].openingCause d
  have attempts : u.fct[f].attempts = s.fct[f].attempts := by rw [record]
  rw [attempts, tables] at decided
  rw [← d.record_timerless, ← record]
  exact decided

/-- Settles O28. -/
theorem recloseDecision : Obligations.RecloseDecision := by
  rintro s f c r cause rfl rfl opened -
  have completes := reports_openingCompletes s f
  dsimp only at completes
  rw [opened] at completes
  refine ⟨_, _, _, timerless_dropPhaseBack s f, completes, ?_⟩
  have sections : (s.sco.sect[f].coupled && !s.tables.feeder[f].testEnd) = true ↔
      s.sco.sect[f].coupled = true ∧ s.tables.feeder[f].testEnd = false := by simp
  unfold decideReclose
  simp only [opened, Option.some.injEq, sections]
  split_ifs <;> exact ⟨rfl, rfl⟩

/-! ### Trips, R59 and R60 -/

theorem notOpen_iff (c : Fct) : c.notOpen = true ↔
    lastPosition c = some .closed ∨ lastPosition c = some .travel := by
  unfold Fct.notOpen
  rw [Bool.or_eq_true, positionIs_iff, positionIs_iff]

theorem tripsFreely_mem (st : FeederState) :
    tripsFreely st = true ↔ st ∈ [FeederState.unknown, .service, .closing] := by
  cases st <;> decide

/-- The hands of a trip without a report, R59 steps 1 to 3. -/
theorem reports_tripHands_none (s : State) (f : Feeder) (c : Cause) :
    Reports (((s.sendOrder f (if s.fct[f].state = .testing then .testOff else .opened)).modFpu f fun p =>
      { p with context := contextAfter p.context (s.contextOf f c none) })) (s.tripHands f c none)
      [(.feederTrip, .feeder f, some c, some s.smp.points[f.val].last)] :=
  reports_post (reports_tripNotice (reports_sendOrder (reports_refl s) f _) f c none) .feederTrip (.feeder f) (some c)
    (some s.smp.points[f.val].last)

/-- The hands of a trip with a report outside a test, R59 steps 1 to 4. -/
theorem reports_tripHands_some (s : State) (f : Feeder) (c : Cause) (r : OperateReport)
    (untested : s.fct[f].state ≠ .testing) :
    Reports { (s.sendOrder f .opened).modFpu f fun p =>
        { p with context := contextAfter p.context (s.contextOf f c (some r)) } with
      drc := s.drc.trigger s.tables s.evr.ms c (.feeder f) } (s.tripHands f c (some r))
      [(.feederTrip, .feeder f, some c, some r.current)] := by
  have order : (if s.fct[f].state = .testing then BreakerOrder.testOff else .opened) = .opened := if_neg untested
  unfold State.tripHands
  rw [order]
  exact reports_trigger (reports_post (reports_tripNotice (reports_sendOrder (reports_refl s) f .opened) f c (some r))
    .feederTrip (.feeder f) (some c) (some r.current)) c (.feeder f)

theorem trip_lockout {s : State} {f : Feeder} (locked : s.fct[f].state = .lockout) (c : Cause)
    (r : Option OperateReport) : s.trip f c r = s.tripHands f c r := by
  unfold State.trip
  exact if_pos locked

/-- A trip of a feeder that is neither locked out nor tested, after its hands: the requests, OPENING, and the
opening that completes at once when the last position is OPEN. -/
theorem trip_opens {s : State} {f : Feeder} (untested : s.fct[f].state ≠ .testing)
    (unlocked : s.fct[f].state ≠ .lockout) (c : Cause) (r : Option OperateReport) : s.trip f c r =
      if lastPosition s.fct[f] = some .opened then
        (((s.tripHands f c r).tripRequests f r).toOpening f c false).openingCompletes f
      else ((s.tripHands f c r).tripRequests f r).toOpening f c true := by
  unfold State.trip
  dsimp only
  rw [if_neg unlocked, if_neg untested]
  have tested : (s.fct[f].state == .testing) = false := by simpa using untested
  rw [tested, Bool.false_or]
  by_cases opened : lastPosition s.fct[f] = some .opened
  · rw [if_pos opened, (positionIs_iff _ _).2 opened]
    rfl
  · rw [if_neg opened, Bool.eq_false_iff.2 fun is => opened ((positionIs_iff _ _).1 is)]
    rfl

/-- Entry to OPENING at a trip, timed unless the opening completes at once. -/
theorem reports_tripOpening (v : State) (f : Feeder) (c : Cause) {r : FeederRec} (is : v.tables.feeder[f] = r)
    (timed : Bool) : Reports { v with fct := v.fct.set f { openingRecord v.fct[f] r c with
      timer := if timed then some (4 * r.tOpen) else none } } (v.toOpening f c timed) [] := by
  have entered := reports_toOpening (reports_refl v) f c timed
  rw [is] at entered
  exact entered

/-- Settles O26. -/
theorem operateReportByState : Obligations.OperateReportByState := by
  rintro s f source r c running rfl waits
  intro s1 tripped
  have record : s1.fct[f] = { s.fct[f] with operateIn := s.fct[f].operateIn.erase r } :=
    modFct_self s f fun c => { c with operateIn := c.operateIn.erase r }
  have state : s1.fct[f].state = s.fct[f].state := by rw [record]
  have position : lastPosition s1.fct[f] = lastPosition s.fct[f] := by rw [record]; rfl
  have runs : exec (.operateReport f source) s = .next (s1.takeOperate f r) := by
    show execOperateReport f source s = _
    unfold execOperateReport
    rw [whenRunning_on running, waits]
    rfl
  have notOpen : s1.fct[f].notOpen = true ↔
      lastPosition s.fct[f] = some .closed ∨ lastPosition s.fct[f] = some .travel := by rw [notOpen_iff, position]
  rw [runs]
  refine ⟨fun stays => ?_, fun locked held => ?_, fun free => ?_⟩
  · unfold State.takeOperate
    dsimp only
    rw [state, if_neg]
    rw [Bool.or_eq_true, Bool.and_eq_true, tripsFreely_mem, notOpen, beq_iff_eq]
    rintro (taken | ⟨locked, held⟩)
    · rcases stays with stays | ⟨locked, _⟩
      · revert taken stays
        cases s.fct[f].state <;> decide
      · exact absurd (locked ▸ taken) (by decide)
    · rcases stays with stays | ⟨_, closed, travel⟩
      · exact absurd (locked ▸ stays) (by decide)
      · exact held.elim closed travel
  · refine ⟨_, reports_tripHands_some s1 f r.cause r (by rw [state, locked]; decide), ?_⟩
    unfold State.takeOperate
    dsimp only
    rw [if_pos, trip_lockout (state.trans locked)]
    rw [state, locked, notOpen.2 held]
    rfl
  · have untested : s1.fct[f].state ≠ .testing := fun is => absurd ((state.symm.trans is) ▸ free) (by decide)
    have unlocked : s1.fct[f].state ≠ .lockout := fun is => absurd ((state.symm.trans is) ▸ free) (by decide)
    have taken : s1.takeOperate f r = s1.trip f r.cause (some r) := by
      unfold State.takeOperate
      dsimp only
      rw [if_pos]
      rw [state, (tripsFreely_mem _).2 free]
      rfl
    obtain ⟨v, requests⟩ : ∃ v, v = (s1.tripHands f r.cause (some r)).tripRequests f (some r) := ⟨_, rfl⟩
    have tables : v.tables = s.tables := by
      rw [requests]
      exact (calm_tripRequests _ f (some r)).tables.trans (calm_tripHands s1 f r.cause (some r)).tables
    have opening := fun timed => reports_tripOpening v f r.cause (r := s.tables.feeder[f]) (by rw [tables]) timed
    rw [taken, trip_opens untested unlocked, position, ← requests]
    by_cases opened : lastPosition s.fct[f] = some .opened
    · refine ⟨_, _, v, v.toOpening f r.cause false, reports_tripHands_some s1 f r.cause r untested, rfl, requests,
        ?_, ?_⟩
      · rw [if_pos opened]
        exact opening false
      · rw [if_pos opened, if_pos opened]
    · refine ⟨_, _, v, v.toOpening f r.cause true, reports_tripHands_some s1 f r.cause r untested, rfl, requests,
        ?_, ?_⟩
      · rw [if_neg opened]
        exact opening true
      · rw [if_neg opened, if_neg opened]

/-- A trip without a report of a tested feeder, after its hands: the withdrawal, OPENING, and the opening that
completes at once. -/
theorem trip_tested {s : State} {f : Feeder} (tested : s.fct[f].state = .testing) (c : Cause) : s.trip f c none =
    (((s.tripHands f c none).ltuWithdraw f).toOpening f c false).openingCompletes f := by
  unfold State.trip
  dsimp only
  rw [tested]
  rfl

/-- Settles O27. -/
theorem transferTripByState : Obligations.TransferTripByState := by
  rintro s f c open' rfl opens
  have taken : (tripsFreely s.fct[f].state || s.fct[f].state == .testing) = true ↔
      s.fct[f].state ∈ [FeederState.unknown, .service, .closing, .testing] := by
    cases s.fct[f].state <;> decide
  have hands := reports_tripHands_none s f .transfer
  have tables : (s.tripHands f .transfer none).tables = s.tables := (calm_tripHands s f .transfer none).tables
  refine ⟨fun stays => ?_, fun trips => ?_⟩
  · unfold State.takeTransfer
    rw [if_neg]
    rw [taken]
    revert stays
    cases s.fct[f].state <;> decide
  have trip : s.takeTransfer f = s.trip f .transfer none := if_pos (taken.2 trips)
  rw [trip]
  by_cases tested : s.fct[f].state = .testing
  · have withdrawn := (calm_ltuWithdraw (s.tripHands f .transfer none) f).tables.trans tables
    refine ⟨_, _, ((s.tripHands f .transfer none).ltuWithdraw f).toOpening f .transfer false, hands, rfl,
      fun _ => ⟨?_, ?_⟩, fun closed => absurd (opens.2 (Or.inl tested)) closed⟩
    · rw [if_pos tested]
      exact reports_tripOpening _ f .transfer (by rw [withdrawn]) false
    · exact trip_tested tested .transfer
  · have unlocked : s.fct[f].state ≠ .lockout := fun is => absurd (is ▸ trips) (by decide)
    rw [trip_opens tested unlocked]
    by_cases opened : lastPosition s.fct[f] = some .opened
    · refine ⟨_, _, (s.tripHands f .transfer none).toOpening f .transfer false, hands, rfl, fun _ => ⟨?_, ?_⟩,
        fun closed => absurd (opens.2 (Or.inr opened)) closed⟩
      · rw [if_neg tested]
        exact reports_tripOpening _ f .transfer (by rw [tables]) false
      · rw [if_pos opened]
        rfl
    · refine ⟨_, _, s, hands, rfl, fun closed => absurd (opens.1 closed) (not_or.2 ⟨tested, opened⟩), fun _ => ?_⟩
      rw [if_neg tested, if_neg opened]
      exact reports_tripOpening _ f .transfer (by rw [tables]) true

/-! ### Withdrawals, R71, R92, R93 -/

theorem leftPlace (s : State) (f : Feeder) : LeftPlace s (s.leavePlace f) f := by
  refine ⟨?_, fun k => ?_⟩
  · rw [leavePlace_eq]
    congr 3
    funext g
    exact Bool.eq_iff_iff.2 (by simp)
  · refine (leavePlace_slot s f k).trans ((withdrawn_eq _ f).trans ?_)
    cases s.ltu.slot[k] <;> rfl

theorem examinedIf_head {p : Bool} {due : Prop} (is : p = true ↔ due) (u : State) :
    ExaminedIf due u (if p then u.examineHead else u) :=
  ⟨fun holds => if_pos (is.2 holds), fun not => if_neg fun holds => not (is.1 holds)⟩

theorem isHead_iff (s : State) (f : Feeder) : s.isHead f = true ↔ s.ltu.queue.head? = some f := beq_iff_eq

theorem inSlotTest_iff (s : State) (f : Feeder) :
    s.inSlotTest f = true ↔ s.ltu.slot[0].testing = some f ∨ s.ltu.slot[1].testing = some f := by
  simp [State.inSlotTest]

/-- The outcome of a withdrawal at a supervision expiry, taken at once (R93, log entry 26). -/
theorem unsupervised_taken (s : State) (f : Feeder) (tests : inTest s.fct[f].state = true) : ∃ v : State,
    v = (if s.ltu.slot[0].testing = some f ∨ s.ltu.slot[1].testing = some f then (s.leavePlace f).sendOrder f .testOff
      else s.leavePlace f) ∧
    OutcomeTaken v ((s.ltuUnsupervised f).takeOutcome f inconclusive) f inconclusive
      [(.lineTestResult, .feeder f, some .inconclusive, none)] := by
  refine ⟨_, rfl, ?_⟩
  obtain ⟨v, is⟩ : ∃ v, v = (if s.ltu.slot[0].testing = some f ∨ s.ltu.slot[1].testing = some f then
    (s.leavePlace f).sendOrder f .testOff else s.leavePlace f) := ⟨_, rfl⟩
  have withdrawn : s.ltuUnsupervised f = v.post .lineTestResult (.feeder f) (some .inconclusive) none := by
    unfold State.ltuUnsupervised
    simp only [inSlotTest_iff]
    rw [is]
  have fct : v.fct = (s.leavePlace f).fct := by
    rw [is]
    split <;> rfl
  have taken := outcomeTaken_taken (reports_post (reports_refl v) .lineTestResult (.feeder f) (some .inconclusive) none)
    f inconclusive
  unfold State.outcomeTaken at taken
  rw [post_fct, fct, leavePlace_fct_self, if_pos (by exact tests)] at taken
  rw [withdrawn, ← is]
  exact taken

/-- Settles O33. -/
theorem supervisionExpires : Obligations.SupervisionExpires := by
  rintro s s1 f c running rfl is
  refine ⟨fun early => ?_, fun due => ⟨fun out => ?_, fun tested => ?_⟩⟩
  · exact (due_next running).2 fun expired => early ((ranOut_iff _).1 expired)
  · have untested : ¬ inTest s.fct[f].state = true := fun tests => out ((inTest_mem _).1 tests)
    refine ((due_next running).1 ((ranOut_iff _).2 due)).trans ?_
    rw [if_neg untested, is]
    rfl
  · have tests := (inTest_mem _).2 tested
    have runs : exec (.breakerSupervisionExpiry f) s =
        .next (((s1.ltuUnsupervised f).takeOutcome f inconclusive).examineAfter s f) := by
      refine ((due_next running).1 ((ranOut_iff _).2 due)).trans ?_
      rw [if_pos tests, is]
      rfl
    have record : s1.fct[f] = { s.fct[f] with status := none, supervised := false, supTimer := none } := by
      rw [is]
      exact modFct_self s f fun c => { c with status := none, supervised := false, supTimer := none }
    have slots : s1.ltu = s.ltu := by rw [is]
    obtain ⟨v, v_is, taken⟩ := unsupervised_taken s1 f (by rw [record]; exact tests)
    rw [slots] at v_is
    exact ⟨_, v, _, _, runs, leftPlace s1 f, v_is, taken, examinedIf_head (isHead_iff s f) _⟩

/-! ### FEEDER_OPEN, R71 -/

theorem feederOpens_moves {s : State} {f : Feeder} (moves : s.fct[f].state ∈ [FeederState.unknown, .service, .closing]) :
    s.feederOpens f = s.openWithoutTrip f .command := by
  simp only [List.mem_cons, List.not_mem_nil, or_false] at moves
  unfold State.feederOpens
  dsimp only
  rcases moves with is | is | is <;> rw [is]

theorem feederOpens_pending {s : State} {f : Feeder}
    (pending : s.fct[f].state ∈ [FeederState.testWait, .testing, .deadTime, .follow]) :
    s.feederOpens f = (s.withdrawPending f).fctOut f := by
  simp only [List.mem_cons, List.not_mem_nil, or_false] at pending
  unfold State.feederOpens
  dsimp only
  rcases pending with is | is | is | is <;> rw [is]

theorem feederOpens_lockout {s : State} {f : Feeder} (locked : s.fct[f].state = .lockout) : s.feederOpens f =
    if lastPosition s.fct[f] = some .closed ∨ lastPosition s.fct[f] = some .travel then s.sendOrder f .opened
    else s := by
  unfold State.feederOpens
  dsimp only
  rw [locked]
  simp only [notOpen_iff]

/-- A pending feeder withdrawn and taken OUT, R71. -/
theorem withdrawn_fctOut (s : State) (f : Feeder) : ∃ w : State,
    w = (if s.fct[f].state = .testWait then s.ltuWithdraw f
      else if s.fct[f].state = .testing then (s.sendOrder f .testOff).ltuWithdraw f else s) ∧
    Reports { w with fct := w.fct.set f (outRecord s.fct[f]) } ((s.withdrawPending f).fctOut f) [] := by
  refine ⟨_, withdrawPending_eq s f, ?_⟩
  have left := reports_fctOut (reports_refl (s.withdrawPending f)) f
  have record : outRecord (s.withdrawPending f).fct[f] = outRecord s.fct[f] := by
    rcases withdrawPending_fct s f with same | left
    · rw [same]
    · rw [left]; rfl
  rw [← record]
  exact left

/-- Settles O35. -/
theorem feederOpenByState : Obligations.FeederOpenByState := by
  refine ⟨?_, fun s f => ⟨_, leftPlace s f, examinedIf_head (isHead_iff s f) _⟩⟩
  rintro s r f c granted index rfl
  dsimp only
  have opens : State.serveFeederOpen (popped s) r = .checked (popped s)
      (firstFailing [(s.tables.feeder[f].inUse, .state)]) ((popped s).feederOpens f) := onFeeder_of index _
  refine ⟨fun unused => ?_, fun used => ?_⟩
  · refine serve_checked_refused granted (by decide) opens ?_
    rw [unused]
    rfl
  have passes : firstFailing [(s.tables.feeder[f].inUse, .state)] = none := by
    rw [used]
    rfl
  have served {u : State} (is : (popped s).feederOpens f = u) : Serves .feederOpen s r .ok [] u := by
    rw [← is]
    exact serve_checked_accepted (objs := [32]) granted (by decide) opens passes
  refine ⟨fun moves => ?_, fun pending => ?_, fun opening => served ?_, fun out => served ?_, fun locked => served ?_⟩
  · exact ⟨_, served (feederOpens_moves moves), reports_openWithoutTrip (reports_refl (popped s)) f _⟩
  · obtain ⟨w, w_is, left⟩ := withdrawn_fctOut (popped s) f
    exact ⟨w, _, served (feederOpens_pending pending), w_is, left⟩
  · unfold State.feederOpens
    dsimp only
    rw [show (popped s).fct[f].state = _ from opening]
    rfl
  · unfold State.feederOpens
    dsimp only
    rw [show (popped s).fct[f].state = _ from out]
  · exact feederOpens_lockout locked

end Sys2Proof.Machine
end

-- ==== Deliveries and the thermal period end ====
section
/-!
A delivery at the consumers of its point, and the thermal period end of the feeders in turn: O24 and O25.
-/

namespace Sys2Proof.Machine
open Sys2Proof

/-! ### The points, R2 -/

section
variable {p : Point}

theorem pointRole_current {f : Feeder} (is : p.val = f.val) : pointRole p = .feederCurrent f := by
  obtain rfl : p = currentPoint f := Fin.ext is
  exact dif_pos f.isLt

theorem pointRole_line {f : Feeder} (is : p.val = f.val + 10) : pointRole p = .lineVoltage f := by
  obtain rfl : p = linePoint f := Fin.ext is
  unfold pointRole
  rw [dif_neg (by show ¬ f.val + 10 < 10; omega), dif_pos (by show f.val + 10 < 20; omega)]
  exact congrArg PointRole.lineVoltage (Fin.ext (by show f.val + 10 - 10 = f.val; omega))

theorem pointRole_bus (is : p.val = 20) : pointRole p = .bus := by
  obtain rfl : p = 20 := Fin.ext is
  rfl

theorem pointRole_rect (is : p.val = 21) : pointRole p = .rectCurrent := by
  obtain rfl : p = 21 := Fin.ext is
  rfl

theorem pointRole_ac (is : p.val = 22) : pointRole p = .acVoltage := by
  obtain rfl : p = 22 := Fin.ext is
  rfl

theorem pointRole_leak (is : p.val = 23) : pointRole p = .leakage := by
  obtain rfl : p = 23 := Fin.ext is
  rfl

end

/-! ### Deliveries, R3 -/

/-- What a delivery at the protection unit leaves of the controller and of θ. -/
theorem fpuDeliver_keeps (s : State) (f : Feeder) (v : Int) (k : Nat) (disc : Bool) :
    (s.fpuDeliver f v k disc).fct[f] = { s.fct[f] with operateIn := (s.fpuDeliver f v k disc).fct[f].operateIn } ∧
      s.fpuDeliver f v k disc =
        { s with fpu := (s.fpuDeliver f v k disc).fpu, fct := (s.fpuDeliver f v k disc).fct } := by
  cases used : s.tables.feeder[f].inUse with
  | true =>
    rw [fpuDeliver_fct_self used]
    exact ⟨rfl, fpuDeliver_frame used⟩
  | false =>
    rw [fpuDeliver_of_not_inUse s f v k disc used]
    exact ⟨rfl, rfl⟩

theorem overcurrent_inactive {s : State} (inactive : ¬ s.rcu.active = true) (v : Int) (disc : Bool) :
    s.overcurrent v disc = s := if_neg inactive

theorem overcurrent_active {s : State} (active : s.rcu.active = true) (v : Int) (disc : Bool) {run : Nat}
    (is : run = if (s.tables.station.iRectTrip : Int) ≤ v then (if disc = true then 0 else s.rcu.ocRun) + 1 else 0) :
    s.overcurrent v disc = if 2 ≤ run then
      State.rectBlock { s with rcu := { s.rcu with ocRun := 0 } } .overcurrent
      else { s with rcu := { s.rcu with ocRun := run } } := by
  subst is
  exact if_pos active

/-- Settles O25. -/
theorem deliveriesByPoint : Obligations.DeliveriesByPoint := by
  rintro s t p v k disc rfl
  refine ⟨fun ac => ?_, fun leak => ?_, fun bus => ?_, fun rect => ?_, ?_⟩
  · unfold State.deliver
    rw [pointRole_ac ac]
  · unfold State.deliver
    rw [pointRole_leak leak]
  · unfold State.deliver
    rw [pointRole_bus bus]
  · have given : s.deliver p v k disc = s.overcurrent v disc := by
      unfold State.deliver
      rw [pointRole_rect rect]
    dsimp only
    rw [given, ← active_iff]
    refine ⟨fun rests => overcurrent_inactive rests v disc, fun active short => ?_, fun active second => ?_⟩
    · rw [overcurrent_active active v disc rfl, if_neg (by omega)]
    · rw [overcurrent_active active v disc rfl, if_pos second]
      exact rectEntered _ _ _ _
  · rintro f c r rfl rfl
    refine ⟨fun current w is => ?_, fun line => ?_⟩
    · obtain ⟨record, frame⟩ := fpuDeliver_keeps s f v k disc
      have theta := ((calm_fpuDeliver s f v k disc).theta f).1
      rw [← is] at record frame theta
      have given : s.deliver p v k disc = w.examineHolds f := by
        unfold State.deliver
        rw [pointRole_current current, is]
      have state : w.fct[f].state = s.fct[f].state := by rw [record]
      have timer : w.fct[f].timer = s.fct[f].timer := by rw [record]
      have attempts : w.fct[f].attempts = s.fct[f].attempts := by rw [record]
      have tables : w.tables = s.tables := by rw [frame]
      have ltu : w.ltu = s.ltu := by rw [frame]
      have may : MayClose w f ↔ MayClose s f := by
        unfold MayClose
        rw [theta, tables, record, show w.smp = s.smp by rw [frame]]
      have far : FarHolds w f ↔ FarHolds s f := by
        unfold FarHolds
        rw [tables, show w.smp = s.smp by rw [frame], show w.sco = s.sco by rw [frame]]
      obtain ⟨stays, examined⟩ := holdsExamined w f
      rw [state, timer, may] at stays examined
      rw [far] at examined
      rw [given]
      refine ⟨stays, fun dead waits ready live => ?_, fun dead waits ready test => ?_⟩
      · have closed := (examined dead waits ready).1 live
        unfold ClosingBegun at closed
        rw [tables] at closed
        exact closed
      · obtain ⟨u, joined, due, rests⟩ := (examined dead waits ready).2 test
        rw [attempts, ltu] at joined
        rw [ltu] at due rests
        refine ⟨u, joined, ?_⟩
        split
        · exact due (by assumption)
        · exact rests (by assumption)
    · have given : s.deliver p v k disc = (s.examineFollow f).ltuLine f v := by
        unfold State.deliver
        rw [pointRole_line line]
      obtain ⟨stays, examined⟩ := followExamined s f
      rw [given]
      refine ⟨fun rests => ?_, fun follow ready live => ⟨_, examined follow live ready, rfl⟩⟩
      rw [stays fun ⟨follow, far, may⟩ => rests ⟨follow, may, far⟩]

/-! ### What the blocks leave untouched -/

theorem Untouched.trans {s t u : State} (h : Untouched s t) (k : Untouched t u) : Untouched s u where
  phase := k.phase.trans h.phase
  pending := k.pending.trans h.pending
  clock := k.clock.trans h.clock
  tables := k.tables.trans h.tables
  smp := k.smp.trans h.smp
  mga := k.mga.trans h.mga
  link := k.link.trans h.link
  ms := k.ms.trans h.ms
  rif := by rw [k.rif, h.rif]

theorem Calm.untouched {s t : State} (h : Calm s t) : Untouched s t where
  phase := h.phase
  pending := h.pending
  clock := h.clock
  tables := h.tables
  smp := h.smp
  mga := h.mga
  link := h.link
  ms := h.ms
  rif := h.rif

theorem Reports.untouched {u t : State} {ps : List (EventKind × Subject × Option Cause × Option Int)}
    (h : Reports u t ps) : Untouched u t := by
  obtain ⟨phase, pending, clock, tables, smp, _, _, _, sco, _, _, _, mga⟩ := h.same
  have rif : t.rif = { u.rif with reportQ := t.rif.reportQ } := congrArg State.rif h.1
  exact
    { phase, pending, clock, tables, smp, mga, link := by rw [sco], ms := h.ms
      rif := by rw [rif] }

/-! ### The thermal period end of one feeder, R36 to R38 -/

/-- θ after a period end as R36 has it. -/
theorem thetaAfter_eq (r : FeederRec) (p : Fpu) : thetaAfter r p = if p.count = 0 then p.theta else
    let q : Int := min 65535 ((p.sum / p.count * 10000 / (r.iTh * r.iTh) : Nat) : Int)
    let d : Int := (q - p.theta).tdiv r.tauT
    let step : Int := if d ≠ 0 then d else if q > p.theta then 1 else if q < p.theta then -1 else 0
    (min 65535 (max 0 (p.theta + step))).toNat := by
  have demand : ((heatingDemand r.iTh p.sum p.count : Nat) : Int) =
      min 65535 ((p.sum / p.count * 10000 / (r.iTh * r.iTh) : Nat) : Int) := Nat.cast_min ..
  unfold thetaAfter
  split
  · rfl
  · dsimp only
    rw [clampInt_eq_min_max _ (by decide), demand]
    unfold thermalStep
    simp only [ne_eq, ite_not]

/-- The THERMAL report that a period end hands, as a list. -/
def State.thermalHanded (s : State) (f : Feeder) (theta : Nat) : List OperateReport :=
  if s.tables.feeder[f].thetaTrip ≤ theta ∧ s.fpu[f].tripMark = false then
    [{ cause := .thermal, bank := s.sco.sect[f].bank, current := s.smp.points[f.val].last,
       delta := none, t := none, theta := some theta, phaseBack := false, transfer := false }]
  else []

/-- The event a period end posts. -/
def State.thermalPosts (s : State) (f : Feeder) (theta : Nat) : List (EventKind × Subject × Option Cause × Option Int) :=
  if s.tables.feeder[f].thetaAlarm ≤ theta ∧ s.fpu[f].alarmMark = false then
    [(.thermalAlarm, .feeder f, none, some (theta : Int))] else []

theorem fpuPeriodEnd_rests {s : State} {f : Feeder}
    (rests : s.tables.feeder[f].inUse = false ∨ s.smp.points[f.val].sighted = false) : s.fpuPeriodEnd f = s := by
  unfold State.fpuPeriodEnd
  rw [blind_eq, if_neg]
  rcases rests with h | h <;> rw [h] <;> simp

theorem newly_iff (a : Prop) [Decidable a] (b : Bool) : (decide a && !b) = true ↔ a ∧ b = false := by
  simp

theorem reports_fpuPeriodEnd {s : State} {f : Feeder} (used : s.tables.feeder[f].inUse = true)
    (sighted : s.smp.points[f.val].sighted = true) :
    Reports ((s.modFpu f fun p => p.periodEnd s.tables.feeder[f]).modFct f fun c => { c with
        operateIn := c.operateIn ++ s.thermalHanded f (thetaAfter s.tables.feeder[f] s.fpu[f]) }) (s.fpuPeriodEnd f)
      (s.thermalPosts f (thetaAfter s.tables.feeder[f] s.fpu[f])) := by
  have due : (s.tables.feeder[f].inUse && !s.blind f) = true := by rw [blind_eq, used, sighted]; rfl
  have ended := reports_refl (s.modFpu f fun p => p.periodEnd s.tables.feeder[f])
  obtain ⟨theta, is⟩ : ∃ theta, theta = thetaAfter s.tables.feeder[f] s.fpu[f] := ⟨_, rfl⟩
  have alarm : ((s.fpu[f].periodEnd s.tables.feeder[f]).alarmMark && !s.fpu[f].alarmMark) = true ↔
      s.tables.feeder[f].thetaAlarm ≤ theta ∧ s.fpu[f].alarmMark = false := by
    rw [is]
    exact newly_iff _ _
  have trip : ((s.fpu[f].periodEnd s.tables.feeder[f]).tripMark && !s.fpu[f].tripMark) = true ↔
      s.tables.feeder[f].thetaTrip ≤ theta ∧ s.fpu[f].tripMark = false := by
    rw [is]
    exact newly_iff _ _
  have posted : Reports (s.modFpu f fun p => p.periodEnd s.tables.feeder[f])
      (if ((s.fpu[f].periodEnd s.tables.feeder[f]).alarmMark && !s.fpu[f].alarmMark) = true then
        (s.modFpu f fun p => p.periodEnd s.tables.feeder[f]).post .thermalAlarm (.feeder f) none (some (theta : Int))
      else s.modFpu f fun p => p.periodEnd s.tables.feeder[f]) (s.thermalPosts f theta) := by
    unfold State.thermalPosts
    split
    · rw [if_pos (alarm.1 (by assumption))]
      exact reports_post ended .thermalAlarm (.feeder f) none (some (theta : Int))
    · rw [if_neg fun holds => absurd (alarm.2 holds) (by assumption)]
      exact ended
  obtain ⟨s2, s2_is⟩ : ∃ s2, s2 = (if ((s.fpu[f].periodEnd s.tables.feeder[f]).alarmMark && !s.fpu[f].alarmMark) = true
    then (s.modFpu f fun p => p.periodEnd s.tables.feeder[f]).post .thermalAlarm (.feeder f) none (some (theta : Int))
    else s.modFpu f fun p => p.periodEnd s.tables.feeder[f]) := ⟨_, rfl⟩
  rw [← s2_is] at posted
  have report : s2.thermalReport f theta = s.thermalReport f theta := by
    unfold State.thermalReport State.last
    rw [posted.sco, posted.smp]
    rfl
  have given : s.fpuPeriodEnd f =
      if ((s.fpu[f].periodEnd s.tables.feeder[f]).tripMark && !s.fpu[f].tripMark) = true then
        s2.modFct f fun c => { c with operateIn := c.operateIn ++ [s2.thermalReport f theta] }
      else s2 := by
    rw [s2_is, is]
    exact if_pos due
  rw [given, report, ← is]
  by_cases trips : ((s.fpu[f].periodEnd s.tables.feeder[f]).tripMark && !s.fpu[f].tripMark) = true
  · have handed : s.thermalHanded f theta = [_] := if_pos (trip.1 trips)
    rw [if_pos trips, handed]
    exact reports_modFct posted f _
  · have handed : s.thermalHanded f theta = [] := if_neg fun holds => trips (trip.2 holds)
    rw [if_neg trips, handed]
    simp only [List.append_nil]
    have same : (s.modFpu f fun p => p.periodEnd s.tables.feeder[f]).modFct f (fun c => c) =
        s.modFpu f fun p => p.periodEnd s.tables.feeder[f] := by
      unfold State.modFct
      rw [show (s.modFpu f fun p => p.periodEnd s.tables.feeder[f]).fct.set f.val
        (s.modFpu f fun p => p.periodEnd s.tables.feeder[f]).fct[f] f.isLt = _ from Vector.set_getElem_self ..]
    rw [same]
    exact posted

/-- What the period end of feeder f shows of the unit and of the reports of a feeder. -/
theorem fpuPeriodEnd_self (s : State) (f : Feeder) :
    (s.fpuPeriodEnd f).fpu[f] =
      (if s.tables.feeder[f].inUse = true ∧ s.smp.points[f.val].sighted = true then
        s.fpu[f].periodEnd s.tables.feeder[f] else s.fpu[f]) ∧
    (s.fpuPeriodEnd f).fct[f].operateIn = s.fct[f].operateIn ++
      (if s.tables.feeder[f].inUse = true ∧ s.smp.points[f.val].sighted = true then
        s.thermalHanded f (thetaAfter s.tables.feeder[f] s.fpu[f]) else []) := by
  by_cases due : s.tables.feeder[f].inUse = true ∧ s.smp.points[f.val].sighted = true
  · have ended := reports_fpuPeriodEnd due.1 due.2
    rw [if_pos due, if_pos due, ended.fpu, ended.fct, modFct_fpu, modFpu_self, modFct_self]
    exact ⟨rfl, rfl⟩
  · have rests : s.fpuPeriodEnd f = s := fpuPeriodEnd_rests (by
      rw [not_and_or, Bool.not_eq_true, Bool.not_eq_true] at due
      exact due)
    rw [if_neg due, if_neg due, rests, List.append_nil]
    exact ⟨rfl, rfl⟩

/-- A part that the thermal period ends of other feeders have left. -/
structure ThermalKept (s t : State) (f : Feeder) : Prop where
  tables : t.tables = s.tables
  smp : t.smp = s.smp
  sco : t.sco = s.sco
  fpu : t.fpu[f] = s.fpu[f]
  operateIn : t.fct[f].operateIn = s.fct[f].operateIn

theorem ThermalKept.trans {s t u : State} {f : Feeder} (h : ThermalKept s t f) (k : ThermalKept t u f) :
    ThermalKept s u f :=
  ⟨k.tables.trans h.tables, k.smp.trans h.smp, k.sco.trans h.sco, k.fpu.trans h.fpu, k.operateIn.trans h.operateIn⟩

/-- A period end depends on its feeder alone. -/
theorem ThermalKept.periodEnd {s t : State} {f : Feeder} (h : ThermalKept s t f) :
    (t.fpuPeriodEnd f).fpu[f] = (s.fpuPeriodEnd f).fpu[f] ∧
      (t.fpuPeriodEnd f).fct[f].operateIn = (s.fpuPeriodEnd f).fct[f].operateIn := by
  obtain ⟨tables, smp, sco, fpu, operateIn⟩ := h
  have handed (theta : Nat) : t.thermalHanded f theta = s.thermalHanded f theta := by
    unfold State.thermalHanded
    rw [tables, smp, sco, fpu]
  obtain ⟨unit, reports⟩ := fpuPeriodEnd_self t f
  obtain ⟨unit', reports'⟩ := fpuPeriodEnd_self s f
  rw [unit, reports, unit', reports', handed]
  rw [tables, smp, fpu, operateIn]
  exact ⟨rfl, rfl⟩

/-- What a period end leaves of the state. -/
structure ThermalFrame (s t : State) : Prop where
  untouched : Untouched s t
  sco : t.sco = s.sco
  rcu : t.rcu = s.rcu
  stl : t.stl = s.stl
  drc : t.drc = s.drc

theorem ThermalFrame.refl (s : State) : ThermalFrame s s := ⟨(Calm.refl s).untouched, rfl, rfl, rfl, rfl⟩

theorem ThermalFrame.trans {s t u : State} (h : ThermalFrame s t) (k : ThermalFrame t u) : ThermalFrame s u :=
  ⟨h.untouched.trans k.untouched, k.sco.trans h.sco, k.rcu.trans h.rcu, k.stl.trans h.stl, k.drc.trans h.drc⟩

theorem fpuPeriodEnd_frame (s : State) (f : Feeder) : ThermalFrame s (s.fpuPeriodEnd f) := by
  by_cases due : s.tables.feeder[f].inUse = true ∧ s.smp.points[f.val].sighted = true
  · have ended := reports_fpuPeriodEnd due.1 due.2
    refine ⟨?_, ended.sco, ended.rcu, ended.stl, ended.drc⟩
    refine Untouched.trans ?_ ended.untouched
    exact ⟨rfl, rfl, rfl, rfl, rfl, rfl, rfl, rfl, rfl⟩
  · rw [fpuPeriodEnd_rests (by
      rw [not_and_or, Bool.not_eq_true, Bool.not_eq_true] at due
      exact due)]
    exact ThermalFrame.refl s

theorem fpuPeriodEnd_other (s : State) {f g : Feeder} (other : g ≠ f) : ThermalKept s (s.fpuPeriodEnd f) g := by
  have frame := fpuPeriodEnd_frame s f
  by_cases due : s.tables.feeder[f].inUse = true ∧ s.smp.points[f.val].sighted = true
  · have ended := reports_fpuPeriodEnd due.1 due.2
    refine ⟨frame.untouched.tables, frame.untouched.smp, frame.sco, ?_, ?_⟩
    · rw [ended.fpu, modFct_fpu, modFpu_ne s f g (fun p => p.periodEnd s.tables.feeder[f]) other.symm]
    · rw [ended.fct, modFct_ne _ f g _ other.symm, modFpu_fct]
  · rw [fpuPeriodEnd_rests (by
      rw [not_and_or, Bool.not_eq_true, Bool.not_eq_true] at due
      exact due)]
    exact ⟨rfl, rfl, rfl, rfl, rfl⟩

/-! ### The feeders in turn, R36 to R38, R64, R67 -/

theorem foldl_fpuPeriodEnd_frame (l : List Feeder) (s : State) : ThermalFrame s (l.foldl State.fpuPeriodEnd s) := by
  induction l generalizing s with
  | nil => exact ThermalFrame.refl s
  | cons g rest ih => exact (fpuPeriodEnd_frame s g).trans (ih _)

theorem foldl_fpuPeriodEnd_kept {f : Feeder} (l : List Feeder) (s : State) (out : f ∉ l) :
    ThermalKept s (l.foldl State.fpuPeriodEnd s) f := by
  induction l generalizing s with
  | nil => exact ⟨rfl, rfl, rfl, rfl, rfl⟩
  | cons g rest ih =>
    rw [List.mem_cons, not_or] at out
    exact (fpuPeriodEnd_other s out.1).trans (ih _ out.2)

/-- The period ends of all feeders show of each feeder what its own shows. -/
theorem foldl_fpuPeriodEnd_of_mem {f : Feeder} (l : List Feeder) (s : State) (mem : f ∈ l) (once : l.Nodup) :
    (l.foldl State.fpuPeriodEnd s).fpu[f] = (s.fpuPeriodEnd f).fpu[f] ∧
      (l.foldl State.fpuPeriodEnd s).fct[f].operateIn = (s.fpuPeriodEnd f).fct[f].operateIn := by
  induction l generalizing s with
  | nil => cases mem
  | cons g rest ih =>
    obtain ⟨out, once⟩ := List.nodup_cons.1 once
    by_cases own : f = g
    · subst own
      have kept := foldl_fpuPeriodEnd_kept rest (s.fpuPeriodEnd f) out
      exact ⟨kept.fpu, kept.operateIn⟩
    · have later := (List.mem_cons.1 mem).resolve_left own
      obtain ⟨fpu, operateIn⟩ := ih (s.fpuPeriodEnd g) later once
      obtain ⟨fpu', operateIn'⟩ := (fpuPeriodEnd_other s own).periodEnd
      exact ⟨fpu.trans fpu', operateIn.trans operateIn'⟩

theorem mem_allFeeders (f : Feeder) : f ∈ allFeeders := by
  revert f
  decide

theorem take_all_allFeeders : allFeeders.take 10 = allFeeders := rfl

theorem take_succ_allFeeders (f : Feeder) : allFeeders.take (f.val + 1) = allFeeders.take f.val ++ [f] := by
  revert f
  decide

/-- A fold over the feeders, one feeder at a time. -/
theorem foldl_take_succ (g : State → Feeder → State) (s : State) (f : Feeder) :
    (allFeeders.take (f.val + 1)).foldl g s = g ((allFeeders.take f.val).foldl g s) f := by
  rw [take_succ_allFeeders, List.foldl_append]
  rfl

/-- The controllers' conditions on θ examined for one feeder. -/
def State.examineThermal (s : State) (f : Feeder) : State := (s.examineHolds f).examineFollow f

theorem calm_examineThermal (s : State) (f : Feeder) : Calm s (s.examineThermal f) :=
  (calm_examineHolds s f).trans (calm_examineFollow _ f)

theorem quiet_examineThermal (s : State) (f : Feeder) : Quiet s (s.examineThermal f) :=
  (quiet_examineHolds s f).trans (quiet_examineFollow _ f)

theorem thermalPeriodEnd_eq (s : State) : s.thermalPeriodEnd =
    allFeeders.foldl State.examineThermal (allFeeders.foldl State.fpuPeriodEnd s) := rfl

/-- Settles O24. -/
theorem thermalPeriodEnds : Obligations.ThermalPeriodEnds := by
  refine ⟨?_, fun s running due => ?_, fun s running early => (due_next running).2 (by omega)⟩
  · rintro s f r p theta rfl rfl is
    rw [← thetaAfter_eq] at is
    refine ⟨fpuPeriodEnd_rests, fun used sighted => ?_⟩
    subst is
    exact reports_fpuPeriodEnd used sighted
  · obtain ⟨s0, s0_is⟩ : ∃ s0, s0 = { s with clock := { s.clock with thermal := s.clock.thermal - 400 } } := ⟨_, rfl⟩
    obtain ⟨x, x_is⟩ : ∃ x, x = allFeeders.foldl State.fpuPeriodEnd s0 := ⟨_, rfl⟩
    have frame : ThermalFrame s0 x := by
      rw [x_is]
      exact foldl_fpuPeriodEnd_frame allFeeders s0
    have calm : Calm x (allFeeders.foldl State.examineThermal x) := calm_foldl _ _ calm_examineThermal x
    have quiet : Quiet x (allFeeders.foldl State.examineThermal x) := quiet_foldl _ _ quiet_examineThermal x
    have runs : exec .thermalPeriodEnd s = .next (allFeeders.foldl State.examineThermal x) := by
      rw [x_is, s0_is]
      exact (due_next running).1 due
    have untouched := frame.untouched.trans calm.untouched
    generalize t_is : allFeeders.foldl State.examineThermal x = t at *
    refine ⟨t, runs, ?_, fun f => ?_, ⟨fun n => (allFeeders.take n).foldl State.fpuPeriodEnd s0,
      fun n => (allFeeders.take n).foldl State.examineThermal x, s0_is, foldl_take_succ _ s0, ?_, fun f => ?_, ?_⟩,
      ?_, ?_, ?_, ?_⟩
    · rw [untouched.clock, s0_is]
    · have ended := foldl_fpuPeriodEnd_of_mem allFeeders s0 (mem_allFeeders f) (by decide)
      have shows : ThermalKept s s0 f := by
        rw [s0_is]
        exact ⟨rfl, rfl, rfl, rfl, rfl⟩
      rw [← x_is] at ended
      rw [quiet.fpu, quiet.operates]
      exact ⟨ended.1.trans shows.periodEnd.1, ended.2.trans shows.periodEnd.2⟩
    · show x = (allFeeders.take 10).foldl State.fpuPeriodEnd s0
      rw [take_all_allFeeders, x_is]
    · refine ⟨_, holdsExamined _ f, ?_⟩
      dsimp only
      rw [foldl_take_succ]
      exact followExamined _ f
    · show _ = (allFeeders.take 10).foldl State.examineThermal x
      rw [take_all_allFeeders, t_is]
    · rw [s0_is] at untouched
      obtain ⟨phase, pending, _, tables, smp, mga, link, ms, rif⟩ := untouched
      exact ⟨phase, pending, rfl, tables, smp, mga, link, ms, rif⟩
    · rw [quiet.rcu, frame.rcu, s0_is]
    · rw [quiet.stl, frame.stl, s0_is]
    · rw [quiet.drc, frame.drc, s0_is]

end Sys2Proof.Machine
end

-- ==== Breaker status reports ====
section
/-!
A breaker status report at the controller, at the test slots and at the head of the queue: O34.
-/

namespace Sys2Proof.Machine
open Sys2Proof

/-! ### Entry to SERVICE, R61 and R73 -/

/-- The blind action on entry to SERVICE, through reports already made. -/
theorem serviceEntered {s t : State} {f : Feeder} {attempts : Nat}
    {posts : List (EventKind × Subject × Option Cause × Option Int)}
    (h : Reports (s.modFct f fun c => { serviceRecord c s.tables.feeder[f] with attempts := attempts }) t posts) :
    ServiceEntered s (t.blindOnEntry f) f attempts posts := by
  have blind : t.blind f = !s.smp.points[f.val].sighted := by
    rw [h.blind f]
    rfl
  have opens : t.tables = s.tables := h.tables
  unfold ServiceEntered State.blindOnEntry
  dsimp only
  rw [blind, opens]
  refine ⟨fun stays => ?_, fun lost acts => ?_⟩
  · rw [if_neg]
    · exact h
    · rcases stays with is | is <;> rw [is] <;> simp
  · rw [if_pos (by rw [lost, acts]; rfl)]
    have opened := reports_openWithoutTrip h f .blind
    have again (g k : Fct → Fct) : ((s.modFct f g).sendOrder f .opened).modFct f k =
        (s.sendOrder f .opened).modFct f fun c => k (g c) := modFct_modFct (s.sendOrder f .opened) f g k
    rw [again] at opened
    exact opened

/-- Entry to SERVICE with FEEDER_CLOSED and the counter as it stands. -/
theorem closedToService_entered (s : State) (f : Feeder) : ServiceEntered s (s.closedToService f) f s.fct[f].attempts
    [(.feederClosed, .feeder f, none, some (s.fct[f].attempts : Int))] := by
  have entered := reports_post (reports_enterService (reports_refl s) f) .feederClosed (.feeder f) none
    (some (s.fct[f].attempts : Int))
  exact serviceEntered (s := s) (attempts := s.fct[f].attempts) entered

/-- The position of a report handled by the state (R57, R58, R61, R62, R64, R66, R67, R69). -/
theorem positionTaken (s : State) (f : Feeder) (p : Position) : PositionTaken s (s.fctPosition f p) f p := by
  unfold PositionTaken
  cases p with
  | closed =>
    refine ⟨fun unknown => ?_, fun out => ?_, fun waits => ?_, fun tested => ?_, fun stays => ?_⟩
    · have given : s.fctPosition f .closed =
          ((s.modFct f fun c => { c with attempts := 0 }).enterService f).blindOnEntry f := by
        unfold State.fctPosition
        rw [unknown]
      rw [given]
      refine serviceEntered ?_
      have entered := reports_enterService (reports_refl (s.modFct f fun c => { c with attempts := 0 })) f
      rw [modFct_modFct] at entered
      exact entered
    · have given : s.fctPosition f .closed = (s.modFct f fun c => { c with attempts := 0 }).closedToService f := by
        unfold State.fctPosition
        rw [out]
      rw [given]
      refine serviceEntered ?_
      have entered := reports_post (reports_enterService (reports_refl (s.modFct f fun c => { c with attempts := 0 })) f)
        .feederClosed (.feeder f) none (some (0 : Int))
      rw [modFct_modFct] at entered
      have attempts : ((s.modFct f fun c => { c with attempts := 0 }).fct[f].attempts : Int) = 0 := by
        rw [modFct_self s f fun c => { c with attempts := 0 }]
        rfl
      rw [attempts]
      exact entered
    · have given : s.fctPosition f .closed = s.closedToService f := by
        simp only [List.mem_cons, List.not_mem_nil, or_false] at waits
        unfold State.fctPosition
        rcases waits with is | is | is <;> rw [is]
      rw [given]
      exact closedToService_entered s f
    · have given : s.fctPosition f .closed = (s.withdrawPending f).closedToService f := by
        simp only [List.mem_cons, List.not_mem_nil, or_false] at tested
        unfold State.fctPosition
        rcases tested with is | is <;> rw [is]
      have entered := closedToService_entered (s.withdrawPending f) f
      have attempts : (s.withdrawPending f).fct[f].attempts = s.fct[f].attempts := by
        rcases withdrawPending_fct s f with same | left
        · rw [same]
        · rw [left]
      rw [attempts] at entered
      refine ⟨s.withdrawPending f, ?_, ?_⟩
      · simp only [List.mem_cons, List.not_mem_nil, or_false] at tested
        unfold State.withdrawPending
        rcases tested with is | is <;> rw [is] <;> rfl
      · rw [given]
        exact entered
    · simp only [List.mem_cons, List.not_mem_nil, or_false] at stays
      unfold State.fctPosition
      rcases stays with is | is | is <;> rw [is]
  | opened =>
    refine ⟨fun unknown => ?_, fun service => ?_, fun opening => ?_, fun dead => ?_, fun follow => ?_, fun stays => ?_⟩
    · have given : s.fctPosition f .opened = s.fctEnter f .out none := by
        unfold State.fctPosition
        rw [unknown]
      rw [given]
      exact reports_enterOut (reports_refl s) f
    · have given : s.fctPosition f .opened = (s.fctOut f).post .feederOpened (.feeder f) none none := by
        unfold State.fctPosition
        rw [service]
      rw [given]
      exact reports_post (reports_fctOut (reports_refl s) f) .feederOpened (.feeder f) none none
    · unfold State.fctPosition
      rw [opening]
    · have given : s.fctPosition f .opened = s.examineHolds f := by
        unfold State.fctPosition
        rw [dead]
      rw [given]
      exact holdsExamined s f
    · have given : s.fctPosition f .opened = s.examineFollow f := by
        unfold State.fctPosition
        rw [follow]
      rw [given]
      exact followExamined s f
    · simp only [List.mem_cons, List.not_mem_nil, or_false] at stays
      unfold State.fctPosition
      rcases stays with is | is | is | is | is <;> rw [is]
  | travel =>
    refine ⟨fun dead => ?_, fun follow => ?_, fun stays => ?_⟩
    · have given : s.fctPosition f .travel = s.examineHolds f := by
        unfold State.fctPosition
        rw [dead]
      rw [given]
      exact holdsExamined s f
    · have given : s.fctPosition f .travel = s.examineFollow f := by
        unfold State.fctPosition
        rw [follow]
      rw [given]
      exact followExamined s f
    · unfold State.fctPosition
      cases is : s.fct[f].state with
      | deadTime => exact absurd (is ▸ List.mem_cons_self) stays
      | follow => exact absurd (is ▸ List.mem_cons_of_mem _ List.mem_cons_self) stays
      | _ => rfl

/-! ### The test contactor field, R84 to R88 -/

/-- The visit of slot k by the test contactor field of a report of feeder f. -/
def State.contactorAt (s : State) (before : TestPhase) (f : Feeder) (on : Bool) (k : TestSlot) : State :=
  match s.ltu.slot[k] with
  | .contact g _ =>
    if g = f ∧ on = true then s.setTestSlot k (.settle f (msTicks s.tables.feeder[f].settle)) else s
  | .settle g _ => if g = f ∧ on = false then s.endTest k f inconclusive else s
  | .window g _ _ _ _ => if g = f ∧ on = false then s.endTest k f inconclusive else s
  | .release g _ p => if g = f ∧ on = false ∧ before.releasing = some f then s.releaseEnds k f p else s
  | .free => s

theorem ltuContactor_eq (s : State) (before : Vector TestPhase 2) (f : Feeder) (on : Bool) :
    s.ltuContactor before f on = (s.contactorAt before[0] f on 0).contactorAt before[1] f on 1 := rfl

theorem releasing_iff (ph : TestPhase) (f : Feeder) : ph.releasing = some f ↔ ∃ n o, ph = .release f n o := by
  cases ph <;> simp [TestPhase.releasing]

theorem contactorTaken (s : State) (before : TestPhase) (f : Feeder) (on : Bool) (k : TestSlot) :
    ContactorTaken s (s.contactorAt before f on k) before f on k := by
  refine ⟨fun n slot is => ?_, fun running is => ?_, fun n o slot is => ⟨fun stood => ?_, fun began => ?_⟩,
    fun other => ?_⟩
  · unfold State.contactorAt
    rw [slot]
    exact if_pos ⟨rfl, is⟩
  · unfold State.contactorAt
    rcases running with ⟨n, slot⟩ | ⟨w, n, a, b, slot⟩
    · rw [slot]
      exact if_pos ⟨rfl, is⟩
    · rw [slot]
      exact if_pos ⟨rfl, is⟩
  · refine ⟨_, slotFreed_frees s k f o, ?_⟩
    rw [← releaseEnds_eq]
    unfold State.contactorAt
    rw [slot]
    exact if_pos ⟨rfl, is, (releasing_iff before f).2 stood⟩
  · unfold State.contactorAt
    rw [slot]
    refine if_neg fun stood => ?_
    obtain ⟨m, x, is⟩ := (releasing_iff before f).1 stood.2.2
    exact began m x is
  · unfold State.contactorAt
    cases slot : s.ltu.slot[k] with
    | free => rfl
    | contact g n =>
      refine if_neg ?_
      rintro ⟨rfl, is⟩
      rcases other with out | ⟨_, never⟩ | ⟨off, _⟩
      · exact out (by rw [slot]; rfl)
      · exact never n slot
      · exact absurd (is.symm.trans off) (by decide)
    | settle g n =>
      refine if_neg ?_
      rintro ⟨rfl, is⟩
      rcases other with out | ⟨held, _⟩ | ⟨_, m, contact⟩
      · exact out (by rw [slot]; rfl)
      · exact absurd (is.symm.trans held) (by decide)
      · rw [slot] at contact; cases contact
    | window g w n a b =>
      refine if_neg ?_
      rintro ⟨rfl, is⟩
      rcases other with out | ⟨held, _⟩ | ⟨_, m, contact⟩
      · exact out (by rw [slot]; rfl)
      · exact absurd (is.symm.trans held) (by decide)
      · rw [slot] at contact; cases contact
    | release g n o =>
      refine if_neg ?_
      rintro ⟨rfl, is, _⟩
      rcases other with out | ⟨held, _⟩ | ⟨_, m, contact⟩
      · exact out (by rw [slot]; rfl)
      · exact absurd (is.symm.trans held) (by decide)
      · rw [slot] at contact; cases contact

/-! ### A feeder that is out of the queue keeps its record -/

/-- An examination leaves a feeder out of the queue out of it. -/
theorem examine_queue {f : Feeder} (n : Nat) (s : State) (out : f ∉ s.ltu.queue) : f ∉ (s.examine n).ltu.queue := by
  induction n generalizing s with
  | zero => exact out
  | succ n ih =>
    cases queue : s.ltu.queue with
    | nil => rw [examine_idle _ (Or.inl queue)]; exact out
    | cons g rest =>
      cases free : s.freeSlot with
      | none => rw [examine_idle _ (Or.inr free)]; exact out
      | some k =>
        have rest' : f ∉ rest := fun mem => out (queue ▸ List.mem_cons_of_mem g mem)
        rw [examine_head n queue free]
        split
        · split
          · exact ih _ (by rw [handOutcome_ltu]; exact rest')
          · exact ih _ (by rw [grant_queue]; exact rest')
        · exact out

theorem grant_slot (s : State) (k : TestSlot) (f : Feeder) :
    (s.grant k f).ltu.slot = s.ltu.slot.set k (.contact f contactorTicks) := by
  simp [State.grant, State.fctEnter, State.fctSet]

/-- An examination brings no release. -/
theorem examine_release {j : TestSlot} {f : Feeder} {m : Nat} {o : Option TestOutcome} (n : Nat) (s : State)
    (released : (s.examine n).ltu.slot[j] = .release f m o) : s.ltu.slot[j] = .release f m o := by
  induction n generalizing s with
  | zero => exact released
  | succ n ih =>
    cases queue : s.ltu.queue with
    | nil => rwa [examine_idle _ (Or.inl queue)] at released
    | cons g rest =>
      cases free : s.freeSlot with
      | none => rwa [examine_idle _ (Or.inr free)] at released
      | some k =>
        rw [examine_head n queue free] at released
        split at released
        · split at released
          · have before := ih _ released
            rw [handOutcome_ltu] at before
            exact before
          · have before := ih _ released
            rw [grant_slot] at before
            by_cases own : k = j
            · subst own
              rw [show ((s.setQueue rest).ltu.slot.set k.val (.contact g contactorTicks) k.isLt)[k] = _ from
                Vector.getElem_set_self ..] at before
              cases before
            · have other : k.val ≠ j.val := fun is => own (Fin.ext is)
              rw [show ((s.setQueue rest).ltu.slot.set k.val (.contact g contactorTicks) k.isLt)[j] =
                (s.setQueue rest).ltu.slot[j] from Vector.getElem_set_ne _ _ other] at before
              exact before
        · exact released

/-- What a report's contactor field leaves of feeder f: its record, its place out of the queue, and the pending outcomes
of the other slot's release. -/
structure ContactorKept (s t : State) (f : Feeder) : Prop where
  record : t.fct[f] = s.fct[f]
  queue : f ∉ t.ltu.queue

theorem endTest_kept {s : State} {f : Feeder} (out : f ∉ s.ltu.queue) (k : TestSlot) (o : TestOutcome) :
    ContactorKept s (s.endTest k f o) f := ⟨rfl, out⟩

/-- The end of a release keeps the record of a feeder out of the queue, when no outcome is pending or the feeder is not
in test. -/
theorem releaseEnds_kept {s : State} {f : Feeder} (out : f ∉ s.ltu.queue) (k : TestSlot) {o : Option TestOutcome}
    (silent : inTest s.fct[f].state = false ∨ o = none) : ContactorKept s (s.releaseEnds k f o) f := by
  have freed : (s.slotFreed k f o).fct = s.fct ∧ (s.slotFreed k f o).ltu.queue = s.ltu.queue := by
    cases o with
    | none => exact ⟨rfl, rfl⟩
    | some o =>
      have untested : inTest s.fct[f].state = false := silent.resolve_right nofun
      have dropped : s.slotFreed k f (some o) = (s.setTestSlot k .free).postOutcome f o := by
        have stays : ((s.setTestSlot k .free).postOutcome f o).fct = s.fct := by
          unfold State.postOutcome
          rw [post_fct, setTestSlot_fct]
        show ((s.setTestSlot k .free).postOutcome f o).outcomeTaken f o = _
        unfold State.outcomeTaken
        rw [stays, untested]
        rfl
      rw [dropped]
      unfold State.postOutcome
      rw [post_fct, post_ltu]
      exact ⟨rfl, rfl⟩
  obtain ⟨fct, queue⟩ := freed
  rw [releaseEnds_eq]
  have outside : f ∉ (s.slotFreed k f o).ltu.queue := by rw [queue]; exact out
  refine ⟨?_, examine_queue 10 _ outside⟩
  unfold State.examineHead
  rw [examine_fct 10 _ outside, fct]

/-- The visit of a slot keeps the record of a feeder out of the queue. -/
theorem contactorAt_kept {s : State} {f : Feeder} (out : f ∉ s.ltu.queue) (before : TestPhase) {on : Bool} {k : TestSlot}
    (silent : inTest s.fct[f].state = false ∨ on = true ∨ ∀ n o, s.ltu.slot[k] ≠ .release f n (some o)) :
    ContactorKept s (s.contactorAt before f on k) f := by
  have same : ContactorKept s s f := ⟨rfl, out⟩
  unfold State.contactorAt
  cases slot : s.ltu.slot[k] with
  | free => exact same
  | contact g n =>
    dsimp only
    split
    · exact ⟨rfl, out⟩
    · exact same
  | settle g n =>
    dsimp only
    split
    · exact endTest_kept out k inconclusive
    · exact same
  | window g w n a b =>
    dsimp only
    split
    · exact endTest_kept out k inconclusive
    · exact same
  | release g n o =>
    dsimp only
    split
    case isTrue ends =>
      obtain ⟨rfl, off, _⟩ := ends
      refine releaseEnds_kept out k ?_
      rcases silent with untested | held | never
      · exact Or.inl untested
      · exact absurd (off.symm.trans held) (by decide)
      · cases o with
        | none => exact Or.inr rfl
        | some o => exact absurd slot (never n o)
    case isFalse => exact same

/-- The visit of slot 0 brings no release with a pending outcome in slot 1. -/
theorem contactorAt_release {s : State} {f : Feeder} {before : TestPhase} {on : Bool} {m : Nat} {o : Option TestOutcome}
    (untested : inTest s.fct[f].state = false ∨ on = true ∨ ∀ n o, s.ltu.slot[(0 : TestSlot)] ≠ .release f n (some o))
    (released : (s.contactorAt before f on 0).ltu.slot[(1 : TestSlot)] = .release f m o) :
    s.ltu.slot[(1 : TestSlot)] = .release f m o ∨ inTest s.fct[f].state = false ∨ on = true := by
  have apart (ph : TestPhase) : (s.setTestSlot 0 ph).ltu.slot[(1 : TestSlot)] = s.ltu.slot[(1 : TestSlot)] :=
    setTestSlot_ne s 0 1 ph (by decide)
  unfold State.contactorAt at released
  cases slot : s.ltu.slot[(0 : TestSlot)] with
  | free =>
    rw [slot] at released
    exact Or.inl released
  | contact g n =>
    rw [slot] at released
    dsimp only at released
    split at released
    · exact Or.inl ((apart _).symm.trans released)
    · exact Or.inl released
  | settle g n =>
    rw [slot] at released
    dsimp only at released
    split at released
    · exact Or.inl ((apart _).symm.trans released)
    · exact Or.inl released
  | window g w n a b =>
    rw [slot] at released
    dsimp only at released
    split at released
    · exact Or.inl ((apart _).symm.trans released)
    · exact Or.inl released
  | release g n p =>
    rw [slot] at released
    dsimp only at released
    split at released
    case isTrue ends =>
      rw [releaseEnds_eq] at released
      have freed := examine_release 10 _ released
      cases p with
      | none => exact Or.inl ((apart _).symm.trans freed)
      | some p =>
        obtain ⟨rfl, _, _⟩ := ends
        rcases untested with out | held | never
        · exact Or.inr (Or.inl out)
        · exact Or.inr (Or.inr held)
        · exact absurd slot (never n p)
    case isFalse => exact Or.inl released

/-- The contactor field of a report keeps the record of a feeder out of the queue. -/
theorem ltuContactor_kept {s : State} {f : Feeder} (out : f ∉ s.ltu.queue) (before : Vector TestPhase 2) {on : Bool}
    (silent : inTest s.fct[f].state = false ∨ on = true ∨
      ∀ (k : TestSlot) (n : Nat) (o : TestOutcome), s.ltu.slot[k] ≠ .release f n (some o)) :
    ContactorKept s (s.ltuContactor before f on) f := by
  have first : inTest s.fct[f].state = false ∨ on = true ∨
      ∀ n o, s.ltu.slot[(0 : TestSlot)] ≠ .release f n (some o) := silent.imp_right fun h => h.imp_right fun h => h 0
  obtain ⟨record, queue⟩ := contactorAt_kept out before[0] first
  rw [ltuContactor_eq]
  have second : inTest (s.contactorAt before[0] f on 0).fct[f].state = false ∨ on = true ∨
      ∀ n o, (s.contactorAt before[0] f on 0).ltu.slot[(1 : TestSlot)] ≠ .release f n (some o) := by
    rw [record]
    rcases silent with untested | held | never
    · exact Or.inl untested
    · exact Or.inr (Or.inl held)
    · by_cases tests : inTest s.fct[f].state = false ∨ on = true
      · exact tests.imp_right Or.inl
      · refine Or.inr (Or.inr fun n o released => ?_)
        exact (contactorAt_release first released).elim (never 1 n o) tests
  obtain ⟨record', queue'⟩ := contactorAt_kept queue before[1] second
  exact ⟨record'.trans record, queue'⟩

/-! ### What a withdrawn feeder and one in SERVICE show -/

theorem ltuWithdraw_queue (s : State) (f : Feeder) : f ∉ (s.ltuWithdraw f).ltu.queue := by
  have left : f ∉ (s.leavePlace f).ltu.queue := by
    rw [leavePlace_eq]
    simp
  unfold State.ltuWithdraw State.examineAfter
  split
  · exact examine_queue 10 _ left
  · exact left

/-- A sighted feeder that has entered SERVICE. -/
theorem ServiceEntered.shows {s t : State} {f : Feeder} {n : Nat}
    {posts : List (EventKind × Subject × Option Cause × Option Int)} (h : ServiceEntered s t f n posts)
    (sighted : s.smp.points[f.val].sighted = true) :
    t.fct[f] = { serviceRecord s.fct[f] s.tables.feeder[f] with attempts := n } ∧ t.ltu = s.ltu := by
  have entered := h.1 (Or.inl sighted)
  refine ⟨?_, entered.ltu⟩
  rw [entered.fct]
  exact Vector.getElem_set_self ..

/-- A sighted feeder out of the queue that takes CLOSED in a state that leads to SERVICE. -/
theorem closed_shows {s x : State} {f : Feeder} (taken : PositionTaken s x f .closed) (out : f ∉ s.ltu.queue)
    (sighted : s.smp.points[f.val].sighted = true)
    (moves : s.fct[f].state ∈ [FeederState.unknown, .out, .testWait, .testing, .closing, .deadTime, .follow]) :
    x.fct[f].state = .service ∧ x.fct[f].timer = some (400 * s.tables.feeder[f].reclaim) ∧
      x.fct[f].attempts = (if s.fct[f].state ∈ [FeederState.unknown, .out] then 0 else s.fct[f].attempts) ∧
      f ∉ x.ltu.queue := by
  obtain ⟨unknown, outs, waits, tested, _⟩ := taken
  by_cases isUnknown : s.fct[f].state = .unknown
  · obtain ⟨record, ltu⟩ := (unknown isUnknown).shows sighted
    rw [record, ltu, isUnknown]
    exact ⟨rfl, rfl, rfl, out⟩
  by_cases isOut : s.fct[f].state = .out
  · obtain ⟨record, ltu⟩ := (outs isOut).shows sighted
    rw [record, ltu, isOut]
    exact ⟨rfl, rfl, rfl, out⟩
  have kept : (if s.fct[f].state ∈ [FeederState.unknown, .out] then 0 else s.fct[f].attempts) = s.fct[f].attempts :=
    if_neg fun mem => (List.mem_cons.1 mem).elim isUnknown fun rest => isOut (List.mem_singleton.1 rest)
  rw [kept]
  by_cases inside : s.fct[f].state ∈ [FeederState.testWait, .testing]
  · obtain ⟨u, is, entered⟩ := tested inside
    have calm : Calm s u := by
      rw [is]
      exact Calm.ite (fun _ => (calm_sendOrder s f _).trans (calm_ltuWithdraw _ f)) fun _ => calm_ltuWithdraw s f
    have queue : f ∉ u.ltu.queue := by
      rw [is]
      split
      · exact ltuWithdraw_queue _ f
      · exact ltuWithdraw_queue _ f
    obtain ⟨record, ltu⟩ := entered.shows (by rw [calm.smp]; exact sighted)
    rw [record, ltu, calm.tables]
    exact ⟨rfl, rfl, rfl, queue⟩
  · have stands : s.fct[f].state ∈ [FeederState.closing, .deadTime, .follow] := by
      revert moves inside isUnknown isOut
      cases s.fct[f].state <;> decide
    obtain ⟨record, ltu⟩ := (waits stands).shows sighted
    rw [record, ltu]
    exact ⟨rfl, rfl, rfl, out⟩

/-- What the position of a report leaves of the protection units, the station trip logic and the recorder. -/
theorem fctPosition_rest (s : State) (f : Feeder) (p : Position) :
    (s.fctPosition f p).fpu = s.fpu ∧ (s.fctPosition f p).stl = s.stl := by
  have quiet {t : State} (h : Quiet s t) : t.fpu = s.fpu ∧ t.stl = s.stl := ⟨h.fpu, h.stl⟩
  unfold State.fctPosition
  split
  · exact quiet (Quiet.after (quiet_blindOnEntry _ f) (Quiet.after (quiet_fctEnter _ f _ _)
      (quiet_modFct s f fun _ => rfl)))
  · exact quiet (quiet_fctEnter s f _ _)
  · exact quiet (Quiet.after (quiet_closedToService _ f) (quiet_modFct s f fun _ => rfl))
  · exact quiet ((quiet_withdrawPending s f).trans (quiet_closedToService _ f))
  · exact quiet ((quiet_withdrawPending s f).trans (quiet_closedToService _ f))
  · exact quiet (quiet_closedToService s f)
  · exact quiet (Quiet.after (quiet_post _ _ _ _ _) (quiet_fctOut s f))
  · have completes := reports_openingCompletes s f
    obtain ⟨fpu, _, stl, _⟩ := dropPhaseBack_rest (s.modFct f fun c => { c with timer := none }) f
    exact ⟨completes.fpu.trans fpu, completes.stl.trans stl⟩
  · exact quiet (quiet_closedToService s f)
  · exact quiet (quiet_examineHolds s f)
  · exact quiet (quiet_closedToService s f)
  · exact quiet (quiet_examineFollow s f)
  · exact ⟨rfl, rfl⟩

/-! ### The report, R52 -/

/-- What feeder f shows at the end of a report that leaves it out of the queue. -/
theorem report_shows {x t : State} {f : Feeder} {before : Vector TestPhase 2} {on : Bool} (out : f ∉ x.ltu.queue)
    (silent : inTest x.fct[f].state = false ∨ on = true ∨
      ∀ (k : TestSlot) (n : Nat) (o : TestOutcome), x.ltu.slot[k] ≠ .release f n (some o))
    (examined : ExaminedIf ((x.ltuContactor before f on).ltu.queue.head? = some f) (x.ltuContactor before f on) t) :
    t.fct[f] = x.fct[f] := by
  obtain ⟨record, queue⟩ := ltuContactor_kept out before silent
  have last : t = x.ltuContactor before f on := examined.2 fun head => queue (List.mem_of_mem_head? head)
  rw [last, record]

/-- What feeder f shows in t after a report with this status, when it is sighted and out of the queue of s. -/
def ReportShown (s t : State) (f : Feeder) (st : BreakerStatus) : Prop :=
  f ∉ s.ltu.queue → s.smp.points[f.val].sighted = true →
    (st.position = .closed →
      (s.fct[f].state ∈ [.unknown, .out, .testWait, .testing, .closing, .deadTime, .follow] →
        t.fct[f].state = .service ∧ t.fct[f].timer = some (400 * s.tables.feeder[f].reclaim) ∧
        t.fct[f].attempts =
          (if s.fct[f].state ∈ [.unknown, .out] then 0 else s.fct[f].attempts)) ∧
      (s.fct[f].state ∈ [.service, .opening, .lockout] → t.fct[f].state = s.fct[f].state ∧
        t.fct[f].timer = s.fct[f].timer ∧ t.fct[f].attempts = s.fct[f].attempts)) ∧
    (st.position = .opened → s.fct[f].state ∈ [.unknown, .service] → t.fct[f].state = .out ∧
      (s.fct[f].state = .service → t.fct[f].attempts = 0)) ∧
    ((st.position = .opened ∧ s.fct[f].state ∈ [.out, .testWait, .testing, .closing, .lockout]) ∨
        (st.position = .travel ∧ s.fct[f].state ∉ [.deadTime, .follow]) →
      s.fct[f].state ∉ [.testWait, .testing] ∨ st.contactor = true ∨
        (∀ (k : TestSlot) (n : Nat) (o : TestOutcome), s.ltu.slot[k] ≠ .release f n (some o)) →
      t.fct[f].state = s.fct[f].state ∧ t.fct[f].timer = s.fct[f].timer)

theorem report_ends {s s1 x t : State} {f : Feeder} {st : BreakerStatus} {before : Vector TestPhase 2}
    (frame : s1 = { s with fct := s1.fct })
    (record : s1.fct[f] = { s.fct[f] with status := some st, supervised := true, supTimer := some 2000 })
    (taken : PositionTaken s1 x f st.position)
    (examined : ExaminedIf ((x.ltuContactor before f st.contactor).ltu.queue.head? = some f)
      (x.ltuContactor before f st.contactor) t) : ReportShown s t f st := by
  intro out sighted
  have state : s1.fct[f].state = s.fct[f].state := by rw [record]
  have timer : s1.fct[f].timer = s.fct[f].timer := by rw [record]
  have attempts : s1.fct[f].attempts = s.fct[f].attempts := by rw [record]
  have out1 : f ∉ s1.ltu.queue := by rw [frame]; exact out
  have sighted1 : s1.smp.points[f.val].sighted = true := by rw [frame]; exact sighted
  have tables : s1.tables = s.tables := by rw [frame]
  have slots : s1.ltu = s.ltu := by rw [frame]
  have stays (same : x = s1) (silent : inTest s.fct[f].state = false ∨ st.contactor = true ∨
      ∀ (k : TestSlot) (n : Nat) (o : TestOutcome), s.ltu.slot[k] ≠ .release f n (some o)) : t.fct[f] = s1.fct[f] := by
    rw [same] at examined
    exact report_shows out1 (by rw [state, slots]; exact silent) examined
  refine ⟨fun closed => ⟨fun moves => ?_, fun rests => ?_⟩, fun opened moves => ?_, fun rests silent => ?_⟩
  · rw [closed] at taken
    obtain ⟨entered, runs, counts, queue⟩ := closed_shows taken out1 sighted1 (by rw [state]; exact moves)
    have last := report_shows queue (Or.inl (by rw [entered]; rfl)) examined
    rw [last, entered, runs, counts, tables, state, attempts]
    exact ⟨rfl, rfl, rfl⟩
  · rw [closed] at taken
    obtain ⟨_, _, _, _, same⟩ := taken
    have last := stays (same (by rw [state]; exact rests)) (Or.inl (by
      revert rests
      cases s.fct[f].state <;> decide))
    rw [last, state, timer, attempts]
    exact ⟨rfl, rfl, rfl⟩
  · rw [opened] at taken
    obtain ⟨unknown, service, _⟩ := taken
    simp only [List.mem_cons, List.not_mem_nil, or_false] at moves
    rcases moves with is | is
    · have left := unknown (state.trans is)
      have shown : x.fct[f] = { outRecord s1.fct[f] with attempts := s1.fct[f].attempts } := by
        rw [left.fct]
        exact Vector.getElem_set_self ..
      have last := report_shows (by rw [left.ltu]; exact out1) (Or.inl (by rw [shown]; rfl)) examined
      rw [last, shown]
      exact ⟨rfl, fun other => absurd (is.symm.trans other) (by decide)⟩
    · have left := service (state.trans is)
      have shown : x.fct[f] = outRecord s1.fct[f] := by
        rw [left.fct]
        exact Vector.getElem_set_self ..
      have last := report_shows (by rw [left.ltu]; exact out1) (Or.inl (by rw [shown]; rfl)) examined
      rw [last, shown]
      exact ⟨rfl, fun _ => rfl⟩
  · have same : x = s1 := by
      rcases rests with ⟨opened, is⟩ | ⟨travel, is⟩
      · rw [opened] at taken
        obtain ⟨_, _, _, _, _, same⟩ := taken
        exact same (by rw [state]; exact is)
      · rw [travel] at taken
        obtain ⟨_, _, same⟩ := taken
        exact same (by rw [state]; exact is)
    have last := stays same (silent.imp_left fun untested =>
      Bool.eq_false_iff.2 fun tests => untested ((inTest_mem _).1 tests))
    rw [last, state, timer]
    exact ⟨rfl, rfl⟩


/-- Settles O34. -/
theorem breakerStatusTaken : Obligations.BreakerStatusTaken := by
  refine ⟨fun s fr forPart => ?_, fun s before f on =>
    ⟨_, contactorTaken s before[0] f on 0, contactorTaken (s.contactorAt before[0] f on 0) before[1] f on 1⟩⟩
  have runs : exec (.breakerStatusFrame fr) s = .next (s.breakerIn fr.src.toNat fr.payload) :=
    receive_forPart forPart (by decide)
  have found (f : Feeder) : (s.tables.feeder[f].inUse && s.tables.feeder[f].breakerNode == some fr.src.toNat) = true ↔
      s.tables.feeder[f].inUse = true ∧ s.tables.feeder[f].breakerNode = some fr.src.toNat := by
    rw [Bool.and_eq_true, beq_iff_eq]
  rw [runs]
  refine ⟨fun absent => ?_, fun f st used node only is => ?_⟩
  · have unknown : s.feederOfNode fr.src.toNat = none := by
      unfold State.feederOfNode
      rw [List.find?_eq_none]
      intro f _ holds
      obtain ⟨used, node⟩ := (found f).1 holds
      exact absent f used node
    unfold State.breakerIn
    rw [unknown]
  have present : s.feederOfNode fr.src.toNat = some f := by
    unfold State.feederOfNode
    cases search : allFeeders.find? fun f =>
        s.tables.feeder[f].inUse && s.tables.feeder[f].breakerNode == some fr.src.toNat with
    | none =>
      rw [List.find?_eq_none] at search
      exact absurd ((found f).2 ⟨used, node⟩) (search f (mem_allFeeders f))
    | some g =>
      have holds := List.find?_some search
      obtain ⟨used', node'⟩ := (found g).1 holds
      rw [only g used' node']
  have status : breakerStatusOf fr.payload = st := by
    rw [is]
    unfold breakerStatusOf byteAt
    rw [positionOf_code]
    rfl
  unfold State.breakerIn
  rw [present]
  dsimp only
  rw [status]
  obtain ⟨g, keeps⟩ : ∃ g : Fct → Fct, g = fun c => { c with
    status := some st, supervised := true, supTimer := some 2000 } := ⟨_, rfl⟩
  obtain ⟨s1, s1_is⟩ : ∃ s1, s1 = s.modFct f g := ⟨_, rfl⟩
  have record : s1.fct[f] = { s.fct[f] with status := some st, supervised := true, supTimer := some 2000 } := by
    rw [s1_is, modFct_self s f g, keeps]
  have others (k : Feeder) (other : k ≠ f) : s1.fct[k] = s.fct[k] := by
    rw [s1_is, modFct_ne s f k g other.symm]
  have frame : s1 = { s with fct := s1.fct } := by rw [s1_is]; rfl
  have taken := positionTaken s1 f st.position
  obtain ⟨x, x_is⟩ : ∃ x, x = s1.fctPosition f st.position := ⟨_, rfl⟩
  obtain ⟨t, t_is⟩ : ∃ t, t = (x.ltuContactor s.ltu.slot f st.contactor).examineFor f := ⟨_, rfl⟩
  have reported : s.breakerReport f st = t := by
    rw [t_is, x_is, s1_is, keeps]
    rfl
  have examined : ExaminedIf ((x.ltuContactor s.ltu.slot f st.contactor).ltu.queue.head? = some f)
      (x.ltuContactor s.ltu.slot f st.contactor) t := by
    rw [t_is]
    exact examinedIf_head (isHead_iff _ f) _
  have calm : Calm s1 t := by
    rw [t_is, x_is]
    exact ((calm_fctPosition s1 f _).trans (calm_ltuContactor _ _ f _)).trans (calm_examineFor _ f)
  have quiet : Quiet x t := by
    rw [t_is]
    exact (quiet_ltuContactor x f _ _).trans (quiet_examineFor _ f)
  rw [← x_is] at taken
  obtain ⟨fpu, stl⟩ := fctPosition_rest s1 f st.position
  rw [← x_is] at fpu stl
  have drc : x.drc = s1.drc := by rw [x_is]; exact fctPosition_drc s1 f _
  have untouched : Untouched s t := by
    refine Untouched.trans ?_ calm.untouched
    rw [frame]
    exact ⟨rfl, rfl, rfl, rfl, rfl, rfl, rfl, rfl, rfl⟩
  obtain ⟨status, supervised, supTimer⟩ := calm.status f
  refine ⟨x, _, t, by rw [reported], ?_, rfl, examined, untouched, ?_, ?_, ?_, fun k other => ?_, ?_, ?_, ?_,
    report_ends frame record taken examined⟩
  · have given : s1 = { s with fct := s.fct.set f { s.fct[f] with
        status := some st, supervised := true, supTimer := some 2000 } } := by
      rw [s1_is, keeps]
      rfl
    rw [← given]
    exact taken
  · rw [quiet.fpu, fpu, frame]
  · rw [quiet.stl, stl, frame]
  · rw [quiet.drc, drc, frame]
  · obtain ⟨status, supervised, supTimer⟩ := calm.status k
    rw [status, supervised, supTimer, others k other]
    exact ⟨rfl, rfl, rfl⟩
  · rw [status, record]
  · rw [supervised, record]
  · rw [supTimer, record]

end Sys2Proof.Machine
end

-- ==== The section coordinator: coupling, handshake and frames sent ====
section
/-!
Coupling and bank of a section, the transfer-trip handshake, and the neighbour frames sent: O40, O41 and O44.
-/

namespace Sys2Proof.Machine
open Sys2Proof

/-! ### Coupling and bank, R107 to R109 -/

theorem farCoupled_eq_any (x : Section) : x.farCoupled = x.far.any SectionEntry.coupled := by
  unfold Section.farCoupled Section.farValue
  cases x.far <;> rfl

theorem farTestEnd_eq_any (x : Section) : x.farTestEnd = x.far.any SectionEntry.testEnd := by
  unfold Section.farTestEnd Section.farValue
  cases x.far <;> rfl

theorem farLineLive_eq_any (x : Section) : x.farLineLive = x.far.any SectionEntry.lineLive := by
  unfold Section.farLineLive Section.farValue
  cases x.far <;> rfl

theorem farBusLive_eq_any (s : State) (f : Feeder) : s.farBusLive f = (s.sco.sect[f].far.isSome &&
    s.sco.link[slotOf s.tables.feeder[f]].last.any NeighbourFrame.busLive) := by
  unfold State.farBusLive
  cases s.sco.link[slotOf s.tables.feeder[f]].last <;> rfl

theorem coordinated_iff (r : FeederRec) : coordinated r = true ↔ r.inUse = true ∧ r.secNo ≠ 0 := by
  simp [coordinated]

theorem neighbourUsed_iff (r : NeighbourRec) : neighbourUsed r = true ↔ r.stationId ≠ 0 := by
  simp [neighbourUsed]

theorem coupledNow_iff (s : State) (f : Feeder) : s.coupledNow f = true ↔
    s.tables.feeder[f].inUse = true ∧ s.tables.feeder[f].secNo ≠ 0 ∧ s.tables.feeder[f].localCoupled = true ∧
      s.tables.neighbour[slotOf s.tables.feeder[f]].stationId ≠ 0 ∧
      s.sco.link[slotOf s.tables.feeder[f]].up = true ∧
      ∃ e, s.sco.sect[f].far = some e ∧ e.coupled = true ∧ e.testEnd ≠ s.tables.feeder[f].testEnd := by
  have ends : (s.sco.sect[f].farCoupled = true ∧ (s.tables.feeder[f].testEnd != s.sco.sect[f].farTestEnd) = true) ↔
      ∃ e, s.sco.sect[f].far = some e ∧ e.coupled = true ∧ e.testEnd ≠ s.tables.feeder[f].testEnd := by
    rw [farCoupled_eq_any, farTestEnd_eq_any, bne_iff_ne]
    cases far : s.sco.sect[f].far with
    | none => simp
    | some e => simp [ne_comm]
  unfold State.coupledNow
  simp only [Bool.and_eq_true]
  rw [coordinated_iff, neighbourUsed_iff, and_assoc, and_assoc, and_assoc, and_assoc, and_assoc, ends]

theorem doubleFedNow_iff (s : State) (f : Feeder) : s.doubleFedNow f = true ↔ s.coupledNow f = true ∧
    (∃ e, s.sco.sect[f].far = some e ∧ e.closed = true) ∧
    ∃ fr, s.sco.link[slotOf s.tables.feeder[f]].last = some fr ∧ fr.busLive = true := by
  unfold State.doubleFedNow
  rw [farClosed_eq_any, farBusLive_eq_any, Bool.and_eq_true, Bool.and_eq_true, Bool.and_eq_true, and_assoc,
    Option.any_eq_true, Option.any_eq_true]
  refine and_congr_right fun _ => ⟨fun ⟨closed, _, live⟩ => ⟨closed, live⟩, fun ⟨closed, live⟩ => ⟨closed, ?_, live⟩⟩
  obtain ⟨e, far, _⟩ := closed
  rw [far]
  rfl

/-- Coupling, double feed and bank of a section evaluated anew, R108 and R109. -/
theorem reports_reevaluate (s : State) (f : Feeder) : Reports (s.modSect f fun x => { x with
      coupled := s.coupledNow f, doubleFed := s.doubleFedNow f, bank := bankFor (s.doubleFedNow f) }) (s.reevaluate f)
    (if s.sco.sect[f].bank ≠ bankFor (s.doubleFedNow f) ∧ coordinated s.tables.feeder[f] = true then
      [(.bankChange, .feeder f, some (bankFor (s.doubleFedNow f)).cause, some (s.tables.feeder[f].secNo : Int))]
    else []) := by
  have changed := reports_changing (reportFree_modSect f fun x => { x with
    coupled := s.coupledNow f, doubleFed := s.doubleFedNow f, bank := bankFor (s.doubleFedNow f) }) (reports_refl s)
  unfold State.reevaluate
  dsimp only
  split
  · exact reports_post changed .bankChange (.feeder f) _ _
  · exact changed

/-- Settles O40. -/
theorem couplingAndBank : Obligations.CouplingAndBank := by
  rintro s f r l x rfl rfl rfl
  refine ⟨_, _, _, coupledNow_iff s f, doubleFedNow_iff s f, rfl, ?_⟩
  have evaluated := reports_reevaluate s f
  have cause : (bankFor (s.doubleFedNow f)).cause = if s.doubleFedNow f = true then .bankA else .bankB := by
    unfold bankFor
    cases s.doubleFedNow f <;> rfl
  rw [cause] at evaluated
  simp only [coordinated_iff] at evaluated
  exact evaluated

/-! ### The transfer-trip handshake, R111 to R119 -/

theorem inFlight_false (h : Handshake) : h.inFlight = false ↔ h.ttReq = false ∧ h.pending = false :=
  Bool.or_eq_false_iff

theorem sourceCause_eq (station : Bool) : some (sourceCause station) =
    if station = true then some Cause.station else some .feeder := by
  cases station <;> rfl

/-- An event of the section after its handshake has changed. -/
theorem reports_modHs_postSection (s : State) (f : Feeder) (g : Handshake → Handshake) (k : EventKind) (c : Option Cause) :
    Reports (s.modHs f g) ((s.modHs f g).postSection f k c)
      [(k, .feeder f, c, some (s.tables.feeder[f].secNo : Int))] := reports_postSection (reports_refl (s.modHs f g)) f k c

/-- A local request by the state of the handshake, R112. -/
theorem ttRequest_uncoupled {s : State} {f : Feeder} (uncoupled : s.sco.sect[f].coupled = false) (station : Bool) :
    s.ttRequest f station = s := if_pos uncoupled

theorem ttRequest_coupled {s : State} {f : Feeder} (coupled : s.sco.sect[f].coupled = true) (station : Bool) :
    s.ttRequest f station =
      if s.sco.sect[f].hs.inFlight = true then
        if s.sco.sect[f].hs.failed = true then
          (s.postSection f .ttFail (some .timeout)).modFct f fun c => { c with ttFailIn := c.ttFailIn + 1 }
        else s
      else if s.sco.sect[f].hs.seenAck = true then
        s.modHs f fun h => { h with pending := true, timer := some (s.ttTicks f), fromStation := station }
      else
        (s.modHs f fun h => { h with ttReq := true, timer := some (s.ttTicks f), fromStation := station }).postSection f
          .ttSent (some (sourceCause station)) := by
  unfold State.ttRequest
  dsimp only
  rw [if_neg (by rw [coupled]; nofun)]

/-- The far TT_ACK set: the local request completes, or the flag is seen (R114). -/
theorem takeFarAck_true (s : State) (f : Feeder) : s.takeFarAck f true =
    s.modHs f fun _ => s.sco.sect[f].hs.takeAck true := by
  unfold State.takeFarAck
  dsimp only
  rw [Bool.not_true, Bool.and_false]
  rfl

/-- The far TT_ACK clear: a pending request is released (R113). -/
theorem takeFarAck_false (s : State) (f : Feeder) : s.takeFarAck f false =
    if s.sco.sect[f].hs.pending = true then
      (s.modHs f fun _ => s.sco.sect[f].hs.takeAck false).postSection f .ttSent
        (some (sourceCause s.sco.sect[f].hs.fromStation))
    else s.modHs f fun _ => s.sco.sect[f].hs.takeAck false := by
  unfold State.takeFarAck
  dsimp only
  rw [Bool.not_false, Bool.and_true]
  rfl

theorem takeAck_completes {h : Handshake} (req : h.ttReq = true) :
    h.takeAck true = { h with ttReq := false, timer := none, failed := false, seenAck := true } := if_pos req

theorem takeAck_seen {h : Handshake} (idle : h.ttReq = false) : h.takeAck true = { h with seenAck := true } := by
  unfold Handshake.takeAck
  rw [idle]
  rfl

theorem takeAck_clear {h : Handshake} (unpending : h.pending = false) :
    h.takeAck false = { h with seenAck := false } := by
  show { h with pending := false, ttReq := h.ttReq || h.pending, seenAck := false } = _
  rw [unpending, Bool.or_false, ← unpending]

theorem takeAck_releases {h : Handshake} (pending : h.pending = true) :
    h.takeAck false = { h with pending := false, ttReq := true, seenAck := false } := by
  show { h with pending := false, ttReq := h.ttReq || h.pending, seenAck := false } = _
  rw [pending, Bool.or_true]

/-- A report newly present, R118. -/
theorem takeStanding_eq (s : State) (f : Feeder) (e : SectionEntry) : s.takeStanding f e =
    if e.ttReq = true ∧ s.sco.sect[f].coupled = true then
      (s.modHs f fun h => { h with seenReq := true, seenAck := e.ttAck, ttAck := true }).postSection f .ttReceived
        (some .standing)
    else s.modHs f fun h => { h with seenReq := e.ttReq, seenAck := e.ttAck } := by
  unfold State.takeStanding
  dsimp only
  cases e.ttReq <;> cases s.sco.sect[f].coupled <;> simp

theorem takeFarReq_true {s : State} {f : Feeder} : s.takeFarReq f true =
    if s.sco.sect[f].hs.seenReq = true then s
    else if s.sco.sect[f].coupled = true then
      ((((s.modHs f fun h => { h with seenReq := true, ttAck := true }).postSection f .ttReceived
        none).takeTransfer f).trigger .transfer (.feeder f))
    else s.modHs f fun h => { h with seenReq := true } := rfl

theorem clearHandshake_eq (s : State) (f : Feeder) (cause : Cause) : s.clearHandshake f cause =
    (if s.sco.sect[f].hs.inFlight = true ∧ s.sco.sect[f].hs.failed = false then
      (s.postSection f .ttFail (some cause)).takeTtFail f else s).modHs f fun _ => Handshake.reset := by
  unfold State.clearHandshake
  simp only [Bool.and_eq_true, Bool.not_eq_true']

/-- Settles O41. -/
theorem transferTripHandshake : Obligations.TransferTripHandshake := by
  rintro s f x h rfl rfl
  refine ⟨fun station => ⟨fun uncoupled => ?_, fun coupled flight => ⟨fun open' => ?_, fun failed => ?_⟩,
      fun coupled idle unpending => ⟨fun seen => ?_, fun unseen => ?_⟩⟩,
    fun req => ?_, fun idle => ?_, fun unpending => ?_, fun pending => ?_, rfl, fun seen => ?_, fun unseen uncoupled => ?_,
    fun unseen coupled => ?_, fun e => ⟨fun req coupled => ?_, fun rests => ?_⟩,
    fun cause => ⟨fun flight open' => ?_, fun rests => ?_⟩⟩
  · exact ttRequest_uncoupled uncoupled station
  · rw [ttRequest_coupled coupled, if_pos ((inFlight_iff _).2 flight), if_neg (by rw [open']; nofun)]
  · rw [ttRequest_coupled coupled, if_pos ((inFlight_iff _).2 flight), if_pos failed]
    exact reports_modFct (reports_postSection (reports_refl s) f .ttFail (some .timeout)) f _
  · have resting := (inFlight_false _).2 ⟨idle, unpending⟩
    rw [ttRequest_coupled coupled, if_neg (by rw [resting]; nofun), if_pos seen]
    rfl
  · have resting := (inFlight_false _).2 ⟨idle, unpending⟩
    rw [ttRequest_coupled coupled, if_neg (by rw [resting]; nofun), if_neg (by rw [unseen]; nofun), sourceCause_eq]
    exact reports_modHs_postSection s f _ .ttSent _
  · rw [takeFarAck_true, takeAck_completes req]
    rfl
  · rw [takeFarAck_true, takeAck_seen idle]
    rfl
  · rw [takeFarAck_false, if_neg (by rw [unpending]; nofun), takeAck_clear unpending]
    rfl
  · rw [takeFarAck_false, if_pos pending, takeAck_releases pending, sourceCause_eq]
    exact reports_modHs_postSection s f _ .ttSent _
  · rw [takeFarReq_true, if_pos seen]
  · rw [takeFarReq_true, if_neg (by rw [unseen]; nofun), if_neg (by rw [uncoupled]; nofun)]
    rfl
  · refine ⟨_, _, reports_modHs_postSection s f (fun h => { h with seenReq := true, ttAck := true }) .ttReceived none,
      rfl, ?_⟩
    rw [takeFarReq_true, if_neg (by rw [unseen]; nofun), if_pos coupled]
    exact reports_trigger (reports_refl _) .transfer (.feeder f)
  · rw [takeStanding_eq, if_pos ⟨req, coupled⟩]
    exact reports_modHs_postSection s f _ .ttReceived _
  · rw [takeStanding_eq, if_neg]
    · rfl
    · rintro ⟨req, coupled⟩
      rcases rests with idle | uncoupled
      · exact absurd (req.symm.trans idle) (by decide)
      · exact absurd (coupled.symm.trans uncoupled) (by decide)
  · refine ⟨_, reports_postSection (reports_refl s) f .ttFail (some cause), ?_⟩
    rw [clearHandshake_eq, if_pos ⟨(inFlight_iff _).2 flight, open'⟩]
    rfl
  · rw [clearHandshake_eq, if_neg]
    · rfl
    · rintro ⟨flight, open'⟩
      rcases rests with failed | idle
      · exact absurd (failed.symm.trans open') (by decide)
      · exact absurd (flight.symm.trans ((inFlight_false _).2 idle)) (by decide)

/-! ### Neighbour frames sent, R100, R101 and R208 -/

theorem linkFrame_eq (s : State) (n : Slot) : s.linkFrame n =
    makeFrame s.rif.node (s.tables.neighbour[n].linkNode.getD 0) 8
      (linkPayload s.tables.neighbour[n].channel s.tables.station.ownId
        (decide (s.rcu.state = .regulating ∨ s.rcu.state = .phaseBack))
        (s.smp.points[20].sighted && decide ((s.tables.station.vBusMin : Int) ≤ s.smp.points[20].last))
        ((allFeeders.filter fun f => s.tables.feeder[f].inUse && s.tables.feeder[f].secNo != 0 &&
            slotOf s.tables.feeder[f] == n).map fun f =>
          { secNo := s.tables.feeder[f].secNo, closed := decide (s.fct[f].state = .service)
            coupled := s.tables.feeder[f].localCoupled, testEnd := s.tables.feeder[f].testEnd
            ttReq := s.sco.sect[f].hs.ttReq, ttAck := s.sco.sect[f].hs.ttAck
            lineLive := s.smp.points[f.val + 10].sighted &&
              decide ((s.tables.feeder[f].vLive : Int) ≤ s.smp.points[f.val + 10].last)
            testActive := decide (s.fct[f].state = .testing) })) := by
  have running : s.rcu.running = decide (s.rcu.state = .regulating ∨ s.rcu.state = .phaseBack) := by
    unfold Rcu.running
    cases s.rcu.state <;> rfl
  have bus : s.busLive = (s.smp.points[20].sighted &&
      decide ((s.tables.station.vBusMin : Int) ≤ s.smp.points[20].last)) := by
    unfold State.busLive State.lost
    rw [Bool.not_not]
    rfl
  have entry (f : Feeder) : s.sectionEntry f =
      { secNo := s.tables.feeder[f].secNo, closed := decide (s.fct[f].state = .service)
        coupled := s.tables.feeder[f].localCoupled, testEnd := s.tables.feeder[f].testEnd
        ttReq := s.sco.sect[f].hs.ttReq, ttAck := s.sco.sect[f].hs.ttAck
        lineLive := s.smp.points[f.val + 10].sighted &&
          decide ((s.tables.feeder[f].vLive : Int) ≤ s.smp.points[f.val + 10].last)
        testActive := decide (s.fct[f].state = .testing) } := by
    unfold State.sectionEntry State.lineLive State.lost
    rw [Bool.not_not]
    rfl
  unfold State.linkFrame
  rw [running, bus, funext entry]
  rfl

/-- The sends of the slots leave everything but the LINK queue, which the frames of s reach. -/
theorem foldl_sendLink (l : List Slot) (s : State) (q : Rif) (node : q.node = s.rif.node) :
    l.foldl State.sendLink { s with rif := q } = { s with rif := l.foldl (fun q n =>
      if s.tables.neighbour[n].stationId = 0 then q else q.putLink n (s.linkFrame n)) q } := by
  induction l generalizing q with
  | nil => rfl
  | cons n rest ih =>
    have frame : State.linkFrame { s with rif := q } n = s.linkFrame n := by
      show makeFrame q.node _ _ _ = _
      rw [node]
      rfl
    have sent : State.sendLink { s with rif := q } n = { s with rif :=
        if s.tables.neighbour[n].stationId = 0 then q else q.putLink n (s.linkFrame n) } := by
      unfold State.sendLink
      rw [frame]
      by_cases unused : s.tables.neighbour[n].stationId = 0
      · rw [if_pos unused, if_neg fun used => (neighbourUsed_iff _).1 used unused]
      · rw [if_neg unused]
        exact if_pos ((neighbourUsed_iff _).2 unused)
    rw [List.foldl_cons, List.foldl_cons, sent, ih]
    split
    · exact node
    · exact node

theorem map_slot_eq_set (q : List LinkEntry) (n : Slot) (e : LinkEntry) (once : (q.map LinkEntry.slot).Nodup) (i : Nat)
    (h : i < q.length) (own : q[i].slot = n) : (q.map fun x => if x.slot == n then e else x) = q.set i e := by
  refine List.ext_getElem (by simp) fun j hj _ => ?_
  rw [List.getElem_map, List.getElem_set]
  have at' : j < q.length := by simpa using hj
  by_cases same : i = j
  · subst same
    rw [if_pos rfl, if_pos (by rw [own]; exact beq_self_eq_true n)]
  · rw [if_neg same, if_neg]
    intro is
    have slots : (q.map LinkEntry.slot)[j]'(by simpa using at') = (q.map LinkEntry.slot)[i]'(by simpa using h) := by
      rw [List.getElem_map, List.getElem_map, own]
      exact eq_of_beq is
    exact same ((List.Nodup.getElem_inj_iff once).1 slots).symm

/-- Settles O44. -/
theorem neighbourFramesSent : Obligations.NeighbourFramesSent := by
  refine ⟨fun s running due => ?_, fun s running early => (due_next running).2 (by omega),
    fun q n fr straps once => ⟨fun i h own => ?_, fun none => ?_⟩⟩
  · refine ((due_next running).1 due).trans ?_
    rw [foldl_sendLink allSlots { s with clock := { s.clock with link := s.clock.link - 40 } } s.rif rfl]
    simp only [linkFrame_eq]
  · have stands : q.linkQ.any (fun x => x.slot == n) = true :=
      List.any_eq_true.2 ⟨q.linkQ[i], List.getElem_mem h, by rw [own]; exact beq_self_eq_true n⟩
    unfold Rif.putLink
    rw [if_neg (by rw [straps]; nofun), if_pos stands, map_slot_eq_set q.linkQ n _ once i h own]
  · have absent : ¬ q.linkQ.any (fun x => x.slot == n) = true := by
      rw [List.any_eq_true]
      rintro ⟨x, mem, is⟩
      exact none x mem (eq_of_beq is)
    unfold Rif.putLink
    rw [if_neg (by rw [straps]; nofun), if_neg absent]

end Sys2Proof.Machine
end

-- ==== A slot of the section coordinator ====
section
/-!
What the steps over the sections of a slot leave of every section, and with it a slot that goes DOWN: O43.
-/

namespace Sys2Proof.Machine
open Sys2Proof

/-! ### The sections of a slot -/

theorem mem_sectionsOf (s : State) (n : Slot) (f : Feeder) : f ∈ sectionsOf s n ↔
    s.tables.feeder[f].inUse = true ∧ s.tables.feeder[f].secNo ≠ 0 ∧ slotOf s.tables.feeder[f] = n := by
  unfold sectionsOf
  rw [List.mem_filter, Bool.and_eq_true, Bool.and_eq_true, decide_eq_true_iff, decide_eq_true_iff, and_assoc]
  exact and_iff_right (mem_allFeeders f)

theorem sectionsOf_nodup (s : State) (n : Slot) : (sectionsOf s n).Nodup :=
  List.Nodup.filter _ (by decide)

/-- The steps over a slot's feeders are steps over its sections, by any state with the same tables. -/
theorem eachOnSlot_eq {s t : State} (tables : t.tables = s.tables) (n : Slot) (g : State → Feeder → State) :
    t.eachOnSlot n g = (sectionsOf s n).foldl g t := by
  have same : t.onSlot n = fun f => s.tables.feeder[f].inUse && decide (s.tables.feeder[f].secNo ≠ 0) &&
      decide (slotOf s.tables.feeder[f] = n) := by
    funext f
    unfold State.onSlot
    rw [tables]
    exact Bool.eq_iff_iff.2 (by simp [coordinated])
  unfold State.eachOnSlot sectionsOf
  rw [same]

theorem reportedSection_eq (s : State) (f : Feeder) : s.sectionView f = reportedSection s f := by
  unfold State.sectionView reportedSection
  dsimp only
  rw [farCoupled_eq_any, farTestEnd_eq_any, farClosed_eq_any, farTesting_eq_any, farLineLive_eq_any, farBusLive_eq_any]

theorem reportSection_eq (old s : State) (f : Feeder) : s.reportSection old f = reportedFrom old s f := by
  unfold State.reportSection reportedFrom
  rw [reportedSection_eq, reportedSection_eq]
  exact ite_not ..

/-! ### Folds over the sections -/

/-- A relation that each step keeps is kept by the fold. -/
theorem foldl_keeps {R : State → State → Prop} (refl : ∀ s, R s s) (trans : ∀ s t u, R s t → R t u → R s u)
    {g : State → Feeder → State} (step : ∀ s f, R s (g s f)) (l : List Feeder) (s : State) : R s (l.foldl g s) := by
  induction l generalizing s with
  | nil => exact refl s
  | cons f rest ih => exact trans s (g s f) _ (step s f) (ih (g s f))

/-- Steps that agree wherever an invariant of theirs holds give the same fold. -/
theorem foldl_congr_of_keeps {P : State → Prop} {g h : State → Feeder → State} (l : List Feeder)
    (agree : ∀ s f, P s → f ∈ l → g s f = h s f ∧ P (g s f)) (s : State) (holds : P s) :
    l.foldl g s = l.foldl h s := by
  induction l generalizing s with
  | nil => rfl
  | cons f rest ih =>
    obtain ⟨same, next⟩ := agree s f holds List.mem_cons_self
    rw [List.foldl_cons, List.foldl_cons, ← same]
    exact ih (fun s k holds mem => agree s k holds (List.mem_cons_of_mem f mem)) _ next

/-- A step for the section of feeder f: the blocks' work, that leaves the other sections and the station trip logic. -/
structure SectionStep (f : Feeder) (s t : State) : Prop where
  calm : Calm s t
  stl : t.stl = s.stl
  others : ∀ k : Feeder, k ≠ f → t.sco.sect[k] = s.sco.sect[k]

theorem SectionStep.trans {f : Feeder} {s t u : State} (h : SectionStep f s t) (k : SectionStep f t u) :
    SectionStep f s u :=
  ⟨h.calm.trans k.calm, k.stl.trans h.stl, fun g other => (k.others g other).trans (h.others g other)⟩

theorem SectionStep.quiet {f : Feeder} {s t : State} (calm : Calm s t) (quiet : Quiet s t) : SectionStep f s t :=
  ⟨calm, quiet.stl, fun k _ => by rw [quiet.sco]⟩

theorem SectionStep.modSect {f : Feeder} {s : State} {g : Section → Section} (calm : Calm s (s.modSect f g)) :
    SectionStep f s (s.modSect f g) := ⟨calm, rfl, fun k other => modSect_ne s f k g other.symm⟩

section
variable {g : State → Feeder → State} (step : ∀ s f, SectionStep f s (g s f))
include step

theorem foldl_sections_calm (l : List Feeder) (s : State) : Calm s (l.foldl g s) :=
  foldl_keeps Calm.refl (fun _ _ _ h k => h.trans k) (fun s f => (step s f).calm) l s

theorem foldl_sections_stl (l : List Feeder) (s : State) : (l.foldl g s).stl = s.stl :=
  foldl_keeps (R := fun s t => t.stl = s.stl) (fun _ => rfl) (fun _ _ _ h k => k.trans h)
    (fun s f => (step s f).stl) l s

theorem foldl_sections_other {f : Feeder} (l : List Feeder) (s : State) (out : f ∉ l) :
    (l.foldl g s).sco.sect[f] = s.sco.sect[f] := by
  induction l generalizing s with
  | nil => rfl
  | cons k rest ih =>
    rw [List.mem_cons, not_or] at out
    exact (ih (g s k) out.2).trans ((step s k).others f out.1)

/-- What the fold shows of a section of the list is what its own step shows, at a state that shows the section as it
was. -/
theorem foldl_sections_at {f : Feeder} (l : List Feeder) (s : State) (mem : f ∈ l) (once : l.Nodup) :
    ∃ x : State, Calm s x ∧ x.sco.sect[f] = s.sco.sect[f] ∧ (l.foldl g s).sco.sect[f] = (g x f).sco.sect[f] := by
  induction l generalizing s with
  | nil => cases mem
  | cons k rest ih =>
    obtain ⟨out, once⟩ := List.nodup_cons.1 once
    by_cases own : f = k
    · subst own
      exact ⟨s, Calm.refl s, rfl, foldl_sections_other step rest _ out⟩
    · obtain ⟨x, calm, same, shows⟩ := ih (g s k) ((List.mem_cons.1 mem).resolve_left own) once
      exact ⟨x, (step s k).calm.trans calm, same.trans ((step s k).others f own), shows⟩

end

/-! ### The steps, R104 and R110 -/

theorem setFar_step (s : State) (f : Feeder) (e : Option SectionEntry) : SectionStep f s (s.setFar f e) :=
  SectionStep.modSect (calm_setFar s f e)

theorem setFar_shows (s : State) (f : Feeder) (e : Option SectionEntry) :
    (s.setFar f e).sco.sect[f] = { s.sco.sect[f] with far := e } := modSect_self s f fun x => { x with far := e }

theorem reevaluate_sco (s : State) (f : Feeder) : (s.reevaluate f).sco = (s.modSect f fun x => { x with
    coupled := s.coupledNow f, doubleFed := s.doubleFedNow f, bank := bankFor (s.doubleFedNow f) }).sco :=
  (reports_reevaluate s f).sco

theorem reevaluate_shows (s : State) (f : Feeder) : (s.reevaluate f).sco.sect[f] = { s.sco.sect[f] with
    coupled := s.coupledNow f, doubleFed := s.doubleFedNow f, bank := bankFor (s.doubleFedNow f) } := by
  rw [reevaluate_sco]
  exact modSect_self s f fun x => { x with
    coupled := s.coupledNow f, doubleFed := s.doubleFedNow f, bank := bankFor (s.doubleFedNow f) }

theorem reevaluate_step (s : State) (f : Feeder) : SectionStep f s (s.reevaluate f) := by
  refine ⟨calm_reevaluate s f, (reports_reevaluate s f).stl, fun k other => ?_⟩
  rw [reevaluate_sco]
  exact modSect_ne s f k (fun x => { x with
    coupled := s.coupledNow f, doubleFed := s.doubleFedNow f, bank := bankFor (s.doubleFedNow f) }) other.symm

theorem reportedFrom_step (old s : State) (f : Feeder) : SectionStep f s (reportedFrom old s f) := by
  rw [← reportSection_eq]
  exact SectionStep.quiet (calm_reportSection s old f) (quiet_reportSection s f old)

theorem reportedFrom_quiet (old s : State) (f : Feeder) : Quiet s (reportedFrom old s f) := by
  rw [← reportSection_eq]
  exact quiet_reportSection s f old

/-- The TT_FAIL report of a cleared request changes no section. -/
theorem clearHandshake_failed_quiet (s : State) (f : Feeder) (cause : Cause) :
    Quiet s (if s.sco.sect[f].hs.inFlight = true ∧ s.sco.sect[f].hs.failed = false then
      (s.postSection f .ttFail (some cause)).takeTtFail f else s) :=
  Quiet.ite (Quiet.after (quiet_takeTtFail _ f) (quiet_post s _ _ _ _)) (Quiet.refl s)

theorem clearHandshake_shows (s : State) (f : Feeder) (cause : Cause) :
    (s.clearHandshake f cause).sco.sect[f] = { s.sco.sect[f] with hs := Handshake.reset } := by
  rw [clearHandshake_eq]
  refine (modSect_self _ f fun x => { x with hs := Handshake.reset }).trans ?_
  rw [(clearHandshake_failed_quiet s f cause).sco]

theorem clearHandshake_step (s : State) (f : Feeder) (cause : Cause) : SectionStep f s (s.clearHandshake f cause) := by
  have quiet := clearHandshake_failed_quiet s f cause
  refine ⟨calm_clearHandshake s f cause, ?_, fun k other => ?_⟩
  · rw [clearHandshake_eq]
    exact quiet.stl
  · rw [clearHandshake_eq]
    refine (modSect_ne _ f k (fun x => { x with hs := Handshake.reset }) other.symm).trans ?_
    rw [quiet.sco]

/-! ### A slot going DOWN, R104 -/

/-- The blocks that a slot going DOWN does not touch. -/
structure BlocksKept (s t : State) : Prop where
  fpu : t.fpu = s.fpu
  rcu : t.rcu = s.rcu
  stl : t.stl = s.stl
  drc : t.drc = s.drc

theorem BlocksKept.refl (s : State) : BlocksKept s s := ⟨rfl, rfl, rfl, rfl⟩

theorem BlocksKept.trans {s t u : State} (h : BlocksKept s t) (k : BlocksKept t u) : BlocksKept s u :=
  ⟨k.fpu.trans h.fpu, k.rcu.trans h.rcu, k.stl.trans h.stl, k.drc.trans h.drc⟩

theorem Quiet.blocks {s t : State} (h : Quiet s t) : BlocksKept s t := ⟨h.fpu, h.rcu, h.stl, h.drc⟩

theorem Reports.blocks {u t : State} {ps : List (EventKind × Subject × Option Cause × Option Int)}
    (h : Reports u t ps) : BlocksKept u t := ⟨h.fpu, h.rcu, h.stl, h.drc⟩

theorem foldl_blocks {g : State → Feeder → State} (step : ∀ s f, BlocksKept s (g s f)) (l : List Feeder) (s : State) :
    BlocksKept s (l.foldl g s) := foldl_keeps BlocksKept.refl (fun _ _ _ h k => h.trans k) step l s

theorem clearHandshake_blocks (s : State) (f : Feeder) (cause : Cause) : BlocksKept s (s.clearHandshake f cause) := by
  rw [clearHandshake_eq]
  obtain ⟨fpu, rcu, stl, drc⟩ := (clearHandshake_failed_quiet s f cause).blocks
  exact ⟨fpu, rcu, stl, drc⟩

theorem reevaluate_blocks (s : State) (f : Feeder) : BlocksKept s (s.reevaluate f) := by
  obtain ⟨fpu, rcu, stl, drc⟩ := (reports_reevaluate s f).blocks
  exact ⟨fpu, rcu, stl, drc⟩

/-- The newest record after a post. -/
theorem newest_post (s : State) (k : EventKind) (x : Subject) (c : Option Cause) (v : Option Int) :
    Newest (s.post k x c v) k x c v := by
  refine ⟨s.evr.nextSeq, ?_⟩
  rw [post_evr]
  exact List.getLast?_concat ..

/-- The five states of a slot going DOWN. -/
theorem linkDown_eq (s : State) (n : Slot) (cause : Cause) : ∃ s1 s2 s3 s5 : State,
    Reports (s.modLink n fun x =>
      { up := false, timer := none, last := if cause = .settings then none else x.last }) s1 [] ∧
    s2 = (sectionsOf s n).foldl (fun x f => x.clearHandshake f .link) s1 ∧
    s3 = (sectionsOf s n).foldl (fun x f => x.setFar f none) s2 ∧
    s5 = (sectionsOf s n).foldl (fun x f => reportedFrom s x f) ((sectionsOf s n).foldl State.reevaluate s3) ∧
    s.linkDown n cause =
      s5.post .linkDown (.slot n) (some cause) (some (s.tables.neighbour[n].stationId : Int)) := by
  have down := reports_changing (reportFree_modLink n fun x =>
    { up := false, timer := none, last := if cause = .settings then none else x.last }) (reports_refl s)
  refine ⟨_, _, _, _, down, rfl, rfl, rfl, ?_⟩
  obtain ⟨s1, s1_is⟩ : ∃ s1, s1 = s.changing fun s => s.modLink n fun x =>
    { up := false, timer := none, last := if cause = .settings then none else x.last } := ⟨_, rfl⟩
  have tables1 : s1.tables = s.tables := by rw [s1_is, changing_tables]; rfl
  have tables2 : ((sectionsOf s n).foldl (fun x f => x.clearHandshake f .link) s1).tables = s.tables :=
    (foldl_sections_calm (fun s f => clearHandshake_step s f .link) _ s1).tables.trans tables1
  have tables3 := (foldl_sections_calm (fun s f => setFar_step s f none) (sectionsOf s n)
    ((sectionsOf s n).foldl (fun x f => x.clearHandshake f .link) s1)).tables.trans tables2
  have tables4 := (foldl_sections_calm reevaluate_step (sectionsOf s n) _).tables.trans tables3
  unfold State.linkDown
  dsimp only
  rw [← s1_is, eachOnSlot_eq tables1, eachOnSlot_eq tables2, eachOnSlot_eq tables3, eachOnSlot_eq tables4]
  simp only [reportSection_eq]

/-- What setting the far-end reports of a slot's sections leaves. -/
theorem foldl_setFar (far : Feeder → Option SectionEntry) (l : List Feeder) (once : l.Nodup) (s : State) :
    l.foldl (fun x f => x.setFar f (far f)) s = { s with
      sco := { s.sco with sect := (l.foldl (fun x f => x.setFar f (far f)) s).sco.sect } } ∧
    ∀ f : Feeder, (l.foldl (fun x f => x.setFar f (far f)) s).sco.sect[f] =
      if f ∈ l then { s.sco.sect[f] with far := far f } else s.sco.sect[f] := by
  refine ⟨?_, fun f => ?_⟩
  · clear once
    induction l generalizing s with
    | nil => rfl
    | cons f rest ih =>
      have later := ih (s.setFar f (far f))
      exact later
  · split
    next mem =>
      obtain ⟨x, _, same, shows⟩ := foldl_sections_at (fun s f => setFar_step s f (far f)) l s mem once
      rw [shows, setFar_shows, same]
    next out => exact foldl_sections_other (fun s f => setFar_step s f (far f)) l s out

theorem linkDown_down (s : State) (n : Slot) (cause : Cause) : SlotDown s (s.linkDown n cause) n cause
    (if cause = .settings then none else s.sco.link[n].last) := by
  obtain ⟨s1, s2, s3, s5, down, s2_is, s3_is, s5_is, ends⟩ := linkDown_eq s n cause
  obtain ⟨frame, shows⟩ := foldl_setFar (fun _ => none) (sectionsOf s n) (sectionsOf_nodup s n) s2
  rw [← s3_is] at frame shows
  refine ⟨s1, s2, s3, down, s2_is, frame, shows, ?_⟩
  rw [ends, ← s5_is]
  exact reports_post (reports_refl s5) _ _ _ _

/-- What is untouched after a change of one slot is untouched but for the slots. -/
theorem untouched_apartLink {s t : State} {n : Slot} {g : LinkState → LinkState} (h : Untouched (s.modLink n g) t) :
    Untouched s { t with sco := { t.sco with link := s.sco.link } } := by
  obtain ⟨phase, pending, clock, tables, smp, mga, _, ms, rif⟩ := h
  exact ⟨phase, pending, clock, tables, smp, mga, rfl, ms, rif⟩

/-- A section after its slot has gone DOWN. -/
def silentSection : Section :=
  { far := none, coupled := false, doubleFed := false, bank := .b, hs := Handshake.reset }

/-- What a slot that has gone DOWN shows. -/
theorem linkDown_shows (s : State) (n : Slot) (cause : Cause) :
    (s.linkDown n cause).sco.link = s.sco.link.set n
      { up := false, timer := none, last := if cause = .settings then none else s.sco.link[n].last } ∧
    (∀ f : Feeder, (s.linkDown n cause).sco.sect[f] =
      if f ∈ sectionsOf s n then silentSection else s.sco.sect[f]) ∧
    Untouched s { s.linkDown n cause with sco := { (s.linkDown n cause).sco with link := s.sco.link } } ∧
    BlocksKept s (s.linkDown n cause) := by
  obtain ⟨s1, s2, s3, s5, down, s2_is, s3_is, s5_is, ends⟩ := linkDown_eq s n cause
  have once := sectionsOf_nodup s n
  have clears : ∀ s f, SectionStep f s (State.clearHandshake s f .link) := fun s f => clearHandshake_step s f .link
  have fars : ∀ s f, SectionStep f s (State.setFar s f none) := fun s f => setFar_step s f none
  have reports : ∀ x f, SectionStep f x (reportedFrom s x f) := reportedFrom_step s
  have calm12 : Calm s1 s2 := by rw [s2_is]; exact foldl_sections_calm clears _ s1
  have calm23 : Calm s2 s3 := by rw [s3_is]; exact foldl_sections_calm fars _ s2
  have calm34 : Calm s3 ((sectionsOf s n).foldl State.reevaluate s3) := foldl_sections_calm reevaluate_step _ s3
  have calm45 : Calm ((sectionsOf s n).foldl State.reevaluate s3) s5 := by
    rw [s5_is]; exact foldl_sections_calm reports _ _
  have calm : Calm s1 (s.linkDown n cause) := by
    rw [ends]
    exact (((calm12.trans calm23).trans calm34).trans calm45).trans (calm_post _ _ _ _ _)
  have quiet45 : Quiet ((sectionsOf s n).foldl State.reevaluate s3) s5 := by
    rw [s5_is]
    exact quiet_foldl _ _ (fun x f => reportedFrom_quiet s x f) _
  refine ⟨?_, fun f => ?_, ?_, ?_⟩
  · rw [calm.link, down.sco]
    rfl
  · rw [ends, post_sco, quiet45.sco]
    have before : s1.sco.sect = s.sco.sect := by rw [down.sco]; rfl
    split
    next mem =>
      obtain ⟨x, _, same1, cleared⟩ := foldl_sections_at clears _ s1 mem once
      obtain ⟨y, _, same2, emptied⟩ := foldl_sections_at fars _ s2 mem once
      obtain ⟨z, _, same3, evaluated⟩ := foldl_sections_at reevaluate_step _ s3 mem once
      rw [← s2_is] at cleared
      rw [← s3_is] at emptied
      rw [clearHandshake_shows] at cleared
      rw [setFar_shows, same2, cleared] at emptied
      have far : z.sco.sect[f].far = none := by rw [same3, emptied]
      have hs : z.sco.sect[f].hs = Handshake.reset := by rw [same3, emptied]
      have uncoupled : z.coupledNow f = false := Bool.eq_false_iff.2 fun is => by
        obtain ⟨_, _, _, _, _, e, present, _⟩ := (coupledNow_iff z f).1 is
        rw [far] at present
        cases present
      have single : z.doubleFedNow f = false := Bool.eq_false_iff.2 fun is =>
        absurd ((doubleFedNow_iff z f).1 is).1 (by rw [uncoupled]; nofun)
      rw [evaluated, reevaluate_shows, uncoupled, single]
      dsimp only
      rw [far, hs]
      rfl
    next out =>
      rw [foldl_sections_other reevaluate_step _ _ out, s3_is, foldl_sections_other fars _ _ out, s2_is,
        foldl_sections_other clears _ _ out, before]
  · exact untouched_apartLink (down.untouched.trans calm.untouched)
  · have blocks12 : BlocksKept s1 s2 := by
      rw [s2_is]; exact foldl_blocks (fun s f => clearHandshake_blocks s f .link) _ s1
    have blocks23 : BlocksKept s2 s3 := by
      rw [s3_is]; exact foldl_blocks (g := fun x f => x.setFar f none) (fun _ _ => ⟨rfl, rfl, rfl, rfl⟩) _ s2
    have blocks34 : BlocksKept s3 ((sectionsOf s n).foldl State.reevaluate s3) := foldl_blocks reevaluate_blocks _ s3
    have posted : BlocksKept s5 (s.linkDown n cause) := by
      rw [ends]
      exact (quiet_post s5 _ _ _ _).blocks
    have first : BlocksKept s s1 := by
      obtain ⟨fpu, rcu, stl, drc⟩ := down.blocks
      exact ⟨fpu, rcu, stl, drc⟩
    exact ((((first.trans blocks12).trans blocks23).trans blocks34).trans quiet45.blocks).trans posted

/-- Settles O43. -/
theorem linkTimerExpires : Obligations.LinkTimerExpires := by
  refine fun s n running => ⟨fun early => (due_next running).2 ?_, fun up due => ?_⟩
  · rw [Bool.and_eq_true, ranOut_iff]
    exact early
  · obtain ⟨link, sections, untouched, fpu, rcu, stl, drc⟩ := linkDown_shows s n .timeout
    refine ⟨s.linkDown n .timeout, (due_next running).1 ?_, linkDown_down s n .timeout, link, fun f => ?_, ?_, untouched,
      fpu, rcu, stl, drc⟩
    · rw [Bool.and_eq_true, ranOut_iff]
      exact ⟨up, due⟩
    · rw [sections]
      simp only [mem_sectionsOf]
      rfl
    · obtain ⟨_, _, _, s5, _, _, _, _, ends⟩ := linkDown_eq s n .timeout
      rw [ends]
      exact newest_post s5 _ _ _ _

end Sys2Proof.Machine
end

-- ==== An accepted neighbour frame ====
section
/-!
The steps of R110 for a slot of the section coordinator, and what the controller and the line test unit do with a
reported section: O42.
-/

namespace Sys2Proof.Machine
open Sys2Proof

/-! ### A trip without a report leaves the sections and the station trip logic -/

/-- The blocks that no trip without a report touches. -/
structure CoordKept (s t : State) : Prop where
  sco : t.sco = s.sco
  stl : t.stl = s.stl

theorem CoordKept.refl (s : State) : CoordKept s s := ⟨rfl, rfl⟩

theorem CoordKept.trans {s t u : State} (h : CoordKept s t) (k : CoordKept t u) : CoordKept s u :=
  ⟨k.sco.trans h.sco, k.stl.trans h.stl⟩

theorem Quiet.coord {s t : State} (h : Quiet s t) : CoordKept s t := ⟨h.sco, h.stl⟩

theorem Reports.coord {u t : State} {ps : List (EventKind × Subject × Option Cause × Option Int)}
    (h : Reports u t ps) : CoordKept u t := ⟨h.sco, h.stl⟩

/-- What a trip without a report leaves: outside PHASE_BACK the rectifier but for requests withdrawn. -/
structure TripKept (s t : State) : Prop where
  coord : CoordKept s t
  drc : t.drc = s.drc
  rcu : s.rcu.state ≠ .phaseBack → ∃ set : Vector Bool 10, t.rcu = { s.rcu with pbSet := set } ∧
    ∀ k : Feeder, s.rcu.pbSet[k] = false → set[k] = false

theorem TripKept.of_blocks {s t : State} (coord : CoordKept s t) (drc : t.drc = s.drc) (rcu : t.rcu = s.rcu) :
    TripKept s t := ⟨coord, drc, fun _ => ⟨s.rcu.pbSet, rcu, fun _ low => low⟩⟩

theorem TripKept.trans {s t u : State} (h : TripKept s t) (k : TripKept t u) : TripKept s u := by
  refine ⟨h.coord.trans k.coord, k.drc.trans h.drc, fun unphased => ?_⟩
  obtain ⟨set1, is1, low1⟩ := h.rcu unphased
  obtain ⟨set2, is2, low2⟩ := k.rcu (by rw [is1]; exact unphased)
  refine ⟨set2, by rw [is2, is1], fun g low => low2 g ?_⟩
  rw [is1]
  exact low1 g low

theorem Quiet.tripKept {s t : State} (h : Quiet s t) : TripKept s t := .of_blocks h.coord h.drc h.rcu

theorem TripKept.refl (s : State) : TripKept s s := (Quiet.refl s).tripKept

theorem Reports.tripKept {u t : State} {ps : List (EventKind × Subject × Option Cause × Option Int)}
    (h : Reports u t ps) : TripKept u t := .of_blocks h.coord h.drc h.rcu

theorem fct_kept (s : State) (v : Vector Fct 10) : TripKept s { s with fct := v } :=
  .of_blocks ⟨rfl, rfl⟩ rfl rfl

theorem tripHands_kept (s : State) (f : Feeder) (c : Cause) : TripKept s (s.tripHands f c none) := by
  have order := quiet_sendOrder s f (if s.fct[f].state = .testing then .testOff else .opened)
  have hands := reports_tripHands_none s f c
  exact .of_blocks ⟨hands.sco.trans order.sco, hands.stl.trans order.stl⟩ (hands.drc.trans order.drc)
    (hands.rcu.trans order.rcu)

theorem phaseBackWithdraw_kept (s : State) (f : Feeder) : TripKept s (s.phaseBackWithdraw f) := by
  obtain ⟨_, _, sco, stl, _⟩ := phaseBackWithdraw_rest s f
  refine ⟨⟨sco, stl⟩, phaseBackWithdraw_drc s f, fun unphased => ?_⟩
  have stays : s.phaseBackWithdraw f = { s with rcu := { s.rcu with pbSet := s.rcu.pbSet.set f false } } :=
    if_neg fun is => unphased is.1
  refine ⟨s.rcu.pbSet.set f false, by rw [stays], fun k low => ?_⟩
  show (s.rcu.pbSet.set f.val false)[k.val] = false
  rw [Vector.getElem_set]
  exact ite_eq_left_iff.2 fun _ => low

theorem dropPhaseBack_kept (s : State) (f : Feeder) : TripKept s (s.dropPhaseBack f) := by
  cases raised : s.fct[f].pbRaised with
  | true =>
    rw [dropPhaseBack_raised raised]
    exact (fct_kept s _).trans (phaseBackWithdraw_kept (s.modFct f fun c => { c with pbRaised := false }) f)
  | false =>
    rw [dropPhaseBack_lowered raised]
    exact TripKept.refl s

theorem openingCompletes_kept (s : State) (f : Feeder) : TripKept s (s.openingCompletes f) := by
  have dropped := dropPhaseBack_kept (s.modFct f fun c => { c with timer := none }) f
  exact (((fct_kept s _).trans dropped).trans (fct_kept _ _)).trans (reports_openingCompletes s f).tripKept

theorem trip_kept (s : State) (f : Feeder) (c : Cause) : TripKept s (s.trip f c none) := by
  have hands := tripHands_kept s f c
  by_cases locked : s.fct[f].state = .lockout
  · rw [trip_lockout locked]
    exact hands
  by_cases tested : s.fct[f].state = .testing
  · rw [trip_tested tested]
    exact ((hands.trans (quiet_ltuWithdraw _ f).tripKept).trans (quiet_toOpening _ f c false).tripKept).trans
      (openingCompletes_kept _ f)
  · rw [trip_opens tested locked]
    split
    · exact (hands.trans (quiet_toOpening _ f c false).tripKept).trans (openingCompletes_kept _ f)
    · exact hands.trans (quiet_toOpening _ f c true).tripKept

theorem takeTransfer_coord (s : State) (f : Feeder) : CoordKept s (s.takeTransfer f) := by
  unfold State.takeTransfer
  split
  · exact (trip_kept s f .transfer).coord
  · exact CoordKept.refl s

/-! ### Steps that change the handshake of a section only -/

/-- Every section as it was but for its handshake. -/
def HandshakesOnly (s t : State) : Prop := ∀ k : Feeder, ∃ h, t.sco.sect[k] = { s.sco.sect[k] with hs := h }

theorem HandshakesOnly.refl (s : State) : HandshakesOnly s s := fun _ => ⟨_, rfl⟩

theorem HandshakesOnly.trans {s t u : State} (h : HandshakesOnly s t) (k : HandshakesOnly t u) :
    HandshakesOnly s u := fun f => by
  obtain ⟨h1, is1⟩ := h f
  obtain ⟨h2, is2⟩ := k f
  exact ⟨h2, by rw [is2, is1]⟩

theorem HandshakesOnly.far {s t : State} (h : HandshakesOnly s t) (f : Feeder) :
    t.sco.sect[f].far = s.sco.sect[f].far := by
  obtain ⟨_, is⟩ := h f
  rw [is]

/-- A step of the handshake of the section of feeder f, that leaves the other sections and the station trip logic. -/
structure HandshakeStep (f : Feeder) (s t : State) : Prop where
  stl : t.stl = s.stl
  others : ∀ k : Feeder, k ≠ f → t.sco.sect[k] = s.sco.sect[k]
  own : ∃ h, t.sco.sect[f] = { s.sco.sect[f] with hs := h }

theorem HandshakeStep.section {f : Feeder} {s t : State} (calm : Calm s t) (h : HandshakeStep f s t) :
    SectionStep f s t := ⟨calm, h.stl, h.others⟩

theorem HandshakeStep.only {f : Feeder} {s t : State} (h : HandshakeStep f s t) : HandshakesOnly s t := fun k => by
  by_cases is : k = f
  · rw [is]
    exact h.own
  · exact ⟨_, h.others k is⟩

theorem HandshakeStep.refl (f : Feeder) (s : State) : HandshakeStep f s s := ⟨rfl, fun _ _ => rfl, _, rfl⟩

theorem HandshakeStep.trans {f : Feeder} {s t u : State} (h : HandshakeStep f s t) (k : HandshakeStep f t u) :
    HandshakeStep f s u := by
  obtain ⟨h1, is1⟩ := h.own
  obtain ⟨h2, is2⟩ := k.own
  exact ⟨k.stl.trans h.stl, fun g other => (k.others g other).trans (h.others g other), h2, by rw [is2, is1]⟩

theorem CoordKept.handshake {s t : State} (f : Feeder) (h : CoordKept s t) : HandshakeStep f s t :=
  ⟨h.stl, fun k _ => by rw [h.sco], _, by rw [h.sco]⟩

theorem modHs_handshake (s : State) (f : Feeder) (g : Handshake → Handshake) : HandshakeStep f s (s.modHs f g) :=
  ⟨rfl, fun k other => modSect_ne s f k (fun x => { x with hs := g x.hs }) other.symm, g s.sco.sect[f].hs,
    modSect_self s f fun x => { x with hs := g x.hs }⟩

theorem postSection_handshake (s : State) (f : Feeder) (k : EventKind) (c : Option Cause) :
    HandshakeStep f s (s.postSection f k c) := (quiet_post s _ _ _ _).coord.handshake f

theorem clearHandshake_handshake (s : State) (f : Feeder) (c : Cause) : HandshakeStep f s (s.clearHandshake f c) :=
  ⟨(clearHandshake_step s f c).stl, (clearHandshake_step s f c).others, _, clearHandshake_shows s f c⟩

theorem takeStanding_handshake (s : State) (f : Feeder) (e : SectionEntry) :
    HandshakeStep f s (s.takeStanding f e) := by
  rw [takeStanding_eq]
  split
  · exact (modHs_handshake s f _).trans (postSection_handshake _ f _ _)
  · exact modHs_handshake s f _

theorem takeFarAck_handshake (s : State) (f : Feeder) (ack : Bool) : HandshakeStep f s (s.takeFarAck f ack) := by
  cases ack with
  | true =>
    rw [takeFarAck_true]
    exact modHs_handshake s f _
  | false =>
    rw [takeFarAck_false]
    split
    · exact (modHs_handshake s f _).trans (postSection_handshake _ f _ _)
    · exact modHs_handshake s f _

theorem trigger_coord (s : State) (c : Cause) (x : Subject) : CoordKept s (s.trigger c x) := by
  obtain ⟨sco, stl⟩ := (reports_trigger (reports_refl s) c x).coord
  exact ⟨sco, stl⟩

theorem takeFarReq_handshake (s : State) (f : Feeder) (req : Bool) : HandshakeStep f s (s.takeFarReq f req) := by
  cases req with
  | false => exact modHs_handshake s f fun h => { h with seenReq := false, ttAck := false }
  | true =>
    rw [takeFarReq_true]
    split
    · exact HandshakeStep.refl f s
    split
    · have received := (modHs_handshake s f fun h => { h with seenReq := true, ttAck := true }).trans
        (postSection_handshake _ f .ttReceived none)
      exact received.trans (((takeTransfer_coord _ f).trans (trigger_coord _ .transfer (.feeder f))).handshake f)
    · exact modHs_handshake s f _

/-- The far flags of a section taken, R110 step 4. -/
theorem advance_handshake (s old : State) (f : Feeder) : HandshakeStep f s (s.advance old f) := by
  unfold State.advance
  split
  · exact HandshakeStep.refl f s
  split
  · exact takeStanding_handshake s f _
  · exact (takeFarAck_handshake s f _).trans (takeFarReq_handshake _ f _)

theorem clearUnlisted_handshake (s old : State) (f : Feeder) : HandshakeStep f s (s.clearUnlisted old f) := by
  unfold State.clearUnlisted
  split
  · exact clearHandshake_handshake s f .removed
  · exact HandshakeStep.refl f s

/-! ### The steps of an accepted frame, R102 and R110 -/

/-- The link state of a slot that is UP, R102. -/
def upState (s : State) (n : Slot) (x : LinkState) : LinkState :=
  { x with up := true, timer := some (msTicks s.tables.neighbour[n].tLink) }

theorem reports_linkAccept (s : State) (n : Slot) : Reports (s.modLink n (upState s n)) (s.linkAccept n)
    (if s.sco.link[n].up = true then []
      else [(.linkUp, .slot n, none, some (s.tables.neighbour[n].stationId : Int))]) := by
  have up := reports_changing (reportFree_modLink n (upState s n)) (reports_refl s)
  unfold State.linkAccept
  dsimp only
  split
  · exact up
  · exact reports_post up _ _ _ _

/-- The slots after the acceptance and the keeping of the frame. -/
theorem accepted_link (s : State) (n : Slot) (fr : NeighbourFrame) :
    ((s.linkAccept n).modLink n fun x => { x with last := some fr }).sco.link =
      s.sco.link.set n (upState s n { s.sco.link[n] with last := some fr }) := by
  have up : (s.linkAccept n).sco.link = s.sco.link.set n (upState s n s.sco.link[n]) :=
    (congrArg Sco.link (reports_linkAccept s n).sco :)
  show (s.linkAccept n).sco.link.set n { (s.linkAccept n).sco.link[n] with last := some fr } = _
  rw [up, Vector.set_set]
  congr 1
  show { (s.sco.link.set n (upState s n s.sco.link[n]))[n.val] with last := some fr } = _
  rw [Vector.getElem_set_self]
  rfl

/-- A frame accepted is the five steps of R110, each over the sections of the slot. -/
theorem acceptFrame_eq (s : State) (n : Slot) (fr : NeighbourFrame) : ∃ s2 s3 s4 s5 : State,
    s2 = (sectionsOf s n).foldl (fun x f => x.setFar f (farEntry fr s.tables.feeder[f].secNo))
      ((s.linkAccept n).modLink n fun x => { x with last := some fr }) ∧
    s3 = (sectionsOf s n).foldl (fun x f => x.clearUnlisted s f) s2 ∧
    s4 = (sectionsOf s n).foldl State.reevaluate s3 ∧
    s5 = (sectionsOf s n).foldl (fun x f => x.advance s f) s4 ∧
    s.acceptFrame n fr = (sectionsOf s n).foldl (fun x f => reportedFrom s x f) s5 := by
  have tables1 : (s.linkAccept n).tables = s.tables := (reports_linkAccept s n).tables
  obtain ⟨s2, s2_is⟩ : ∃ s2, s2 = (sectionsOf s n).foldl (fun x f => x.setFar f (farEntry fr s.tables.feeder[f].secNo))
    ((s.linkAccept n).modLink n fun x => { x with last := some fr }) := ⟨_, rfl⟩
  have far : ((s.linkAccept n).modLink n fun x => { x with last := some fr }).eachOnSlot n
      (fun s f => s.setFar f (farEntry fr s.tables.feeder[f].secNo)) = s2 := by
    have tables : ((s.linkAccept n).modLink n fun x => { x with last := some fr }).tables = s.tables := tables1
    rw [s2_is, eachOnSlot_eq tables]
    refine foldl_congr_of_keeps (P := fun x => x.tables = s.tables) _ ?_ _ tables
    intro x f same _
    exact ⟨by rw [same], same⟩
  have tables2 : s2.tables = s.tables := by
    rw [s2_is]
    exact (foldl_sections_calm (fun x f => setFar_step x f (farEntry fr s.tables.feeder[f].secNo)) _ _).tables.trans tables1
  have clears := fun x f => (clearUnlisted_handshake x s f).section (calm_clearUnlisted x s f)
  have advances := fun x f => (advance_handshake x s f).section (calm_advance x s f)
  have tables3 := (foldl_sections_calm clears (sectionsOf s n) s2).tables.trans tables2
  have tables4 := (foldl_sections_calm reevaluate_step (sectionsOf s n) _).tables.trans tables3
  have tables5 := (foldl_sections_calm advances (sectionsOf s n) _).tables.trans tables4
  refine ⟨s2, _, _, _, s2_is, rfl, rfl, rfl, ?_⟩
  unfold State.acceptFrame
  dsimp only
  rw [far, eachOnSlot_eq tables2, eachOnSlot_eq tables3, eachOnSlot_eq tables4, eachOnSlot_eq tables5]
  simp only [reportSection_eq]

/-- Untouched but for the states of the slots. -/
def ApartLink (s t : State) : Prop := Untouched s { t with sco := { t.sco with link := s.sco.link } }

theorem apartLink_modLink (s : State) (n : Slot) (g : LinkState → LinkState) : ApartLink s (s.modLink n g) :=
  ⟨rfl, rfl, rfl, rfl, rfl, rfl, rfl, rfl, rfl⟩

theorem ApartLink.trans {s t u : State} (h : ApartLink s t) (k : ApartLink t u) : ApartLink s u := by
  obtain ⟨phase, pending, clock, tables, smp, mga, _, ms, rif⟩ := h
  obtain ⟨phase', pending', clock', tables', smp', mga', _, ms', rif'⟩ := k
  exact ⟨phase'.trans phase, pending'.trans pending, clock'.trans clock, tables'.trans tables, smp'.trans smp,
    mga'.trans mga, rfl, ms'.trans ms, by rw [rif', rif]⟩

theorem Untouched.apartLink {s t : State} (h : Untouched s t) : ApartLink s t := by
  obtain ⟨phase, pending, clock, tables, smp, mga, _, ms, rif⟩ := h
  exact ⟨phase, pending, clock, tables, smp, mga, rfl, ms, rif⟩

theorem foldl_handshakesOnly {g : State → Feeder → State} (step : ∀ s f, HandshakeStep f s (g s f)) (l : List Feeder)
    (s : State) : HandshakesOnly s (l.foldl g s) :=
  foldl_keeps HandshakesOnly.refl (fun _ _ _ h k => h.trans k) (fun s f => (step s f).only) l s

theorem farEntry_eq (fr : NeighbourFrame) (secNo : Nat) :
    farEntry fr secNo = (fr.entries.take 10).find? fun e => decide (e.secNo = secNo) := rfl

/-- The clearing of an unlisted section, read off the reports as the frame has brought them. -/
theorem foldl_clearUnlisted (s s2 : State) (l : List Feeder) : l.foldl (fun x f => x.clearUnlisted s f) s2 =
    l.foldl (fun y f => if s.sco.sect[f].far.isSome = true ∧ s2.sco.sect[f].far.isNone = true then
      y.clearHandshake f .removed else y) s2 := by
  refine foldl_congr_of_keeps (P := fun x => HandshakesOnly s2 x) l ?_ s2 (HandshakesOnly.refl s2)
  intro x f same _
  refine ⟨?_, same.trans (clearUnlisted_handshake x s f).only⟩
  unfold State.clearUnlisted
  rw [same.far f]
  exact if_congr (Bool.and_eq_true _ _ ▸ Iff.rfl) rfl rfl

/-- The advance of a section by the report that the frame has brought. -/
theorem foldl_advance (s s2 s4 : State) (l : List Feeder)
    (far : ∀ f : Feeder, s4.sco.sect[f].far = s2.sco.sect[f].far) :
    l.foldl (fun x f => x.advance s f) s4 = l.foldl (fun y f => match s2.sco.sect[f].far with
      | none => y
      | some e => if s.sco.sect[f].far.isNone = true then y.takeStanding f e
        else (y.takeFarAck f e.ttAck).takeFarReq f e.ttReq) s4 := by
  refine foldl_congr_of_keeps (P := fun x => HandshakesOnly s4 x) l ?_ s4 (HandshakesOnly.refl s4)
  intro x f same _
  refine ⟨?_, same.trans (advance_handshake x s f).only⟩
  have now : x.sco.sect[f].far = s2.sco.sect[f].far := (same.far f).trans (far f)
  unfold State.advance
  generalize x.sco.sect[f].far = report at now ⊢
  subst now
  cases s2.sco.sect[f].far <;> rfl

/-- What re-evaluation gives a section of the list: its own coupling, read at a state with the same slots and the same
report. -/
theorem foldl_reevaluate_at {l : List Feeder} (once : l.Nodup) {f : Feeder} (mem : f ∈ l) (s : State) :
    ∃ x : State, Calm s x ∧ x.sco.sect[f] = s.sco.sect[f] ∧
      (l.foldl State.reevaluate s).sco.sect[f] = { s.sco.sect[f] with
        coupled := x.coupledNow f, doubleFed := x.doubleFedNow f, bank := bankFor (x.doubleFedNow f) } := by
  obtain ⟨x, calm, same, shows⟩ := foldl_sections_at reevaluate_step l s mem once
  refine ⟨x, calm, same, ?_⟩
  rw [shows, reevaluate_shows, same]

theorem foldl_reevaluate_far (l : List Feeder) (s : State) (f : Feeder) :
    (l.foldl State.reevaluate s).sco.sect[f].far = s.sco.sect[f].far := by
  refine foldl_keeps (R := fun s t => t.sco.sect[f].far = s.sco.sect[f].far) (fun _ => rfl)
    (fun _ _ _ h k => k.trans h) (fun s g => ?_) l s
  by_cases is : f = g
  · subst is
    rw [reevaluate_shows]
  · rw [(reevaluate_step s g).others f is]

/-- What an accepted frame of a used slot leaves, R102, R103 and R107 to R109. -/
structure FrameShown (s t : State) (n : Slot) (fr : NeighbourFrame) : Prop where
  link : t.sco.link = s.sco.link.set n (upState s n { s.sco.link[n] with last := some fr })
  rest : ApartLink s t
  stl : t.stl = s.stl
  other : ∀ f : Feeder, f ∉ sectionsOf s n → t.sco.sect[f] = s.sco.sect[f]
  own : ∀ f : Feeder, f ∈ sectionsOf s n →
    t.sco.sect[f].far = farEntry fr s.tables.feeder[f].secNo ∧
    ∃ x : State, x.tables = s.tables ∧ x.sco.link = t.sco.link ∧ x.sco.sect[f].far = t.sco.sect[f].far ∧
      t.sco.sect[f].coupled = x.coupledNow f ∧ t.sco.sect[f].bank = bankFor (x.doubleFedNow f)

theorem acceptFrame_shows (s : State) (n : Slot) (fr : NeighbourFrame) : FrameShown s (s.acceptFrame n fr) n fr := by
  obtain ⟨s2, s3, s4, s5, s2_is, s3_is, s4_is, s5_is, ends⟩ := acceptFrame_eq s n fr
  have once := sectionsOf_nodup s n
  have accept := reports_linkAccept s n
  have lasts := apartLink_modLink (s.linkAccept n) n fun x => { x with last := some fr }
  have fars := fun x f => setFar_step x f (farEntry fr s.tables.feeder[f].secNo)
  have clears := fun x f => (clearUnlisted_handshake x s f).section (calm_clearUnlisted x s f)
  have advances := fun x f => (advance_handshake x s f).section (calm_advance x s f)
  have reports := fun x f => reportedFrom_step s x f
  obtain ⟨s1', s1'_is⟩ : ∃ x, x = (s.linkAccept n).modLink n fun x => { x with last := some fr } := ⟨_, rfl⟩
  rw [← s1'_is] at s2_is lasts
  generalize s.acceptFrame n fr = t at ends ⊢
  have calm12 : Calm s1' s2 := by rw [s2_is]; exact foldl_sections_calm fars _ _
  have calm23 : Calm s2 s3 := by rw [s3_is]; exact foldl_sections_calm clears _ _
  have calm34 : Calm s3 s4 := by rw [s4_is]; exact foldl_sections_calm reevaluate_step _ _
  have calm45 : Calm s4 s5 := by rw [s5_is]; exact foldl_sections_calm advances _ _
  have calm56 : Calm s5 t := by rw [ends]; exact foldl_sections_calm reports _ _
  have calm36 : Calm s3 t := (calm34.trans calm45).trans calm56
  have calm : Calm s1' t := (calm12.trans calm23).trans calm36
  have sect1 : s1'.sco.sect = s.sco.sect := by rw [s1'_is]; exact (congrArg Sco.sect accept.sco :)
  have link1 : s1'.sco.link = s.sco.link.set n (upState s n { s.sco.link[n] with last := some fr }) := by
    rw [s1'_is]
    exact accepted_link s n fr
  have rest1 : ApartLink s s1' := by
    refine ((apartLink_modLink s n (upState s n)).trans accept.untouched.apartLink).trans lasts
  have tables1 : s1'.tables = s.tables := rest1.tables
  have only23 : HandshakesOnly s2 s3 := by
    rw [s3_is]; exact foldl_handshakesOnly (fun x f => clearUnlisted_handshake x s f) _ s2
  have only45 : HandshakesOnly s4 s5 := by
    rw [s5_is]; exact foldl_handshakesOnly (fun x f => advance_handshake x s f) _ s4
  have sco56 : t.sco = s5.sco := by
    rw [ends]; exact (quiet_foldl _ _ (fun x f => reportedFrom_quiet s x f) _).sco
  refine ⟨calm.link.trans link1, rest1.trans calm.untouched.apartLink, ?_, fun f out => ?_, fun f mem => ?_⟩
  · rw [ends, foldl_sections_stl reports, s5_is, foldl_sections_stl advances, s4_is,
      foldl_sections_stl reevaluate_step, s3_is, foldl_sections_stl clears, s2_is, foldl_sections_stl fars, s1'_is]
    exact accept.stl
  · rw [sco56, s5_is, foldl_sections_other advances _ _ out, s4_is, foldl_sections_other reevaluate_step _ _ out, s3_is,
      foldl_sections_other clears _ _ out, s2_is, foldl_sections_other fars _ _ out, sect1]
  · obtain ⟨y, _, same2, shows2⟩ := foldl_sections_at fars _ s1' mem once
    rw [← s2_is, setFar_shows] at shows2
    obtain ⟨x, calmx, samex, shows4⟩ := foldl_reevaluate_at once mem s3
    rw [← s4_is] at shows4
    obtain ⟨h, shows5⟩ := only45 f
    rw [← sco56, shows4] at shows5
    have far3 : s3.sco.sect[f].far = farEntry fr s.tables.feeder[f].secNo := by rw [only23.far f, shows2]
    refine ⟨?_, x, ?_, ?_, ?_, ?_, ?_⟩
    · rw [shows5]
      exact far3
    · exact calmx.tables.trans ((calm12.trans calm23).tables.trans tables1)
    · exact calmx.link.trans calm36.link.symm
    · rw [shows5, samex]
    · rw [shows5]
    · rw [shows5]

/-! ### A reported section, R67 and R91 -/

/-- What slot k does when feeder f yields to the far end, R91. -/
def State.yieldAt (s : State) (f : Feeder) (k : TestSlot) : State :=
  if s.ltu.slot[k].testing = some f then
    ((((s.setTestSlot k (.release f contactorTicks none)).sendOrder f .testOff).fctEnter f .testWait
      none).enqueue f).post .lineTestResult (.feeder f) (some .yielded) none
  else s

theorem yieldAt_taken (s : State) (f : Feeder) (k : TestSlot) : YieldTaken s (s.yieldAt f k) f k := by
  refine ⟨fun free => if_neg free, fun tests => ?_⟩
  have released := reports_sendOrder (reports_refl (s.setTestSlot k (.release f contactorTicks none))) f .testOff
  have waits := reports_fctSet_as released f enter_yielded
  have joins := reports_setQueue waits (s.ltu.queue ++ [f])
  obtain ⟨u, u_is⟩ : ∃ u, u = (((s.setTestSlot k (.release f contactorTicks none)).sendOrder f .testOff).fctEnter f
    .testWait none).setQueue (s.ltu.queue ++ [f]) := ⟨_, rfl⟩
  have queue : u.ltu.queue = s.ltu.queue ++ [f] := by rw [u_is]; rfl
  refine ⟨u, if u.isHead f then u.examineHead else u, u_is ▸ joins, ?_, ?_⟩
  · rw [← queue]
    exact examinedIf_head (isHead_iff u f) u
  rw [u_is]
  unfold State.yieldAt
  rw [if_pos tests]
  exact reports_post (reports_refl _) _ _ _ _

/-- What the controller and the line test unit do with a reported section. -/
theorem section_taken (s : State) (f : Feeder) : let x := s.sco.sect[f]
    (s.fct[f].state = .follow → x.coupled = false →
      Reports { s with fct := s.fct.set f (lockoutRecord s.fct[f] .uncoord) } (s.fctSection f)
        [(.lockout, .feeder f, some .uncoord, some (s.fct[f].attempts : Int))]) ∧
    (s.fct[f].state ≠ .follow ∨ x.coupled = true → FollowExamined s (s.fctSection f) f) ∧
    (let yields : Prop := x.coupled = true ∧ s.tables.feeder[f].testEnd = false ∧
        x.far.any SectionEntry.testActive = true
     ∃ u v : State, (yields → YieldTaken s u f 0 ∧ YieldTaken u v f 1) ∧ (¬ yields → u = s ∧ v = s) ∧
      ExaminedIf (v.ltu.queue.head? = some f) v (s.ltuSection f)) := by
  intro x
  refine ⟨fun follow uncoupled => ?_, fun stays => ?_, ?_⟩
  · unfold State.fctSection
    rw [if_pos ⟨follow, uncoupled⟩]
    exact reports_lockOut (reports_refl s) f .uncoord
  · unfold State.fctSection
    rw [if_neg]
    · exact followExamined s f
    rintro ⟨follow, uncoupled⟩
    rcases stays with other | coupled
    · exact other follow
    · exact absurd (uncoupled.symm.trans coupled) nofun
  · intro yields
    have due : (s.sco.sect[f].coupled && !s.tables.feeder[f].testEnd && s.sco.sect[f].farTesting) = true ↔ yields := by
      rw [Bool.and_eq_true, Bool.and_eq_true, Bool.not_eq_true', farTesting_eq_any, and_assoc]
    by_cases is : yields
    · refine ⟨s.yieldAt f 0, (s.yieldAt f 0).yieldAt f 1, fun _ => ⟨yieldAt_taken s f 0, yieldAt_taken _ f 1⟩,
        fun not => absurd is not, ?_⟩
      have yielded : s.ltuYield f = (s.yieldAt f 0).yieldAt f 1 := if_pos (due.2 is)
      unfold State.ltuSection
      rw [yielded]
      exact examinedIf_head (isHead_iff _ f) _
    · refine ⟨s, s, fun holds => absurd holds is, fun _ => ⟨rfl, rfl⟩, ?_⟩
      have stays : s.ltuYield f = s := if_neg fun holds => is (due.1 holds)
      unfold State.ltuSection
      rw [stays]
      exact examinedIf_head (isHead_iff _ f) _

/-! ### The frame read, R102 and R103 -/

theorem neighbourFrameOf_eq (p : List Byte) (now : Nat) : neighbourFrameOf p now =
    { stationId := (p.getD 1 0 ++ p.getD 2 0).toNat, rectRunning := (p.getD 3 0).getLsbD 0
      busLive := (p.getD 3 0).getLsbD 1, entries := linkEntries (p.drop 5), acceptedAt := now } := by
  unfold neighbourFrameOf
  rw [u16At_append]
  rfl

/-- A frame that reaches the coordinator, by the slot of its node and channel. -/
theorem linkIn_eq (s : State) (src : Nat) (payload : List Byte) : s.linkIn src payload =
    match s.slotFor src (payload.getD 0 0).toNat with
    | none => s
    | some n =>
      if (payload.getD 1 0 ++ payload.getD 2 0).toNat = s.tables.neighbour[n].stationId then
        s.acceptFrame n (neighbourFrameOf payload s.evr.ms)
      else s := by
  unfold State.linkIn
  rw [u16At_append]
  show (match s.slotFor src (payload.getD 0 0).toNat with
    | none => s
    | some n => _) = _
  cases s.slotFor src (payload.getD 0 0).toNat <;> rfl

theorem slotFor_fits (s : State) (src channel : Nat) (n : Slot) :
    (neighbourUsed s.tables.neighbour[n] && s.tables.neighbour[n].linkNode == some src &&
      s.tables.neighbour[n].channel == channel) = true ↔
    s.tables.neighbour[n].stationId ≠ 0 ∧ s.tables.neighbour[n].linkNode = some src ∧
      s.tables.neighbour[n].channel = channel := by
  rw [Bool.and_eq_true, Bool.and_eq_true, neighbourUsed_iff, beq_iff_eq, beq_iff_eq, and_assoc]

theorem slotFor_some {s : State} {src channel : Nat} {n : Slot} (is : s.slotFor src channel = some n) :
    s.tables.neighbour[n].stationId ≠ 0 ∧ s.tables.neighbour[n].linkNode = some src ∧
      s.tables.neighbour[n].channel = channel := by
  have holds := List.find?_some (show allSlots.find? _ = some n from is)
  exact (slotFor_fits s src channel n).1 holds

theorem slotFor_only {s : State} {src channel : Nat} {n : Slot}
    (fits : s.tables.neighbour[n].stationId ≠ 0 ∧ s.tables.neighbour[n].linkNode = some src ∧
      s.tables.neighbour[n].channel = channel)
    (only : ∀ m : Slot, s.tables.neighbour[m].stationId ≠ 0 ∧ s.tables.neighbour[m].linkNode = some src ∧
      s.tables.neighbour[m].channel = channel → m = n) : s.slotFor src channel = some n := by
  cases search : s.slotFor src channel with
  | none =>
    have mem : n ∈ allSlots := by clear fits only search; revert n; decide
    have none := List.find?_eq_none.1 search n mem
    exact absurd ((slotFor_fits s src channel n).2 fits) none
  | some m => rw [only m (slotFor_some search)]

theorem acceptFrame_steps (s : State) (n : Slot) (fr : NeighbourFrame) : ∃ s1 s2 s3 s4 s5 : State,
    Reports { s with sco := { s.sco with link := (s.sco.link.set n { s.sco.link[n] with
        up := true, timer := some (4 * s.tables.neighbour[n].tLink) }) } } s1
      (if s.sco.link[n].up = true then []
        else [(.linkUp, .slot n, none, some (s.tables.neighbour[n].stationId : Int))]) ∧
    s2 = { s1 with sco := { link := (s.acceptFrame n fr).sco.link, sect := s2.sco.sect } } ∧
    (∀ f : Feeder, s2.sco.sect[f] = if f ∈ sectionsOf s n then { s1.sco.sect[f] with
        far := (fr.entries.take 10).find? fun e => decide (e.secNo = s.tables.feeder[f].secNo) }
      else s1.sco.sect[f]) ∧
    s3 = (sectionsOf s n).foldl (fun y f =>
      if s.sco.sect[f].far.isSome = true ∧ s2.sco.sect[f].far.isNone = true then
        y.clearHandshake f .removed else y) s2 ∧
    s4 = (sectionsOf s n).foldl (fun y f => y.reevaluate f) s3 ∧
    s5 = (sectionsOf s n).foldl (fun y f => match s2.sco.sect[f].far with
      | none => y
      | some e => if s.sco.sect[f].far.isNone = true then y.takeStanding f e
        else (y.takeFarAck f e.ttAck).takeFarReq f e.ttReq) s4 ∧
    s.acceptFrame n fr = (sectionsOf s n).foldl (fun y f => reportedFrom s y f) s5 := by
  have shows := (acceptFrame_shows s n fr).link
  obtain ⟨s2, s3, s4, s5, s2_is, s3_is, s4_is, s5_is, ends⟩ := acceptFrame_eq s n fr
  have accept := reports_linkAccept s n
  obtain ⟨frame, sections⟩ := foldl_setFar (fun f => farEntry fr s.tables.feeder[f].secNo) (sectionsOf s n)
    (sectionsOf_nodup s n) ((s.linkAccept n).modLink n fun x => { x with last := some fr })
  rw [← s2_is] at frame sections
  rw [foldl_clearUnlisted] at s3_is
  have far4 : ∀ f : Feeder, s4.sco.sect[f].far = s2.sco.sect[f].far := by
    intro f
    have only : HandshakesOnly s2 s3 := by
      rw [s3_is, ← foldl_clearUnlisted]
      exact foldl_handshakesOnly (fun x f => clearUnlisted_handshake x s f) _ s2
    rw [s4_is, foldl_reevaluate_far, only.far f]
  rw [foldl_advance s s2 s4 _ far4] at s5_is
  refine ⟨s.linkAccept n, s2, s3, s4, s5, accept, ?_, sections, s3_is, s4_is, s5_is, ends⟩
  have link : ((s.linkAccept n).modLink n fun x => { x with last := some fr }).sco.link =
      (s.acceptFrame n fr).sco.link := (accepted_link s n fr).trans shows.symm
  rw [← link]
  exact frame

/-- Coupling read at a state with known tables and a known slot of the feeder. -/
theorem coupledNow_at {x s : State} {f : Feeder} {n : Slot} (tables : x.tables = s.tables)
    (slot : slotOf s.tables.feeder[f] = n) : x.coupledNow f = true ↔
      s.tables.feeder[f].inUse = true ∧ s.tables.feeder[f].secNo ≠ 0 ∧ s.tables.feeder[f].localCoupled = true ∧
        s.tables.neighbour[n].stationId ≠ 0 ∧ x.sco.link[n].up = true ∧
        ∃ e, x.sco.sect[f].far = some e ∧ e.coupled = true ∧ e.testEnd ≠ s.tables.feeder[f].testEnd := by
  subst slot
  simp only [← tables]
  exact coupledNow_iff x f

theorem doubleFedNow_at {x s : State} {f : Feeder} {n : Slot} (tables : x.tables = s.tables)
    (slot : slotOf s.tables.feeder[f] = n) : x.doubleFedNow f = true ↔ x.coupledNow f = true ∧
      (∃ e, x.sco.sect[f].far = some e ∧ e.closed = true) ∧ ∃ fr, x.sco.link[n].last = some fr ∧ fr.busLive = true := by
  subst slot
  simp only [← tables]
  exact doubleFedNow_iff x f

/-- Settles O42. -/
theorem linkFrameAccepted : Obligations.LinkFrameAccepted := by
  refine ⟨?_, section_taken⟩
  intro s fr forPart id fits
  have runs : exec (.linkInFrame fr) s = .next (s.linkIn fr.src.toNat fr.payload) :=
    receive_forPart forPart (by decide)
  rw [runs, linkIn_eq]
  refine ⟨fun unlike => ?_, fun n fit only is => ?_⟩
  · cases search : s.slotFor fr.src.toNat (fr.payload.getD 0 0).toNat with
    | none => rfl
    | some n =>
      dsimp only
      rw [if_neg fun is => unlike n (slotFor_some search) is.symm]
  · rw [slotFor_only fit only]
    dsimp only
    rw [if_pos is.symm]
    obtain ⟨last, last_is⟩ : ∃ last, last = neighbourFrameOf fr.payload s.evr.ms := ⟨_, rfl⟩
    rw [← last_is]
    obtain ⟨link, rest, stl, other, own⟩ := acceptFrame_shows s n last
    refine ⟨s.acceptFrame n last, last, rfl, ?_, link, rest, stl, fun f => ?_, ?_⟩
    · rw [last_is]
      exact neighbourFrameOf_eq fr.payload s.evr.ms
    · refine ⟨fun out => other f fun mem => out ((mem_sectionsOf s n f).1 mem), fun used numbered slot => ?_⟩
      obtain ⟨far, x, tables, links, same, coupled, bank⟩ := own f ((mem_sectionsOf s n f).2 ⟨used, numbered, slot⟩)
      have up : x.sco.link[n] = upState s n { s.sco.link[n] with last := some last } := by
        rw [links, link]
        exact Vector.getElem_set_self ..
      have couples := coupledNow_at tables slot
      have doubles := doubleFedNow_at tables slot
      rw [up, same] at couples doubles
      have coupledIff : (s.acceptFrame n last).sco.sect[f].coupled = true ↔ s.tables.feeder[f].localCoupled = true ∧
          ∃ e, (s.acceptFrame n last).sco.sect[f].far = some e ∧ e.coupled = true ∧ e.testEnd ≠ s.tables.feeder[f].testEnd := by
        rw [coupled, couples]
        exact ⟨fun ⟨_, _, loc, _, _, ends⟩ => ⟨loc, ends⟩, fun ⟨loc, ends⟩ => ⟨used, numbered, loc, fit.1, rfl, ends⟩⟩
      refine ⟨far, coupledIff, ?_⟩
      have fed : x.doubleFedNow f = true ↔ (s.acceptFrame n last).sco.sect[f].coupled = true ∧ last.busLive = true ∧
          (s.acceptFrame n last).sco.sect[f].far.any SectionEntry.closed = true := by
        rw [doubles, ← coupled, Option.any_eq_true]
        constructor
        · rintro ⟨is, closed, _, present, live⟩
          cases present
          exact ⟨is, live, closed⟩
        · rintro ⟨is, live, closed⟩
          exact ⟨is, closed, last, rfl, live⟩
      rw [bank]
      exact if_congr fed rfl rfl
    · have steps := acceptFrame_steps s n last
      rw [is] at steps
      exact steps

end Sys2Proof.Machine
end

-- ==== Station trips ====
section
/-!
The station trip notices in turn, and the commands that give them: O51 and O52.
-/

namespace Sys2Proof.Machine
open Sys2Proof

/-! ### The feeders that a notice of another feeder finds or leaves in test -/

/-- The queue of the line test unit holds feeders in test only. -/
def QueueTests (s : State) : Prop := ∀ g ∈ s.ltu.queue, inTest s.fct[g].state = true

/-- The controller of feeder k as a notice of another feeder leaves it: in test when it was in test, as it was when not. -/
def Bystander (s t : State) (k : Feeder) : Prop :=
  if inTest s.fct[k].state = true then inTest t.fct[k].state = true else t.fct[k] = s.fct[k]

theorem Bystander.of_eq {s t : State} {k : Feeder} (same : t.fct[k] = s.fct[k]) : Bystander s t k := by
  unfold Bystander
  split
  next tests => rw [same]; exact tests
  next => exact same

theorem Bystander.trans {s t u : State} {k : Feeder} (h : Bystander s t k) (h' : Bystander t u k) :
    Bystander s u k := by
  unfold Bystander at *
  split
  next tests =>
    rw [if_pos tests] at h
    rwa [if_pos h] at h'
  next free =>
    rw [if_neg free] at h
    rw [if_neg (by rw [h]; exact free)] at h'
    exact h'.trans h

theorem Bystander.tested {s t : State} {k : Feeder} (h : Bystander s t k) (tests : inTest s.fct[k].state = true) :
    inTest t.fct[k].state = true := by
  unfold Bystander at h
  rwa [if_pos tests] at h

theorem Bystander.same {s t : State} {k : Feeder} (h : Bystander s t k) (free : ¬ inTest s.fct[k].state = true) :
    t.fct[k] = s.fct[k] := by
  unfold Bystander at h
  rwa [if_neg free] at h

theorem handOutcome_state (s : State) (f : Feeder) (o : TestOutcome) :
    (s.handOutcome f o).fct[f].state = s.fct[f].state := by
  rw [(reports_handOutcome (reports_refl s) f o).fct, modFct_self s f fun c => { c with outcomeIn := c.outcomeIn ++ [o] }]

theorem grant_state (s : State) (k : TestSlot) (f : Feeder) : (s.grant k f).fct[f].state = .testing := by
  rw [(reports_grant (reports_refl s) k f).fct]
  exact congrArg Fct.state (modFct_self (s.setTestSlot k (.contact f contactorTicks)) f fun c =>
    { testWaitRecord c c.opClose c.attempts with state := .testing })

/-- An examination leaves a feeder that is in test in test. -/
theorem examine_inTest {f : Feeder} (n : Nat) (s : State) (tests : inTest s.fct[f].state = true) :
    inTest (s.examine n).fct[f].state = true := by
  induction n generalizing s with
  | zero => exact tests
  | succ n ih =>
    cases queue : s.ltu.queue with
    | nil => rw [examine_idle _ (Or.inl queue)]; exact tests
    | cons g rest =>
      cases free : s.freeSlot with
      | none => rw [examine_idle _ (Or.inr free)]; exact tests
      | some k =>
        rw [examine_head n queue free]
        split
        · split
          · refine ih _ ?_
            by_cases own : f = g
            · subst own
              rw [handOutcome_state]
              exact tests
            · rw [handOutcome_fct_ne _ _ own]
              exact tests
          · refine ih _ ?_
            by_cases own : f = g
            · subst own
              rw [grant_state]
              rfl
            · rw [grant_fct_ne _ _ own]
              exact tests
        · exact tests

theorem examine_bystander {s : State} (queue : QueueTests s) (n : Nat) (k : Feeder) : Bystander s (s.examine n) k := by
  by_cases tests : inTest s.fct[k].state = true
  · unfold Bystander
    rw [if_pos tests]
    exact examine_inTest n s tests
  · exact .of_eq (examine_fct n s fun mem => tests (queue k mem))

theorem leavePlace_queue (s : State) (f : Feeder) : (s.leavePlace f).ltu.queue = s.ltu.queue.filter (· != f) := by
  rw [leavePlace_eq]

theorem ltuWithdraw_bystander {s : State} (queue : QueueTests s) (f : Feeder) {k : Feeder} (other : k ≠ f) :
    Bystander s (s.ltuWithdraw f) k := by
  have left : Bystander s (s.leavePlace f) k := .of_eq (leavePlace_fct_ne s other)
  have tests : QueueTests (s.leavePlace f) := by
    intro g mem
    rw [leavePlace_queue, List.mem_filter] at mem
    rw [leavePlace_fct_ne s (by simpa using mem.2)]
    exact queue g mem.1
  unfold State.ltuWithdraw State.examineAfter
  split
  · exact left.trans (examine_bystander tests 10 k)
  · exact left

theorem ltuWithdraw_queue_of (s : State) (f : Feeder) {g : Feeder} (mem : g ∈ (s.ltuWithdraw f).ltu.queue) :
    g ∈ s.ltu.queue := by
  have left : g ∈ (s.leavePlace f).ltu.queue := by
    unfold State.ltuWithdraw State.examineAfter at mem
    split at mem
    · exact Decidable.of_not_not fun out => examine_queue 10 _ out mem
    · exact mem
  rw [leavePlace_queue, List.mem_filter] at left
  exact left.1

/-! ### One notice, R74 -/

theorem stationNotice_taken (s : State) (f : Feeder) : StationNoticeTaken s (s.stationNotice f) f := by
  refine ⟨fun free => ?_, fun opening => ?_, fun pending => ?_, fun locked => ?_, fun out => ?_⟩
  · have trip : s.stationNotice f = s.trip f .station none := if_pos ((tripsFreely_mem _).2 free)
    have tables : (s.tripHands f .station none).tables = s.tables := (calm_tripHands s f .station none).tables
    have untested : s.fct[f].state ≠ .testing := fun is => absurd (is ▸ free) (by decide)
    have unlocked : s.fct[f].state ≠ .lockout := fun is => absurd (is ▸ free) (by decide)
    have hands := reports_tripHands_none s f .station
    rw [if_neg untested] at hands
    rw [trip, trip_opens untested unlocked]
    by_cases opened : lastPosition s.fct[f] = some .opened
    · refine ⟨_, (s.tripHands f .station none).toOpening f .station false, hands, ?_, ?_⟩
      · rw [if_pos opened]
        exact reports_tripOpening _ f .station (by rw [tables]) false
      · rw [if_pos opened, if_pos opened]
        rfl
    · refine ⟨_, (s.tripHands f .station none).toOpening f .station true, hands, ?_, ?_⟩
      · rw [if_neg opened]
        exact reports_tripOpening _ f .station (by rw [tables]) true
      · rw [if_neg opened, if_neg opened]
        rfl
  · have is : s.stationNotice f =
        (s.modFct f fun c => { c with openingCause := some .station }).tripNotice f .station none := by
      unfold State.stationNotice
      dsimp only
      rw [if_neg (by rw [opening]; decide), if_pos opening]
    rw [is]
    exact reports_tripNotice (reports_modFct (reports_refl s) f fun c => { c with openingCause := some .station }) f
      .station none
  · have is : s.stationNotice f = (s.withdrawPending f).lockOut f .station := by
      unfold State.stationNotice
      dsimp only
      rw [if_neg, if_neg, if_pos ((isPending_mem _).2 pending)]
      · exact fun is => absurd (is ▸ pending) (by decide)
      · exact fun free => absurd ((tripsFreely_mem _).1 free) (by
          revert pending
          show s.fct[f].state ∈ _ → _
          cases s.fct[f].state <;> decide)
    rw [is]
    exact withdrawn_lockOut s f .station
  · unfold State.stationNotice
    dsimp only
    rw [show s.fct[f].state = .lockout from locked, if_neg (by decide), if_neg (by decide), if_neg (by decide)]
    exact if_congr ((and_iff_right rfl).trans (notOpen_iff _)) rfl rfl
  · unfold State.stationNotice
    dsimp only
    rw [show s.fct[f].state = .out from out]
    rfl

/-- An opening of cause STATION without a failed transfer trip completes in LOCKOUT. -/
theorem openingCompletes_station {w : State} {f : Feeder} (cause : w.fct[f].openingCause = some .station)
    (succeeded : w.fct[f].ttFail = false) :
    (w.openingCompletes f).fct = w.fct.set f (lockoutRecord w.fct[f] .station) ∧
      (w.openingCompletes f).ltu = w.ltu := by
  have completes := reports_openingCompletes w f
  have decision : decideReclose w.fct[f] w.tables.feeder[f] w.sco.sect[f].coupled = .lockout .station := by
    unfold decideReclose
    rw [succeeded, if_neg nofun, if_pos cause]
  dsimp only at completes
  rw [decision] at completes
  have dropped : ((w.modFct f fun c => { c with timer := none }).dropPhaseBack f).fct =
        w.fct.set f { w.fct[f] with timer := none, pbRaised := false } ∧
      ((w.modFct f fun c => { c with timer := none }).dropPhaseBack f).ltu = w.ltu := by
    rw [timerless_dropPhaseBack w f]
    split
    · obtain ⟨fct, _, _, _, ltu⟩ := phaseBackWithdraw_rest
        { w with fct := w.fct.set f { w.fct[f] with timer := none, pbRaised := false } } f
      exact ⟨fct, ltu⟩
    · exact ⟨rfl, rfl⟩
  obtain ⟨fct, ltu⟩ := dropped
  refine ⟨?_, completes.ltu.trans ltu⟩
  rw [completes.fct]
  show Vector.set _ _ _ = _
  rw [fct, Vector.set_set]
  rfl

/-- What a notice leaves of the places and of the other controllers. -/
structure NoticeLeaves (s t : State) (f : Feeder) : Prop where
  queue : ∀ g ∈ t.ltu.queue, g ∈ s.ltu.queue ∧ g ≠ f
  others : ∀ k : Feeder, k ≠ f → Bystander s t k
  own : StationNoticed s t f
  free : inTest t.fct[f].state = false

/-- A change of the controller of feeder f alone leaves the others as they were. -/
theorem bystander_set {s t : State} {f : Feeder} {c : Fct} (fct : t.fct = s.fct.set f c) {k : Feeder} (other : k ≠ f) :
    Bystander s t k := by
  refine .of_eq ?_
  rw [fct]
  exact Vector.getElem_set_ne _ _ fun is => other (Fin.ext is.symm)

theorem fct_set_self {s t : State} {f : Feeder} {c : Fct} (fct : t.fct = s.fct.set f c) : t.fct[f] = c := by
  rw [fct]
  exact Vector.getElem_set_self ..

/-- A feeder out of test is not in the queue. -/
theorem queue_apart {s t : State} {f : Feeder} (queue : QueueTests s) (free : inTest s.fct[f].state = false)
    (ltu : t.ltu = s.ltu) : ∀ g ∈ t.ltu.queue, g ∈ s.ltu.queue ∧ g ≠ f := by
  intro g mem
  rw [ltu] at mem
  refine ⟨mem, fun is => ?_⟩
  have tests := queue g mem
  rw [is, free] at tests
  cases tests

theorem noticeLeaves_free {s t : State} {f : Feeder} (queue : QueueTests s)
    (free : s.fct[f].state ∈ [FeederState.unknown, .service, .closing]) (h : StationNoticeTaken s t f) :
    NoticeLeaves s t f := by
  obtain ⟨u, w, hands, opening, is⟩ := h.1 free
  have untested : inTest s.fct[f].state = false := by
    revert free
    cases s.fct[f].state <;> decide
  have ltu : w.ltu = s.ltu := opening.ltu.trans hands.ltu
  obtain ⟨c, c_is⟩ : ∃ c : Fct, c = { openingRecord u.fct[f] s.tables.feeder[f] .station with
      timer := if lastPosition s.fct[f] = some Position.opened then none
               else some (4 * s.tables.feeder[f].tOpen) } := ⟨_, rfl⟩
  have fct : w.fct = s.fct.set f c := by
    rw [c_is, opening.fct]
    show Vector.set u.fct f.val _ f.isLt = _
    rw [hands.fct]
    rfl
  have record : w.fct[f] = c := fct_set_self fct
  by_cases opened : lastPosition s.fct[f] = some .opened
  · rw [if_pos opened] at is
    obtain ⟨completes, queue'⟩ := openingCompletes_station (w := w) (f := f) (by rw [record, c_is]; rfl)
      (by rw [record, c_is]; rfl)
    rw [← is] at completes queue'
    have locked := fct_set_self completes
    rw [fct, Vector.set_set] at completes
    refine ⟨queue_apart queue untested (queue'.trans ltu), fun k other => bystander_set completes other, ?_, ?_⟩
    · have noticed : t.fct[f].state = .lockout ∧ t.fct[f].lockCause = some .station := by
        rw [locked]
        exact ⟨rfl, rfl⟩
      unfold StationNoticed
      simp only [List.mem_cons, List.not_mem_nil, or_false] at free
      rcases free with is | is | is <;> rw [is] <;> exact (if_pos opened).mpr noticed
    · rw [locked]
      rfl
  · rw [if_neg opened] at is
    subst is
    refine ⟨queue_apart queue untested ltu, fun k other => bystander_set fct other, ?_, ?_⟩
    · have noticed : t.fct[f].state = .opening ∧ t.fct[f].openingCause = some .station ∧
          t.fct[f].timer = some (4 * s.tables.feeder[f].tOpen) := by
        rw [record, c_is, if_neg opened]
        exact ⟨rfl, rfl, rfl⟩
      unfold StationNoticed
      simp only [List.mem_cons, List.not_mem_nil, or_false] at free
      rcases free with is | is | is <;> rw [is] <;> exact (if_neg opened).mpr noticed
    · rw [record, c_is]
      rfl

theorem noticeLeaves_pending {s t : State} {f : Feeder} (queue : QueueTests s)
    (pending : s.fct[f].state ∈ [FeederState.testWait, .testing, .deadTime, .follow]) (h : StationNoticeTaken s t f) :
    NoticeLeaves s t f := by
  obtain ⟨u, is, locks⟩ := h.2.2.1 pending
  have locked := fct_set_self locks.fct
  have sent : QueueTests (s.sendOrder f .testOff) := queue
  have left : (∀ g ∈ u.ltu.queue, g ∈ s.ltu.queue ∧ g ≠ f) ∧ ∀ k : Feeder, k ≠ f → Bystander s u k := by
    by_cases waits : s.fct[f].state = .testWait
    · rw [if_pos waits] at is
      rw [is]
      exact ⟨fun g mem => ⟨ltuWithdraw_queue_of s f mem, fun own => ltuWithdraw_queue s f (own ▸ mem)⟩,
        fun k other => ltuWithdraw_bystander queue f other⟩
    rw [if_neg waits] at is
    by_cases tests : s.fct[f].state = .testing
    · rw [if_pos tests] at is
      have fct : (s.sendOrder f .testOff).fct = s.fct := rfl
      have ltu : (s.sendOrder f .testOff).ltu = s.ltu := rfl
      generalize s.sendOrder f .testOff = x at sent fct ltu is
      rw [is, ← ltu]
      exact ⟨fun g mem => ⟨ltuWithdraw_queue_of x f mem, fun own => ltuWithdraw_queue x f (own ▸ mem)⟩,
        fun k other => (Bystander.of_eq (by rw [fct])).trans (ltuWithdraw_bystander sent f other)⟩
    · rw [if_neg tests] at is
      rw [is]
      refine ⟨queue_apart queue ?_ rfl, fun k _ => .of_eq rfl⟩
      revert waits tests
      cases s.fct[f].state <;> decide
  refine ⟨fun g mem => left.1 g (by rw [← locks.ltu]; exact mem),
    fun k other => (left.2 k other).trans (bystander_set locks.fct other), ?_, ?_⟩
  · have noticed : t.fct[f].state = .lockout ∧ t.fct[f].lockCause = some .station := by
      rw [locked]
      exact ⟨rfl, rfl⟩
    unfold StationNoticed
    simp only [List.mem_cons, List.not_mem_nil, or_false] at pending
    rcases pending with is | is | is | is <;> rw [is] <;> exact noticed
  · rw [locked]
    rfl

/-- A notice among feeders of which the queue holds those in test only. -/
theorem stationNotice_leaves {s : State} (queue : QueueTests s) (f : Feeder) :
    NoticeLeaves s (s.stationNotice f) f := by
  have taken := stationNotice_taken s f
  generalize s.stationNotice f = t at taken
  have trips := noticeLeaves_free (t := t) (f := f) queue
  have withdraws := noticeLeaves_pending (t := t) (f := f) queue
  obtain ⟨-, opens, -, locks, stays⟩ := id taken
  cases is : s.fct[f].state with
  | unknown => exact trips (by rw [is]; decide) taken
  | service => exact trips (by rw [is]; decide) taken
  | closing => exact trips (by rw [is]; decide) taken
  | testWait => exact withdraws (by rw [is]; decide) taken
  | testing => exact withdraws (by rw [is]; decide) taken
  | deadTime => exact withdraws (by rw [is]; decide) taken
  | follow => exact withdraws (by rw [is]; decide) taken
  | opening =>
    have noted := opens is
    have record := fct_set_self noted.fct
    refine ⟨queue_apart queue (by rw [is]; rfl) noted.ltu, fun k other => bystander_set noted.fct other, ?_, ?_⟩
    · unfold StationNoticed
      rw [is, record]
      exact ⟨is, rfl, rfl⟩
    · rw [record]
      show inTest s.fct[f].state = false
      rw [is]
      rfl
  | lockout =>
    have same : t.fct = s.fct ∧ t.ltu = s.ltu := by
      rw [locks is]
      split <;> exact ⟨rfl, rfl⟩
    obtain ⟨fct, ltu⟩ := same
    refine ⟨queue_apart queue (by rw [is]; rfl) ltu, fun k _ => .of_eq (by rw [fct]), ?_, by rw [fct, is]; rfl⟩
    unfold StationNoticed
    rw [is, fct]
    exact ⟨is, rfl⟩
  | out =>
    cases stays is
    refine ⟨queue_apart queue (by rw [is]; rfl) rfl, fun k _ => .of_eq rfl, ?_, by rw [is]; rfl⟩
    unfold StationNoticed
    simp only [is]

/-! ### Every notice in turn -/

/-- What a feeder shows after a notice, read from the state before another feeder's notice. -/
theorem StationNoticed.of_bystander {s x t : State} {g : Feeder} (tables : x.tables = s.tables)
    (by' : Bystander s x g) (h : StationNoticed x t g) : StationNoticed s t g := by
  by_cases tests : inTest s.fct[g].state = true
  · have tests' := by'.tested tests
    unfold StationNoticed at *
    have locked : t.fct[g].state = .lockout ∧ t.fct[g].lockCause = some .station := by
      cases is : x.fct[g].state <;> simp only [is] at h tests' <;> first | exact h | cases tests'
    cases is : s.fct[g].state <;> simp only [is] at tests ⊢ <;> first | exact locked | cases tests
  · unfold StationNoticed at *
    rw [by'.same tests, tables] at h
    exact h

/-- What a feeder shows after a notice does not depend on more than these fields. -/
theorem StationNoticed.keep {s t u : State} {g : Feeder} (h : StationNoticed s t g)
    (state : u.fct[g].state = t.fct[g].state) (lockCause : u.fct[g].lockCause = t.fct[g].lockCause)
    (openingCause : u.fct[g].openingCause = t.fct[g].openingCause) (timer : u.fct[g].timer = t.fct[g].timer) :
    StationNoticed s u g := by
  unfold StationNoticed at *
  rw [state, lockCause, openingCause, timer]
  exact h

/-- A notice to feeder f when it is in use. -/
def State.noticeIfUsed (s : State) (f : Feeder) : State := if s.tables.feeder[f].inUse then s.stationNotice f else s

theorem noticeIfUsed_calm (s : State) (f : Feeder) : Calm s (s.noticeIfUsed f) := by
  unfold State.noticeIfUsed
  split
  · exact calm_stationNotice s f
  · exact Calm.refl s

theorem noticesGiven_eq (s : State) : noticesGiven s = allFeeders.foldl State.noticeIfUsed s := by
  have same : (fun (x : State) (f : Feeder) => if x.tables.feeder[f].inUse then x.stationNotice f else x) =
      State.noticeIfUsed := rfl
  have used : noticesGiven s = allFeeders.foldl (fun (x : State) (f : Feeder) =>
      if s.tables.feeder[f].inUse then x.stationNotice f else x) s := by
    unfold noticesGiven
    rfl
  rw [used, ← same]
  refine (foldl_congr_of_keeps (P := fun x => x.tables = s.tables) _ (fun x f tables _ => ?_) s rfl).symm
  exact ⟨by rw [tables], (noticeIfUsed_calm x f).tables.trans tables⟩

theorem noticeIfUsed_step {s : State} (queue : QueueTests s) (f : Feeder) : QueueTests (s.noticeIfUsed f) ∧
    (∀ k : Feeder, k ≠ f → Bystander s (s.noticeIfUsed f) k) ∧
    (s.tables.feeder[f].inUse = true → StationNoticed s (s.noticeIfUsed f) f ∧ inTest (s.noticeIfUsed f).fct[f].state = false) := by
  unfold State.noticeIfUsed
  split
  next used =>
    obtain ⟨places, others, own, free⟩ := stationNotice_leaves queue f
    refine ⟨fun g mem => ?_, others, fun _ => ⟨own, free⟩⟩
    obtain ⟨was, other⟩ := places g mem
    exact (others g other).tested (queue g was)
  next unused => exact ⟨queue, fun k _ => .of_eq rfl, fun used => absurd used unused⟩

theorem notices_shown {l : List Feeder} (once : l.Nodup) {s : State} (queue : QueueTests s) :
    QueueTests (l.foldl State.noticeIfUsed s) ∧
    (∀ k : Feeder, k ∉ l → Bystander s (l.foldl State.noticeIfUsed s) k) ∧
    (∀ g ∈ l, s.tables.feeder[g].inUse = true → StationNoticed s (l.foldl State.noticeIfUsed s) g ∧
      inTest (l.foldl State.noticeIfUsed s).fct[g].state = false) := by
  induction l generalizing s with
  | nil => exact ⟨queue, fun _ _ => .of_eq rfl, fun _ mem => nomatch mem⟩
  | cons f rest ih =>
    obtain ⟨out, once⟩ := List.nodup_cons.1 once
    obtain ⟨queue', others, own⟩ := noticeIfUsed_step queue f
    have tables := (noticeIfUsed_calm s f).tables
    obtain ⟨queue'', others', noticed⟩ := ih once queue'
    refine ⟨queue'', fun k apart => ?_, fun g mem used => ?_⟩
    · rw [List.mem_cons, not_or] at apart
      exact (others k apart.1).trans (others' k apart.2)
    · by_cases is : g = f
      · subst is
        obtain ⟨shown, free⟩ := own used
        have same : (List.foldl State.noticeIfUsed s (g :: rest)).fct[g] = (s.noticeIfUsed g).fct[g] :=
          (others' g out).same (by rw [free]; nofun)
        rw [same]
        exact ⟨shown.keep (by rw [same]) (by rw [same]) (by rw [same]) (by rw [same]), free⟩
      · obtain ⟨shown, free⟩ := noticed g ((List.mem_cons.1 mem).resolve_left is) (by rw [tables]; exact used)
        exact ⟨shown.of_bystander tables (others g is), free⟩

theorem stationNotice_kept (s : State) (f : Feeder) : TripKept s (s.stationNotice f) := by
  unfold State.stationNotice
  dsimp only
  split
  · exact trip_kept s f .station
  split
  · have noted := (reports_tripNotice (reports_modFct (reports_refl s) f fun c =>
      { c with openingCause := some .station }) f .station none).tripKept
    obtain ⟨⟨sco, stl⟩, drc, rcu⟩ := noted
    exact ⟨⟨sco, stl⟩, drc, rcu⟩
  split
  · exact (quiet_withdrawn_lockOut s f .station).tripKept
  split
  · exact (quiet_sendOrder s f .opened).tripKept
  · exact TripKept.refl s

theorem noticeIfUsed_kept (s : State) (f : Feeder) : TripKept s (s.noticeIfUsed f) := by
  unfold State.noticeIfUsed
  split
  · exact stationNotice_kept s f
  · exact TripKept.refl s

theorem noticesGiven_kept (s : State) : TripKept s (noticesGiven s) := by
  rw [noticesGiven_eq]
  exact foldl_keeps TripKept.refl (fun _ _ _ h k => h.trans k) noticeIfUsed_kept allFeeders s

theorem noticesGiven_calm (s : State) : Calm s (noticesGiven s) := by
  rw [noticesGiven_eq]
  exact foldl_keeps Calm.refl (fun _ _ _ h k => h.trans k) noticeIfUsed_calm allFeeders s

theorem noticesGiven_shown {s : State} (waits : ∀ g ∈ s.ltu.queue, s.fct[g].state = .testWait) (g : Feeder)
    (used : s.tables.feeder[g].inUse = true) : StationNoticed s (noticesGiven s) g := by
  have queue : QueueTests s := fun g mem => by rw [waits g mem]; rfl
  rw [noticesGiven_eq]
  exact ((notices_shown (by decide) queue).2.2 g (mem_allFeeders g) used).1

/-! ### The requests of a station trip, R158 step 4 -/

/-- What a request leaves of every controller. -/
def ShowsSame (s t : State) : Prop := ∀ k : Feeder, t.fct[k].state = s.fct[k].state ∧
  t.fct[k].lockCause = s.fct[k].lockCause ∧ t.fct[k].openingCause = s.fct[k].openingCause ∧
  t.fct[k].timer = s.fct[k].timer

theorem ShowsSame.of_eq {s t : State} (fct : t.fct = s.fct) : ShowsSame s t := fun k => by
  rw [fct]
  exact ⟨rfl, rfl, rfl, rfl⟩

/-- A request of source STATION: its section's handshake, the reports, and the count of TT_FAIL reports. -/
structure RequestStep (f : Feeder) (s t : State) : Prop where
  hands : HandshakeStep f s t
  blocks : BlocksKept s t
  shows' : ShowsSame s t

theorem ttRequest_step (s : State) (f : Feeder) (station : Bool) : RequestStep f s (s.ttRequest f station) := by
  cases coupled : s.sco.sect[f].coupled with
  | false =>
    rw [ttRequest_uncoupled coupled]
    exact ⟨HandshakeStep.refl f s, BlocksKept.refl s, .of_eq rfl⟩
  | true =>
    rw [ttRequest_coupled coupled]
    split
    · split
      · have posted := quiet_post s .ttFail (.feeder f) (some .timeout) (some (s.tables.feeder[f].secNo : Int))
        obtain ⟨stl, others, own⟩ := posted.coord.handshake f
        obtain ⟨fpu, rcu, stl', drc⟩ := posted.blocks
        refine ⟨⟨stl, others, own⟩, ⟨fpu, rcu, stl', drc⟩, fun k => ?_⟩
        by_cases is : f = k
        · subst is
          rw [modFct_self _ f fun c => { c with ttFailIn := c.ttFailIn + 1 }]
          have same : (s.postSection f .ttFail (some .timeout)).fct = s.fct := post_fct ..
          rw [same]
          exact ⟨rfl, rfl, rfl, rfl⟩
        · rw [modFct_ne _ f k (fun c => { c with ttFailIn := c.ttFailIn + 1 }) is]
          exact ShowsSame.of_eq (post_fct ..) k
      · exact ⟨HandshakeStep.refl f s, BlocksKept.refl s, .of_eq rfl⟩
    split
    · exact ⟨modHs_handshake s f _, ⟨rfl, rfl, rfl, rfl⟩, .of_eq rfl⟩
    · refine ⟨(modHs_handshake s f _).trans (postSection_handshake _ f _ _), ?_, .of_eq (post_fct ..)⟩
      obtain ⟨fpu, rcu, stl, drc⟩ := (reports_modHs_postSection s f (fun h =>
        { h with ttReq := true, timer := some (s.ttTicks f), fromStation := station }) .ttSent
        (some (sourceCause station))).blocks
      exact ⟨fpu, rcu, stl, drc⟩

/-- The section after a request that is not taken: uncoupled, or with a request in flight. -/
theorem ttRequest_untaken {s : State} {f : Feeder} (station : Bool) (untaken : s.sco.sect[f].coupled = false ∨
    s.sco.sect[f].hs.ttReq = true ∨ s.sco.sect[f].hs.pending = true) :
    (s.ttRequest f station).sco.sect[f] = s.sco.sect[f] := by
  cases coupled : s.sco.sect[f].coupled with
  | false => rw [ttRequest_uncoupled coupled]
  | true =>
    have flight : s.sco.sect[f].hs.inFlight = true := by
      unfold Handshake.inFlight
      rw [Bool.or_eq_true]
      exact untaken.resolve_left (by rw [coupled]; nofun)
    rw [ttRequest_coupled coupled, if_pos flight]
    split
    · exact congrArg (fun x : Sco => x.sect[f]) (quiet_post s .ttFail (.feeder f) (some .timeout)
        (some (s.tables.feeder[f].secNo : Int))).sco
    · rfl

/-- The section after a request that is taken. -/
theorem ttRequest_taken {s : State} {f : Feeder} (station : Bool) (coupled : s.sco.sect[f].coupled = true)
    (req : s.sco.sect[f].hs.ttReq = false) (pending : s.sco.sect[f].hs.pending = false) :
    (s.ttRequest f station).sco.sect[f] = { s.sco.sect[f] with hs := { s.sco.sect[f].hs with
      ttReq := !s.sco.sect[f].hs.seenAck, pending := s.sco.sect[f].hs.seenAck, fromStation := station
      timer := some (4 * s.tables.neighbour[slotOf s.tables.feeder[f]].tTt) } } := by
  have idle : ¬ s.sco.sect[f].hs.inFlight = true := by
    unfold Handshake.inFlight
    rw [req, pending]
    nofun
  rw [ttRequest_coupled coupled, if_neg idle]
  cases seen : s.sco.sect[f].hs.seenAck with
  | true =>
    rw [if_pos rfl]
    refine (modSect_self s f fun x => { x with hs := { x.hs with
      pending := true, timer := some (s.ttTicks f), fromStation := station } }).trans ?_
    rw [Bool.not_true, ← req]
    rfl
  | false =>
    rw [if_neg nofun]
    refine (congrArg (fun x : Sco => x.sect[f]) (reports_modHs_postSection s f (fun h =>
      { h with ttReq := true, timer := some (s.ttTicks f), fromStation := station }) .ttSent
      (some (sourceCause station))).sco).trans ?_
    refine (modSect_self s f fun x => { x with hs := { x.hs with
      ttReq := true, timer := some (s.ttTicks f), fromStation := station } }).trans ?_
    rw [Bool.not_false, ← pending]
    rfl

/-- The requests of a station trip at a state with the tables of s. -/
def requestsGiven (s x : State) : State := allFeeders.foldl (fun y g =>
  if s.tables.feeder[g].inUse = true ∧ s.tables.feeder[g].secNo ≠ 0 then y.ttRequest g true else y) x

theorem stationRequests_eq {s x : State} (tables : x.tables = s.tables) : x.stationRequests = requestsGiven s x := by
  unfold State.stationRequests requestsGiven
  refine foldl_congr_of_keeps (P := fun y => y.tables = s.tables) _ (fun y g same _ => ?_) x tables
  have due : coordinated y.tables.feeder[g] = true ↔
      s.tables.feeder[g].inUse = true ∧ s.tables.feeder[g].secNo ≠ 0 := by
    rw [same]
    exact coordinated_iff _
  refine ⟨if_congr due rfl rfl, ?_⟩
  split
  · exact (calm_ttRequest y g true).tables.trans same
  · exact same

/-- What the requests of a station trip leave and show. -/
structure RequestsShown (s x t : State) : Prop where
  calm : Calm x t
  blocks : BlocksKept x t
  shows' : ShowsSame x t
  taken : ∀ g : Feeder, x.sco.sect[g].coupled = true → s.tables.feeder[g].inUse = true → s.tables.feeder[g].secNo ≠ 0 →
    x.sco.sect[g].hs.ttReq = false → x.sco.sect[g].hs.pending = false →
    t.sco.sect[g] = { x.sco.sect[g] with hs := { x.sco.sect[g].hs with
      ttReq := !x.sco.sect[g].hs.seenAck, pending := x.sco.sect[g].hs.seenAck, fromStation := true
      timer := some (4 * s.tables.neighbour[slotOf s.tables.feeder[g]].tTt) } }
  untaken : ∀ g : Feeder, x.sco.sect[g].coupled = false ∨ x.sco.sect[g].hs.ttReq = true ∨
    x.sco.sect[g].hs.pending = true → t.sco.sect[g] = x.sco.sect[g]

theorem requestsGiven_shown {s x : State} (tables : x.tables = s.tables) : RequestsShown s x (requestsGiven s x) := by
  obtain ⟨step, step_is⟩ : ∃ step : State → Feeder → State, step = fun (y : State) (g : Feeder) =>
    if s.tables.feeder[g].inUse = true ∧ s.tables.feeder[g].secNo ≠ 0 then y.ttRequest g true else y := ⟨_, rfl⟩
  have given : requestsGiven s x = allFeeders.foldl step x := by rw [step_is]; rfl
  have steps : ∀ y g, SectionStep g y (step y g) ∧ BlocksKept y (step y g) ∧ ShowsSame y (step y g) := by
    intro y g
    rw [step_is]
    dsimp only
    split
    · obtain ⟨hands, blocks, same⟩ := ttRequest_step y g true
      exact ⟨hands.section (calm_ttRequest y g true), blocks, same⟩
    · exact ⟨⟨Calm.refl y, rfl, fun _ _ => rfl⟩, BlocksKept.refl y, .of_eq rfl⟩
  have one (g : Feeder) : ∃ y : State, Calm x y ∧ y.sco.sect[g] = x.sco.sect[g] ∧
      (requestsGiven s x).sco.sect[g] = (step y g).sco.sect[g] := by
    rw [given]
    exact foldl_sections_at (fun y g => (steps y g).1) allFeeders x (mem_allFeeders g) (by decide)
  refine ⟨?_, ?_, ?_, fun g coupled used numbered req pending => ?_, fun g untaken => ?_⟩
  · rw [given]
    exact foldl_sections_calm (fun y g => (steps y g).1) _ x
  · rw [given]
    exact foldl_blocks (fun y g => (steps y g).2.1) _ x
  · rw [given]
    refine foldl_keeps (R := ShowsSame) (fun y => .of_eq rfl) (fun a b c h k f => ?_) (fun y g => (steps y g).2.2) _ x
    obtain ⟨h1, h2, h3, h4⟩ := h f
    obtain ⟨k1, k2, k3, k4⟩ := k f
    exact ⟨k1.trans h1, k2.trans h2, k3.trans h3, k4.trans h4⟩
  · obtain ⟨y, calm, same, shows'⟩ := one g
    rw [shows', step_is]
    dsimp only
    rw [if_pos ⟨used, numbered⟩, ttRequest_taken true (by rw [same]; exact coupled) (by rw [same]; exact req)
      (by rw [same]; exact pending), same]
    simp only [calm.tables.trans tables]
  · obtain ⟨y, _, same, shows'⟩ := one g
    rw [shows', step_is]
    dsimp only
    split
    · rw [ttRequest_untaken true (by rw [same]; exact untaken), same]
    · exact same

/-! ### The rectifier at a station trip and at an emergency, R132 and R137 -/

/-- The blocks that an entry of the rectifier leaves. -/
structure RectApart (s t : State) : Prop where
  calm : Calm s t
  fct : t.fct = s.fct
  ltu : t.ltu = s.ltu
  sco : t.sco = s.sco
  stl : t.stl = s.stl
  drc : t.drc = s.drc

theorem RectApart.refl (s : State) : RectApart s s := ⟨Calm.refl s, rfl, rfl, rfl, rfl, rfl⟩

theorem RectEntered.apart {s t : State} {st : RectState} {c : Option Cause} {n : Option Nat} (calm : Calm s t)
    (h : RectEntered s t st c n) : RectApart s t := by
  have entered := h
  unfold RectEntered at entered
  exact ⟨calm, entered.fct, entered.ltu, entered.sco, entered.stl, entered.drc⟩

theorem RectEntered.shows' {s t : State} {st : RectState} {c : Option Cause} {n : Option Nat}
    (h : RectEntered s t st c n) : t.rcu.state = st ∧ t.rcu.cause = c ∧ t.rcu.timer = n ∧
      t.rcu.pbSet = s.rcu.pbSet := by
  have rcu := Reports.rcu h
  exact ⟨(congrArg Rcu.state rcu :), (congrArg Rcu.cause rcu :), (congrArg Rcu.timer rcu :), (congrArg Rcu.pbSet rcu :)⟩

theorem rectState_cases (st : RectState) :
    st ∈ [RectState.starting, .regulating, .phaseBack, .stopping] ∨ st ∈ [RectState.off, .blocked, .tripped] := by
  cases st <;> decide

theorem rectState_idle {st : RectState} (idle : st ∈ [RectState.off, .blocked, .tripped]) :
    st ∉ [RectState.starting, .regulating, .phaseBack, .stopping] := by
  revert idle
  cases st <;> decide

/-- What the block of a station trip shows. -/
structure StationBlocked (s t : State) : Prop where
  apart : RectApart s t
  pbSet : t.rcu.pbSet = Vector.replicate 10 false
  blocked : s.rcu.state ∈ [RectState.starting, .regulating, .phaseBack, .stopping] →
    RectEntered { s with rcu := { s.rcu with pbSet := Vector.replicate 10 false } } t .blocked (some .station) (some 2000)
  idle : s.rcu.state ∈ [RectState.off, .blocked, .tripped] →
    t = { s with rcu := { s.rcu with pbSet := Vector.replicate 10 false } }

theorem stationBlock_blocked (s : State) : StationBlocked s s.stationBlock := by
  obtain ⟨emptied, emptied_is⟩ : ∃ x : State, x = { s with rcu := { s.rcu with pbSet := Vector.replicate 10 false } } :=
    ⟨_, rfl⟩
  have block : s.stationBlock = if emptied.rcu.active then emptied.rectBlock .station else emptied := by
    rw [emptied_is]
    rfl
  have state : emptied.rcu.state = s.rcu.state := by rw [emptied_is]
  have calm := calm_stationBlock s
  rw [block] at calm ⊢
  rcases rectState_cases s.rcu.state with active | inactive
  · rw [if_pos ((active_iff _).2 (by rw [state]; exact active))] at calm ⊢
    have entered : RectEntered emptied (emptied.rectBlock .station) .blocked (some .station) (some 2000) :=
      rectEntered emptied _ _ _
    have shows' := entered.shows'
    have sco := Reports.sco entered
    have fct := Reports.fct entered
    have ltu := Reports.ltu entered
    have stl := Reports.stl entered
    have drc := Reports.drc entered
    subst emptied_is
    refine ⟨⟨calm, fct, ltu, sco, stl, drc⟩, shows'.2.2.2, fun _ => entered, fun idle => absurd active (rectState_idle idle)⟩
  · have off : ¬ emptied.rcu.active = true := by
      rw [active_iff, state]
      exact rectState_idle inactive
    rw [if_neg off] at calm ⊢
    subst emptied_is
    exact ⟨⟨calm, rfl, rfl, rfl, rfl, rfl⟩, rfl, fun active => absurd active (rectState_idle inactive), fun _ => rfl⟩

theorem reports_stationReport (s : State) (c : Cause) (v : Option Int) :
    Reports { s with drc := s.drc.trigger s.tables s.evr.ms c .station } (s.stationReport c v)
      [(.stationTrip, .station, some c, v)] :=
  reports_trigger (reports_post (reports_refl s) .stationTrip .station (some c) v) c .station

/-- The event of a report is the newest record. -/
theorem Reports.newest {u t : State} {k : EventKind} {x : Subject} {c : Option Cause} {v : Option Int}
    (h : Reports u t [(k, x, c, v)]) : Newest t k x c v := by
  obtain ⟨_, queue, _⟩ := h
  refine ⟨u.evr.nextSeq, ?_⟩
  rw [show t.evr = _ from queue]
  exact List.getLast?_concat ..

theorem StationNoticed.congr {s x t : State} {g : Feeder} (tables : x.tables = s.tables) (fct : x.fct = s.fct)
    (h : StationNoticed x t g) : StationNoticed s t g :=
  h.of_bystander tables (.of_eq (by rw [fct]))

/-- The notices of a station trip or an emergency, from the state that the rectifier has left. -/
structure NoticesShown (s y t : State) : Prop where
  calm : Calm y t
  sco : t.sco = s.sco
  stl : t.stl = y.stl
  drc : t.drc = s.drc
  noticed : ∀ g : Feeder, s.tables.feeder[g].inUse = true → StationNoticed s t g

theorem noticesGiven_from {s y : State} (waits : ∀ g ∈ s.ltu.queue, s.fct[g].state = .testWait)
    (fct : y.fct = s.fct) (ltu : y.ltu = s.ltu) (sco : y.sco = s.sco) (drc : y.drc = s.drc)
    (tables : y.tables = s.tables) : NoticesShown s y (noticesGiven y) := by
  obtain ⟨coord, drc', _⟩ := noticesGiven_kept y
  refine ⟨noticesGiven_calm y, coord.sco.trans sco, coord.stl, drc'.trans drc, fun g used => ?_⟩
  refine (noticesGiven_shown (fun g mem => ?_) g (by rw [tables]; exact used)).congr tables fct
  rw [ltu] at mem
  rw [fct]
  exact waits g mem

/-! ### BREAKER_FAIL_NOTICE, R157 and R158 -/

theorem stationNotices_eq (s : State) : s.stationNotices = noticesGiven s := by
  rw [noticesGiven_eq]
  rfl

/-- The notice taken off, with its steps. -/
theorem breakerFailNotice_runs {s : State} {f : Feeder} (running : s.phase = .running) (handed : f ∈ s.stl.failNotices) :
    ∃ s1 : State, Reports { s with stl := { s.stl with
        lockout := true, failNotices := s.stl.failNotices.erase f } } s1 [] ∧
      exec (.breakerFailNotice f) s = .next ((requestsGiven s (noticesGiven s1.stationBlock)).stationReport
        .breakerFail (some (f.val : Int))) := by
  obtain ⟨x, x_is⟩ : ∃ x : State, x = { s with stl := { s.stl with failNotices := s.stl.failNotices.erase f } } :=
    ⟨_, rfl⟩
  have locks := reports_changing (reportFree_stl fun z => { z with lockout := true }) (reports_refl x)
  have tables : (noticesGiven (x.setLockout true).stationBlock).tables = s.tables := by
    rw [(noticesGiven_calm _).tables, (calm_stationBlock _).tables, (calm_setLockout x true).tables, x_is]
  have runs : exec (.breakerFailNotice f) s = .next (x.stationTrip .breakerFail (f.val : Int)) := by
    show execBreakerFailNotice f s = _
    unfold execBreakerFailNotice
    rw [whenRunning_on running, if_pos (List.contains_iff_mem.2 handed), x_is]
  refine ⟨x.setLockout true, ?_, ?_⟩
  · rw [x_is] at locks ⊢
    exact locks
  · rw [runs]
    unfold State.stationTrip
    rw [stationNotices_eq, stationRequests_eq tables]

/-- Settles O51. -/
theorem stationTripTaken : Obligations.StationTripTaken := by
  refine ⟨fun s f running => ⟨fun absent => ?_, fun handed => ?_⟩, stationNotice_taken⟩
  · show execBreakerFailNotice f s = _
    unfold execBreakerFailNotice
    rw [whenRunning_on running, if_neg fun is => absent (List.contains_iff_mem.1 is)]
  obtain ⟨s1, locks, runs⟩ := breakerFailNotice_runs running handed
  have blocks := stationBlock_blocked s1
  have rcu1 : s1.rcu = s.rcu := locks.rcu
  obtain ⟨s2, s2_is⟩ : ∃ s2, s2 = s1.stationBlock := ⟨_, rfl⟩
  rw [← s2_is] at runs blocks
  have lockCalm : Untouched s s1 := by
    obtain ⟨phase, pending, clock, tables, smp, mga, link, ms, rif⟩ := locks.untouched
    exact ⟨phase, pending, clock, tables, smp, mga, link, ms, rif⟩
  have kept := noticesGiven_kept s2
  obtain ⟨s3, s3_is⟩ : ∃ s3, s3 = noticesGiven s2 := ⟨_, rfl⟩
  have calm3 : Calm s2 s3 := s3_is ▸ noticesGiven_calm s2
  have tables3 : s3.tables = s.tables := calm3.tables.trans (blocks.apart.calm.tables.trans lockCalm.tables)
  have requests := requestsGiven_shown tables3
  obtain ⟨s4, s4_is⟩ : ∃ s4, s4 = requestsGiven s s3 := ⟨_, rfl⟩
  have report := reports_stationReport s4 .breakerFail (some (f.val : Int))
  rw [← s3_is, ← s4_is] at runs
  rw [← s3_is] at kept
  rw [← s4_is] at requests
  obtain ⟨t, t_is⟩ : ∃ t, t = s4.stationReport .breakerFail (some (f.val : Int)) := ⟨_, rfl⟩
  rw [← t_is] at runs report
  have calm4 : Calm s4 t := t_is ▸ calm_stationReport s4 .breakerFail (some (f.val : Int))
  refine ⟨t, runs, ⟨s1, s2, s3, s4, locks, ?_, s3_is, s4_is, report⟩, fun waits => ?_⟩
  · obtain ⟨_, _, blocked, idle⟩ := blocks
    rw [rcu1] at blocked idle
    exact ⟨blocked, idle⟩
  have from2 := noticesGiven_from waits (y := s2) (blocks.apart.fct.trans locks.fct) (blocks.apart.ltu.trans locks.ltu)
    (blocks.apart.sco.trans locks.sco) (blocks.apart.drc.trans locks.drc)
    (blocks.apart.calm.tables.trans lockCalm.tables)
  rw [← s3_is] at from2
  have rest : Untouched s t := lockCalm.trans
    (((blocks.apart.calm.trans calm3).trans requests.calm).trans calm4).untouched
  have stl : t.stl = { s.stl with lockout := true, failNotices := s.stl.failNotices.erase f } := by
    rw [report.stl]
    show s4.stl = _
    rw [requests.blocks.stl, from2.stl, blocks.apart.stl, locks.stl]
  have rcu : t.rcu = s3.rcu := report.rcu.trans requests.blocks.rcu
  have unphased : s2.rcu.state ≠ .phaseBack := by
    rcases rectState_cases s.rcu.state with active | inactive
    · obtain ⟨state, _⟩ := (blocks.blocked (by rw [rcu1]; exact active)).shows'
      rw [state]
      nofun
    · rw [blocks.idle (by rw [rcu1]; exact inactive)]
      show s1.rcu.state ≠ .phaseBack
      rw [rcu1]
      exact fun is => absurd (is ▸ inactive) (by decide)
  obtain ⟨set, set_is, low⟩ := kept.rcu unphased
  refine ⟨rest, stl, ?_, fun active => ?_, fun inactive => ?_, fun g used => ?_, fun g => ⟨fun coupled used numbered req
    pending => ?_, fun untaken => ?_⟩, report.newest, ?_⟩
  · rw [rcu, set_is]
    refine Vector.ext fun i bound => ?_
    have cleared := low ⟨i, bound⟩ (by rw [blocks.pbSet]; exact Vector.getElem_replicate ..)
    rw [Vector.getElem_replicate]
    exact cleared
  · obtain ⟨state, cause, timer, _⟩ := (blocks.blocked (by rw [rcu1]; exact active)).shows'
    rw [rcu, set_is]
    exact ⟨state, cause, timer⟩
  · rw [rcu, set_is, blocks.idle (by rw [rcu1]; exact inactive)]
    show s1.rcu.state = _ ∧ s1.rcu.cause = _
    rw [rcu1]
    exact ⟨rfl, rfl⟩
  · have fct : t.fct = s4.fct := report.fct
    obtain ⟨state, lockCause, openingCause, timer⟩ := requests.shows' g
    exact (from2.noticed g used).keep (by rw [fct, state]) (by rw [fct, lockCause]) (by rw [fct, openingCause])
      (by rw [fct, timer])
  · have taken := requests.taken g
    rw [from2.sco] at taken
    rw [show t.sco = s4.sco from report.sco]
    exact taken coupled used numbered req pending
  · have stays := requests.untaken g
    rw [from2.sco] at stays
    rw [show t.sco = s4.sco from report.sco]
    exact stays untaken
  · rw [report.drc]
    show s4.drc.trigger s4.tables s4.evr.ms .breakerFail .station = _
    rw [requests.blocks.drc, from2.drc, requests.calm.tables, tables3]
    congr 1
    rw [← rest.ms]
    exact calm4.untouched.ms.symm

/-! ### EMERGENCY_OPEN and STATION_RESET, R160 and R162 -/

/-- What the stop of an emergency shows. -/
structure RectStopped (s t : State) : Prop where
  apart : RectApart s t
  stops : s.rcu.state ∈ [RectState.starting, .regulating, .phaseBack] → RectEntered s t .stopping none (some 2000)
  idle : s.rcu.state ∈ [RectState.stopping, .off, .blocked, .tripped] → t = s

theorem rectStop_stopped (s : State) : RectStopped s s.rectStop.1 := by
  have stop (active : s.rcu.state ∈ [RectState.starting, .regulating, .phaseBack]) :
      s.rectStop.1 = s.rectEnter .stopping none (some halfSecond) := by
    unfold State.rectStop
    simp only [List.mem_cons, List.not_mem_nil, or_false] at active
    rcases active with is | is | is <;> rw [is]
  have stay (inactive : s.rcu.state ∈ [RectState.stopping, .off, .blocked, .tripped]) : s.rectStop.1 = s := by
    unfold State.rectStop
    simp only [List.mem_cons, List.not_mem_nil, or_false] at inactive
    rcases inactive with is | is | is | is <;> rw [is]
  have cases' : s.rcu.state ∈ [RectState.starting, .regulating, .phaseBack] ∨
      s.rcu.state ∈ [RectState.stopping, .off, .blocked, .tripped] := by
    cases s.rcu.state <;> decide
  refine ⟨?_, fun active => ?_, stay⟩
  · rcases cases' with active | inactive
    · have calm := calm_rectStop s
      rw [stop active] at calm ⊢
      exact (rectEntered s .stopping none (some halfSecond)).apart calm
    · rw [stay inactive]
      exact RectApart.refl s
  · rw [stop active]
    exact rectEntered s .stopping none (some halfSecond)

/-- Settles O52. -/
theorem stationCommandsServed : Obligations.StationCommandsServed := by
  refine fun s r => ⟨fun granted => ?_, fun granted => ⟨fun refused => ?_, fun locked released => ?_⟩⟩
  · have stopped := rectStop_stopped (popped s)
    obtain ⟨s1, s1_is⟩ : ∃ s1, s1 = (popped s).rectStop.1 := ⟨_, rfl⟩
    obtain ⟨s2, s2_is⟩ : ∃ s2, s2 = noticesGiven s1 := ⟨_, rfl⟩
    obtain ⟨u, u_is⟩ : ∃ u, u = s2.stationReport .emergency none := ⟨_, rfl⟩
    have after : (popped s).emergency = u := by
      unfold State.emergency
      rw [stationNotices_eq, u_is, s2_is, s1_is]
    have served : Serves .emergencyOpen s r .ok [] u :=
      serve_done granted (by decide) (by rw [← after]; rfl)
    have report : Reports { s2 with drc := s2.drc.trigger s2.tables s2.evr.ms .emergency .station } u
        [(.stationTrip, .station, some .emergency, none)] := u_is ▸ reports_stationReport s2 .emergency none
    have calmed : Calm s2 u := u_is ▸ calm_stationReport s2 .emergency none
    rw [← s1_is] at stopped
    refine ⟨u, served, ⟨s1, s2, stopped.stops, stopped.idle, s2_is, report⟩, fun waits => ?_⟩
    have from1 := noticesGiven_from (s := popped s) waits (y := s1) stopped.apart.fct stopped.apart.ltu stopped.apart.sco
      stopped.apart.drc stopped.apart.calm.tables
    have kept := noticesGiven_kept s1
    rw [← s2_is] at from1 kept
    have rest : Untouched (popped s) u := ((stopped.apart.calm.trans from1.calm).trans calmed).untouched
    have rcu : u.rcu = s2.rcu := report.rcu
    have fct : u.fct = s2.fct := report.fct
    refine ⟨rest, ?_, ?_, fun active => ?_, fun inactive => ?_, fun g used => ?_, report.newest, ?_⟩
    · exact report.stl.trans (from1.stl.trans stopped.apart.stl)
    · exact report.sco.trans from1.sco
    · obtain ⟨state, _, timer, _⟩ := (stopped.stops active).shows'
      obtain ⟨set, set_is, _⟩ := kept.rcu (by rw [state]; nofun)
      rw [rcu, set_is]
      exact ⟨state, timer⟩
    · have idle := stopped.idle inactive
      have unphased : s1.rcu.state ≠ .phaseBack := by
        rw [idle]
        exact fun is => absurd ((show s.rcu.state = RectState.phaseBack from is) ▸ inactive) (by decide)
      obtain ⟨set, set_is, _⟩ := kept.rcu unphased
      rw [rcu, set_is, idle]
      exact ⟨rfl, rfl, rfl⟩
    · exact (from1.noticed g used).keep (by rw [fct]) (by rw [fct]) (by rw [fct]) (by rw [fct])
    · rw [report.drc]
      show s2.drc.trigger s2.tables s2.evr.ms .emergency .station = _
      rw [from1.drc, from1.calm.tables, stopped.apart.calm.tables]
      have ms : s2.evr.ms = s.evr.ms := calmed.untouched.ms.symm.trans rest.ms
      rw [ms]
      rfl
  · refine serve_checked_refused granted (by decide) rfl ?_
    have refusal : (popped s).stationResetRefusal =
        firstFailing [(s.stl.lockout, .state), (s.stl.leakage != .operated, .state)] := rfl
    rw [refusal]
    rcases refused with open' | operated
    · rw [open']
      rfl
    · rw [operated]
      cases s.stl.lockout <;> rfl
  · refine ⟨(popped s).setLockout false, serve_checked_accepted granted (by decide) rfl ?_,
      reports_changing (reportFree_stl fun z => { z with lockout := false }) (reports_refl (popped s))⟩
    have refusal : (popped s).stationResetRefusal =
        firstFailing [(s.stl.lockout, .state), (s.stl.leakage != .operated, .state)] := rfl
    rw [refusal, locked, (bne_iff_ne).2 released]
    rfl

end Sys2Proof.Machine
end

-- ==== The loss of a point ====
section
/-!
A point that becomes LOST, with what its consumers do at the loss notice: O21.
-/

namespace Sys2Proof.Machine
open Sys2Proof

/-! ### The current of a feeder, R41 and R73 -/

theorem fpuLoss_eq (s : State) (f : Feeder) : s.fpuLoss f = { s with
    fpu := if s.tables.feeder[f].inUse = true then s.fpu.set f { s.fpu[f] with
      imaxRun := 0, ddl := { iPrev := none, run := none }, sum := 0, count := 0 } else s.fpu } := by
  unfold State.fpuLoss
  split <;> rfl

/-- The controller's part of the loss notice of its current, R73. -/
theorem blindActed (s : State) (f : Feeder) : BlindActed s (s.fctLoss f) f := by
  have loss : s.fctLoss f = if s.tables.feeder[f].blindOpen = false then s
      else if s.fct[f].state = .service ∨ s.fct[f].state = .closing then s.openWithoutTrip f .blind
      else if isPending s.fct[f].state then (s.withdrawPending f).lockOut f .blind else s := by
    unfold State.fctLoss
    cases s.tables.feeder[f].blindOpen <;> rfl
  refine ⟨fun stays => ?_, fun acts moves => ?_, fun acts pending => ?_⟩
  · rcases stays with idle | state
    · rw [loss, if_pos (Bool.eq_false_iff.2 idle)]
    · have unmoved : ¬ (s.fct[f].state = .service ∨ s.fct[f].state = .closing) := by
        revert state
        cases s.fct[f].state <;> decide
      have free : ¬ isPending s.fct[f].state = true := by
        revert state
        cases s.fct[f].state <;> decide
      rw [loss, if_neg unmoved, if_neg free, ite_self]
  · have moved : s.fct[f].state = .service ∨ s.fct[f].state = .closing := by
      simpa only [List.mem_cons, List.not_mem_nil, or_false] using moves
    rw [loss, if_neg (by rw [acts]; nofun), if_pos moved]
    exact reports_openWithoutTrip (reports_refl s) f .blind
  · have unmoved : ¬ (s.fct[f].state = .service ∨ s.fct[f].state = .closing) := by
      revert pending
      show s.fct[f].state ∈ _ → _
      cases s.fct[f].state <;> decide
    have locks : s.fctLoss f = (s.withdrawPending f).lockOut f .blind := by
      rw [loss, if_neg (by rw [acts]; nofun), if_neg unmoved, if_pos ((isPending_mem _).2 pending)]
    rw [locks]
    exact withdrawn_lockOut s f .blind

/-- The state that the blind action leaves. -/
theorem BlindActed.state {s t : State} {f : Feeder} (h : BlindActed s t f) : t.fct[f].state =
    if s.tables.feeder[f].blindOpen = false then s.fct[f].state
    else match s.fct[f].state with
      | .service => .opening
      | .closing => .opening
      | .testWait => .lockout
      | .testing => .lockout
      | .deadTime => .lockout
      | .follow => .lockout
      | st => st := by
  obtain ⟨stays, moves, pends⟩ := h
  cases acts : s.tables.feeder[f].blindOpen with
  | false =>
    rw [if_pos rfl, stays (Or.inl (by rw [acts]; nofun))]
  | true =>
    rw [if_neg nofun]
    have moved (is : s.fct[f].state ∈ [FeederState.service, .closing]) : t.fct[f].state = .opening := by
      rw [fct_set_self (moves acts is).fct]
      rfl
    have pended (is : s.fct[f].state ∈ [FeederState.testWait, .testing, .deadTime, .follow]) :
        t.fct[f].state = .lockout := by
      obtain ⟨u, -, locks⟩ := pends acts is
      rw [fct_set_self locks.fct]
      rfl
    have stayed (is : s.fct[f].state ∈ [FeederState.unknown, .opening, .out, .lockout]) :
        t.fct[f].state = s.fct[f].state := by rw [stays (Or.inr is)]
    cases is : s.fct[f].state with
    | service => exact moved (by rw [is]; decide)
    | closing => exact moved (by rw [is]; decide)
    | testWait => exact pended (by rw [is]; decide)
    | testing => exact pended (by rw [is]; decide)
    | deadTime => exact pended (by rw [is]; decide)
    | follow => exact pended (by rw [is]; decide)
    | unknown => exact (stayed (by rw [is]; decide)).trans is
    | opening => exact (stayed (by rw [is]; decide)).trans is
    | out => exact (stayed (by rw [is]; decide)).trans is
    | lockout => exact (stayed (by rw [is]; decide)).trans is

/-! ### A line voltage or the bus voltage, R90 -/

/-- The part of slot k at a loss notice. -/
def State.lossAt (s : State) (uses : Feeder → Bool) (k : TestSlot) : State :=
  match s.ltu.slot[k].testing with
  | some f => if uses f then s.endTest k f inconclusive else s
  | none => s

theorem ltuLoss_eq (s : State) (uses : Feeder → Bool) : s.ltuLoss uses = (s.lossAt uses 0).lossAt uses 1 := rfl

/-- A slot after a loss notice. -/
def lostPhase (uses : Feeder → Bool) (ph : TestPhase) : TestPhase :=
  match ph.testing with
  | some f => if uses f then .release f 800 (some { kind := .inconclusive, rLine := none }) else ph
  | none => ph

theorem lossAt_slot (s : State) (uses : Feeder → Bool) (k : TestSlot) :
    (s.lossAt uses k).ltu.slot = s.ltu.slot.set k (lostPhase uses s.ltu.slot[k]) := by
  unfold State.lossAt lostPhase
  cases s.ltu.slot[k].testing with
  | none => exact (Vector.set_getElem_self ..).symm
  | some f =>
    dsimp only
    split
    · rfl
    · exact (Vector.set_getElem_self ..).symm

theorem ltuLoss_slot (s : State) (uses : Feeder → Bool) (k : TestSlot) :
    (s.ltuLoss uses).ltu.slot[k] = lostPhase uses s.ltu.slot[k] := by
  rw [ltuLoss_eq, lossAt_slot, lossAt_slot]
  have cases' : k = 0 ∨ k = 1 := by revert k; decide
  rcases cases' with is | is <;> subst is <;> simp

theorem lossAt_lost (s : State) {p : Point} {uses : Feeder → Bool}
    (reads : ∀ f : Feeder, uses f = true ↔ p.val = 20 ∨ p.val = f.val + 10) (k : TestSlot) :
    TestLost s (s.lossAt uses k) p k := by
  unfold State.lossAt
  refine ⟨fun f tests due => ?_, fun spared => ?_⟩
  · rw [tests]
    exact if_pos ((reads f).2 due)
  · cases tests : s.ltu.slot[k].testing with
    | none => rfl
    | some f =>
      obtain ⟨bus, line⟩ := spared f tests
      exact if_neg fun is => ((reads f).1 is).elim bus line

/-- What a loss notice of a voltage shows and leaves. -/
structure VoltageLost (u v : State) (p : Point) : Prop where
  rest : Untouched u v
  fpu : v.fpu = u.fpu
  slots : ∀ k : TestSlot, v.ltu.slot[k] = match u.ltu.slot[k].testing with
    | some f => if p.val = 20 ∨ p.val = f.val + 10 then
        .release f 800 (some { kind := .inconclusive, rLine := none }) else u.ltu.slot[k]
    | none => u.ltu.slot[k]
  steps : ∃ w : State, TestLost u w p 0 ∧ TestLost w v p 1

theorem ltuLoss_lost (u : State) {p : Point} {uses : Feeder → Bool}
    (reads : ∀ f : Feeder, uses f = true ↔ p.val = 20 ∨ p.val = f.val + 10) : VoltageLost u (u.ltuLoss uses) p := by
  refine ⟨(calm_ltuLoss u uses).untouched, (quiet_ltuLoss u uses).fpu, fun k => ?_,
    u.lossAt uses 0, lossAt_lost u reads 0, lossAt_lost _ reads 1⟩
  refine (ltuLoss_slot u uses k).trans ?_
  unfold lostPhase
  cases u.ltu.slot[k].testing with
  | none => rfl
  | some f => exact if_congr (reads f) rfl rfl

/-! ### The point that is LOST, R14 -/

theorem lossNotice_voltage (u : State) {p : Point} (low : 10 ≤ p.val) (high : p.val ≤ 20) :
    VoltageLost u (u.lossNotice p) p := by
  unfold State.lossNotice
  by_cases bus : p.val = 20
  · rw [pointRole_bus bus]
    exact ltuLoss_lost u fun f => iff_of_true rfl (Or.inl bus)
  · obtain ⟨g, line⟩ : ∃ g : Feeder, p.val = g.val + 10 := ⟨⟨p.val - 10, by omega⟩, (Nat.sub_add_cancel low).symm⟩
    rw [pointRole_line line]
    refine ltuLoss_lost u fun f => ?_
    rw [beq_iff_eq, or_iff_right bus, line]
    exact ⟨fun is => by rw [is], fun is => Fin.ext (by omega)⟩

theorem lossNotice_current (u : State) {p : Point} {f : Feeder} (is : p.val = f.val) :
    u.lossNotice p = (u.fpuLoss f).fctLoss f := by
  unfold State.lossNotice
  rw [pointRole_current is]

/-- Settles O21. -/
theorem pointLossTaken : Obligations.PointLossTaken := by
  refine fun s p running => ⟨fun early => (due_next running).2 ?_, fun sighted due => ?_⟩
  · rw [Bool.and_eq_true]
    exact early
  have lost := reports_changing (reportFree_modPoint p fun x =>
    { x with sighted := false, ref := none, age := 0, lossDue := false }) (reports_refl s)
  obtain ⟨u, u_is⟩ : ∃ u, u = s.changing fun s => s.modPoint p fun x =>
    { x with sighted := false, ref := none, age := 0, lossDue := false } := ⟨_, rfl⟩
  rw [← u_is] at lost
  have runs : exec (.pointLoss p) s = .next (s.losePoint p) :=
    (due_next running).1 (by rw [Bool.and_eq_true]; exact ⟨sighted, due⟩)
  refine ⟨u, u.lossNotice p, s.losePoint p, lost, rfl, runs, ?_, fun is => ?_, fun is => ?_, fun is => ?_,
    fun low high => ?_, fun low high => (lossNotice_voltage u low high).steps, fun f is => ?_⟩
  · unfold State.losePoint
    rw [← u_is]
    dsimp only
    split
    · exact reports_post (reports_refl _) _ _ _ _
    · exact reports_refl _
  · unfold State.lossNotice
    rw [pointRole_ac is]
  · unfold State.lossNotice
    rw [pointRole_rect is]
    rfl
  · unfold State.lossNotice
    rw [pointRole_leak is]
    show State.leakLoss u = _
    unfold State.leakLoss
    cases u.stl.leakage <;> rfl
  · obtain ⟨rest, fpu, slots, -⟩ := lossNotice_voltage u low high
    exact ⟨rest, fpu, slots⟩
  · rw [lossNotice_current u is]
    have fpu : ((u.fpuLoss f).fctLoss f).fpu = (u.fpuLoss f).fpu := (quiet_fctLoss _ f).fpu
    have acted := blindActed (u.fpuLoss f) f
    have rest := (calm_fctLoss (u.fpuLoss f) f).untouched
    rw [fpu]
    rw [fpuLoss_eq] at acted rest ⊢
    refine ⟨rfl, acted, ?_, acted.state⟩
    obtain ⟨phase, pending, clock, tables, smp, mga, link, ms, rif⟩ := rest
    exact ⟨phase, pending, clock, tables, smp, mga, link, ms, rif⟩

end Sys2Proof.Machine
end

-- ==== Samples ====
section
/-!
The stream map as a lookup by the first entry that fits, the key that feeds a point, and a sample by its case: O19.
-/

namespace Sys2Proof.Machine
open Sys2Proof

/-! ### The stream map, R5 to R7 and R9 -/

/-- The first entry that passes a test is the one found among the occupied entries. -/
theorem find?_occupied {α : Type} {n : Nat} (entries : Vector (Option α) n) (test : α → Bool) {i : Nat} (h : i < n)
    {e : α} (is : entries[i] = some e) (passes : test e = true)
    (first : ∀ (j : Nat) (hj : j < i) (e' : α), entries[j] = some e' → test e' = false) :
    (entries.toList.filterMap id).find? test = some e := by
  rw [List.find?_filterMap]
  have found : entries.toList.find? (fun a => Option.any test (id a)) = some (some e) := by
    rw [List.find?_eq_some_iff_getElem]
    refine ⟨passes, i, by rw [Vector.length_toList]; exact h, by rw [Vector.getElem_toList]; exact is, fun j hj => ?_⟩
    rw [Vector.getElem_toList]
    cases at' : entries[j] with
    | none => rfl
    | some e' =>
      show (!test e') = true
      rw [first j hj e' at']
      rfl
  rw [found]
  rfl

theorem find?_occupied_none {α : Type} {n : Nat} (entries : Vector (Option α) n) (test : α → Bool)
    (fails : ∀ (i : Nat) (_ : i < n) (e : α), entries[i] = some e → test e = false) :
    (entries.toList.filterMap id).find? test = none := by
  rw [List.find?_eq_none]
  intro e mem passes
  rw [List.mem_filterMap] at mem
  obtain ⟨a, mem, is⟩ := mem
  obtain ⟨i, bound, at'⟩ := List.getElem_of_mem mem
  rw [Vector.getElem_toList] at at'
  have failed := fails i (by rw [Vector.length_toList] at bound; exact bound) e (at'.trans is)
  rw [passes] at failed
  cases failed

theorem pointTest_iff (key : Key) (e : MapPoint) :
    (e.node == key.1 && e.channel == key.2) = true ↔ e.node = key.1 ∧ e.channel = key.2 := by
  rw [Bool.and_eq_true, beq_iff_eq, beq_iff_eq]

theorem rangeTest_iff (key : Key) (e : MapRange) :
    (e.channel == key.2 && decide (e.base ≤ key.1) && decide (key.1 < e.base + e.size)) = true ↔
      e.channel = key.2 ∧ e.base ≤ key.1 ∧ key.1 < e.base + e.size := by
  rw [Bool.and_eq_true, Bool.and_eq_true, beq_iff_eq, decide_eq_true_iff, decide_eq_true_iff, and_assoc]

theorem lookup_of_point {t : Tables} {key : Key} {e : MapPoint} (is : pointEntryFor t key = some e) :
    lookup t key = some { point := e.point, gain := e.gain, shift := e.shift, offset := e.offset } := by
  unfold lookup
  rw [is]

theorem lookup_of_range {t : Tables} {key : Key} {e : MapRange} (absent : pointEntryFor t key = none)
    (is : rangeEntryFor t key = some e) : lookup t key =
      some { point := e.first + (key.1 - e.base), gain := e.gain, shift := e.shift, offset := e.offset } := by
  unfold lookup
  rw [absent, is]

theorem lookup_none {t : Tables} {key : Key} (absent : pointEntryFor t key = none)
    (absent' : rangeEntryFor t key = none) : lookup t key = none := by
  unfold lookup
  rw [absent, absent']

/-- The lookup of a key by the first entry that fits, R7. -/
theorem lookup_first (t : Tables) (key : Key) :
    let point (i : Nat) (h : i < 32) (e : MapPoint) : Prop :=
      t.mapPoint[i] = some e ∧ e.node = key.1 ∧ e.channel = key.2
    let range (i : Nat) (h : i < 4) (e : MapRange) : Prop :=
      t.mapRange[i] = some e ∧ e.channel = key.2 ∧ e.base ≤ key.1 ∧ key.1 < e.base + e.size
    (∀ (i : Nat) (h : i < 32) (e : MapPoint), point i h e →
      (∀ (j : Nat) (hj : j < i) (e' : MapPoint), ¬ point j (by omega) e') →
      lookup t key = some { point := e.point, gain := e.gain, shift := e.shift, offset := e.offset }) ∧
    ((∀ (i : Nat) (h : i < 32) (e : MapPoint), ¬ point i h e) →
      (∀ (i : Nat) (h : i < 4) (e : MapRange), range i h e →
        (∀ (j : Nat) (hj : j < i) (e' : MapRange), ¬ range j (by omega) e') →
        lookup t key = some { point := e.first + (key.1 - e.base), gain := e.gain, shift := e.shift
                              offset := e.offset }) ∧
      ((∀ (i : Nat) (h : i < 4) (e : MapRange), ¬ range i h e) → lookup t key = none)) := by
  refine ⟨fun i h e fits first => ?_, fun absent => ⟨fun i h e fits first => ?_, fun absent' => ?_⟩⟩
  · refine lookup_of_point (find?_occupied t.mapPoint _ h fits.1 ((pointTest_iff key e).2 fits.2) ?_)
    exact fun j hj e' at' => Bool.eq_false_iff.2 fun test => first j hj e' ⟨at', (pointTest_iff key e').1 test⟩
  · have none : pointEntryFor t key = .none := find?_occupied_none t.mapPoint _ fun i h e at' =>
      Bool.eq_false_iff.2 fun test => absent i h e ⟨at', (pointTest_iff key e).1 test⟩
    refine lookup_of_range none (find?_occupied t.mapRange _ h fits.1 ((rangeTest_iff key e).2 fits.2) ?_)
    exact fun j hj e' at' => Bool.eq_false_iff.2 fun test => first j hj e' ⟨at', (rangeTest_iff key e').1 test⟩
  · have none : pointEntryFor t key = .none := find?_occupied_none t.mapPoint _ fun i h e at' =>
      Bool.eq_false_iff.2 fun test => absent i h e ⟨at', (pointTest_iff key e).1 test⟩
    refine lookup_none none (find?_occupied_none t.mapRange _ fun i h e at' => ?_)
    exact Bool.eq_false_iff.2 fun test => absent' i h e ⟨at', (rangeTest_iff key e).1 test⟩

/-- A key that the map looks up is a key of its point. -/
theorem mem_keysOf {t : Tables} {key : Key} {x : Feed} (is : lookup t key = some x) : key ∈ keysOf t x.point := by
  unfold keysOf
  rw [List.mem_map]
  refine ⟨(x.point, key), ?_, rfl⟩
  rw [List.mem_filter, List.mem_append, List.mem_flatMap, List.mem_flatMap]
  refine ⟨?_, beq_self_eq_true _⟩
  unfold lookup at is
  cases point : pointEntryFor t key with
  | some e =>
    rw [point] at is
    cases is
    have holds := List.find?_some (show List.find? _ _ = some e from point)
    have test := (pointTest_iff key e).1 holds
    refine Or.inl ⟨e, List.mem_of_find?_eq_some point, ?_⟩
    unfold mapPointFeeds
    rw [List.mem_singleton, test.1, test.2]
  | none =>
    rw [point] at is
    cases range : rangeEntryFor t key with
    | none => rw [range] at is; cases is
    | some e =>
      rw [range] at is
      cases is
      have holds := List.find?_some (show List.find? _ _ = some e from range)
      obtain ⟨channel, low, high⟩ := (rangeTest_iff key e).1 holds
      refine Or.inr ⟨e, List.mem_of_find?_eq_some range, ?_⟩
      unfold mapRangeFeeds
      rw [List.mem_map]
      refine ⟨key.1 - e.base, List.mem_range.2 (by omega), ?_⟩
      rw [Nat.add_sub_cancel' low, channel]

theorem feedOf_feeds {t : Tables} {p : Nat} {key : Key} {x : Feed} (is : feedOf t p = some (key, x)) :
    lookup t key = some x ∧ x.point = p := by
  unfold feedOf at is
  obtain ⟨k, -, gives⟩ := List.exists_of_findSome?_eq_some is
  cases found : lookup t k with
  | none => rw [found] at gives; cases gives
  | some y =>
    rw [found] at gives
    dsimp only at gives
    by_cases fed : y.point = p
    · rw [if_pos fed] at gives
      cases gives
      exact ⟨found, fed⟩
    · rw [if_neg fed] at gives
      cases gives

theorem feedOf_none {t : Tables} {p : Nat} (none : feedOf t p = none) {key : Key} {x : Feed}
    (found : lookup t key = some x) : x.point ≠ p := by
  intro fed
  unfold feedOf at none
  have gives := List.findSome?_eq_none_iff.1 none key (fed ▸ mem_keysOf found)
  rw [found] at gives
  dsimp only at gives
  rw [if_pos fed] at gives
  cases gives

/-! ### A sample by its case, R11 to R15 -/

theorem pointLimit_eq {p : Nat} (h : p < 24) :
    pointLimit p = if p < 10 ∨ p = 21 ∨ p = 23 then (60000 : Int) else 40000 := by
  have all : ∀ q : Fin 24, pointLimit q.val = if q.val < 10 ∨ q.val = 21 ∨ q.val = 23 then (60000 : Int) else 40000 := by
    decide
  exact all ⟨p, h⟩

theorem seqDiff_eq (a b : Nat) : seqDiff a b = ((a : Int) - b + 32768) % 65536 - 32768 := by
  unfold seqDiff
  dsimp only
  split <;> omega

/-- The value of a sample that is not INVALID. -/
theorem sampleValue_valid (x : Feed) (h : x.point < 24) (raw : Int) {q : Quality} (valid : q ≠ .invalid) :
    sampleValue x raw q = some (if q = .good then convert x raw
      else if x.offset ≤ raw then if x.point < 10 ∨ x.point = 21 ∨ x.point = 23 then 60000 else 40000
      else -(if x.point < 10 ∨ x.point = 21 ∨ x.point = 23 then 60000 else 40000)) := by
  unfold sampleValue
  rw [pointLimit_eq h]
  cases q with
  | good => rfl
  | overrange => rfl
  | invalid => exact absurd rfl valid

/-- A sample is handed on as accepted, with its interval and its mark. -/
theorem accept_delivers (s : State) (p : Point) (seq : Nat) (v : Int) (k : Nat) (disc : Bool) : ∃ t : State,
    Reports { s with smp := { s.smp with points := (s.smp.points.set p
        { sighted := true, ref := some seq, last := v, age := 0, lossDue := false }) } } t
      (if s.smp.points[p].sighted = false ∧ s.pointInUse p = true then
        [(.sighted, pointSubject p, none, some (p.val : Int))] else []) ∧
    s.accept p seq v k disc = t.deliver p v k disc := by
  have renewed := reports_changing (reportFree_modPoint p fun _ =>
    { sighted := true, ref := some seq, last := v, age := 0, lossDue := false }) (reports_refl s)
  have lost : (s.lost p && s.pointInUse p) = true ↔ s.smp.points[p].sighted = false ∧ s.pointInUse p = true := by
    unfold State.lost
    rw [Bool.and_eq_true, Bool.not_eq_true']
  refine ⟨_, ?_, rfl⟩
  by_cases posts : s.smp.points[p].sighted = false ∧ s.pointInUse p = true
  · rw [if_pos posts, if_pos (lost.2 posts)]
    exact reports_post renewed _ _ _ _
  · rw [if_neg posts, if_neg fun is => posts (lost.1 is)]
    exact renewed

section
variable {s : State} {key : Key} {x : Feed} {seq : Nat} {raw : Int} {q : Quality}

theorem takeSample_unmapped (none : lookup s.tables key = none) :
    s.takeSample key seq raw q = { s with smp := s.smp.noteUnmapped key } := by
  unfold State.takeSample
  simp only [none]

theorem takeSample_invalid (found : lookup s.tables key = some x) : s.takeSample key seq raw .invalid =
    { s with smp := { s.smp with invalid := satInc 65535 s.smp.invalid } } := by
  unfold State.takeSample
  simp only [found, sampleValue]

/-- What a sample with a value does by its freshness. -/
def State.judgedSample (s : State) (p : Point) (seq : Nat) (v : Int) : Judged → State
  | .stale => { s with smp := { s.smp with stale := satInc 65535 s.smp.stale } }
  | .interval k => s.accept p seq v k false
  | .marked => s.accept p seq v 1 true

theorem takeSample_valued (found : lookup s.tables key = some x) (h : x.point < 24) {v : Int}
    (value : sampleValue x raw q = some v) : s.takeSample key seq raw q =
      s.judgedSample ⟨x.point, h⟩ seq v (judge s.smp.points[x.point] seq) := by
  unfold State.takeSample
  simp only [found, value, dif_pos h]
  cases judge s.smp.points[x.point] seq <;> rfl

end

section
variable {p : PointRec} {seq : Nat}

theorem judge_marked (unref : p.sighted = false ∨ p.ref = none) : judge p seq = .marked := by
  have none : (if p.sighted then p.ref else none) = none := by
    rcases unref with lost | absent
    · rw [lost]
      rfl
    · rw [absent, ite_self]
  unfold judge
  simp only [none]

theorem judge_referred {ref : Nat} (sighted : p.sighted = true) (is : p.ref = some ref) : judge p seq =
    if ((seq : Int) - ref + 32768) % 65536 - 32768 ≤ 0 then .stale
    else if ((seq : Int) - ref + 32768) % 65536 - 32768 ≤ 4 then
      .interval (((seq : Int) - ref + 32768) % 65536 - 32768).toNat
    else .marked := by
  unfold judge
  simp only [sighted, is, if_true, seqDiff_eq]

end

/-- Settles O19. -/
theorem sampleByCases : Obligations.SampleByCases := by
  refine ⟨fun s key seq raw q => ⟨fun absent => ?_, fun x h found => ⟨fun invalid => ?_, fun valid => ?_⟩⟩, lookup_first,
    fun t p => ⟨fun key x => feedOf_feeds, fun absent key x => feedOf_none absent⟩⟩
  · rw [takeSample_unmapped absent]
    unfold Smp.noteUnmapped
    cases s.smp.unmappedKey <;> rfl
  · rw [invalid]
    exact takeSample_invalid found
  · intro p limit v accepted
    have sample := takeSample_valued (seq := seq) found h (sampleValue_valid x h raw valid)
    have marked (judged : judge s.smp.points[x.point] seq = .marked) : accepted 1 true := by
      rw [judged] at sample
      obtain ⟨t, renewed, delivered⟩ := accept_delivers s p seq v 1 true
      exact ⟨t, renewed, sample.trans delivered⟩
    refine ⟨fun unref => marked (judge_marked unref), fun ref sighted is => ?_⟩
    have judged := judge_referred (seq := seq) sighted is
    refine ⟨fun old => ?_, fun low high => ?_, fun far => marked ?_⟩
    · rw [if_pos old] at judged
      exact sample.trans (congrArg _ judged)
    · rw [if_neg (by omega), if_pos high] at judged
      obtain ⟨t, renewed, delivered⟩ := accept_delivers s p seq v
        (((seq : Int) - ref + 32768) % 65536 - 32768).toNat false
      exact ⟨t, renewed, (sample.trans (congrArg _ judged)).trans delivered⟩
    · rw [if_neg (by omega), if_neg (by omega)] at judged
      exact judged

end Sys2Proof.Machine
end

-- ==== The checks of the management agent ====
section
/-!
The checks of R216 spelled out: the operation, the role, the access, the mode, the store, the index and the
length: O16.
-/

namespace Sys2Proof.Machine
open Sys2Proof

/-- Check 1: the operation and the object. -/
theorem opDefined_iff (op obj : Nat) : opDefined op obj = true ↔
    (1 ≤ obj ∧ obj ≤ 11 ∧ (op = 1 ∨ op = 2)) ∨ (16 ≤ obj ∧ obj ≤ 29 ∧ op = 1) ∨ (32 ≤ obj ∧ obj ≤ 50 ∧ op = 3) := by
  unfold opDefined opRead opWrite opCommand
  split
  · rw [Bool.or_eq_true, beq_iff_eq, beq_iff_eq]
    omega
  split
  · rw [beq_iff_eq]
    omega
  split
  · rw [beq_iff_eq]
    omega
  · exact iff_of_false nofun (by omega)

/-- Check 2: the role of a source. -/
theorem roleOf_eq (s : State) (src : Nat) : s.roleOf src =
    if s.mga.unconfigured = true ∨ s.tables.station.panel = some src then some Role.panel
    else if s.tables.station.gateway = some src then some Role.control else none := by
  unfold State.roleOf
  cases s.mga.unconfigured
  · rw [if_neg nofun]
    exact if_congr (by simp) rfl rfl
  · rw [if_pos rfl, if_pos (Or.inl rfl)]

/-- Check 3, of an operation and an object that pass check 1. -/
theorem admits_iff {op obj : Nat} (defined : opDefined op obj = true) (role : Role) : admits op obj role = true ↔
    ¬ ((role = .control ∧ (op = 2 ∨ obj = 42)) ∨ (role = .panel ∧ obj = 45)) := by
  rw [opDefined_iff] at defined
  unfold admits opWrite
  by_cases write : op = 2
  · have other : obj ≠ 45 := by omega
    rw [if_pos (beq_iff_eq.2 write)]
    cases role <;> simp [write, other]
  rw [if_neg fun is => write (beq_iff_eq.1 is)]
  by_cases setMode : obj = 42
  · rw [if_pos (beq_iff_eq.2 setMode)]
    cases role <;> simp [setMode]
  rw [if_neg fun is => setMode (beq_iff_eq.1 is)]
  by_cases ack : obj = 45
  · rw [if_pos (beq_iff_eq.2 ack)]
    cases role <;> simp [write, ack]
  · rw [if_neg fun is => ack (beq_iff_eq.1 is)]
    cases role <;> simp [write, setMode, ack]

/-- Check 4: a switching command by the control mode. -/
theorem switching_iff (op obj : Nat) (mode : ControlMode) (role : Role) :
    (!(op == opCommand && isSwitching obj) || modeAdmits mode role) = true ↔
      ¬ (op = 3 ∧ obj ∈ [32, 33, 34, 36, 37, 38, 39, 40] ∧
        ((role = .control ∧ mode = .localMode) ∨ (role = .panel ∧ mode = .remote))) := by
  have modes : modeAdmits mode role = true ↔
      ¬ ((role = .control ∧ mode = .localMode) ∨ (role = .panel ∧ mode = .remote)) := by
    cases mode <;> cases role <;> decide
  unfold isSwitching
  rw [Bool.or_eq_true, Bool.not_eq_true', modes, ← and_assoc, not_and_or, Bool.eq_false_iff, Ne, Bool.and_eq_true,
    beq_iff_eq, List.contains_iff_mem]
  rfl

/-- Check 5: a write, STORE or RESTART beside a store. -/
theorem store_iff (busy : Bool) (r : Request) : (!(busy && (r.op == opWrite || isStoreOrRestart r))) = true ↔
    ¬ (busy = true ∧ (r.op = 2 ∨ (r.op = 3 ∧ (r.obj = 49 ∨ r.obj = 50)))) := by
  unfold isStoreOrRestart opWrite opCommand
  rw [Bool.not_eq_true', Bool.eq_false_iff, Ne, Bool.and_eq_true, Bool.or_eq_true, beq_iff_eq, Bool.and_eq_true,
    beq_iff_eq, Bool.or_eq_true, beq_iff_eq, beq_iff_eq]

/-! ### Check 6: the index and the length -/

/-- The number of instances of an object, R220. -/
def instancesOf (obj : Nat) : Nat :=
  if obj = 2 then 32 else if obj ∈ [3, 7, 21] then 4
  else if obj ∈ [4, 5, 6, 18, 19, 22, 32, 33, 34, 35] then 10
  else if obj = 9 then 65 else if obj = 17 then 24 else 1

theorem indexCount_eq {op obj : Nat} (defined : opDefined op obj = true) : indexCount obj = instancesOf obj := by
  have all : ∀ o : Fin 51, indexCount o.val = instancesOf o.val := by decide
  rw [opDefined_iff] at defined
  exact all ⟨obj, by omega⟩

theorem mapPointFits_iff (d : List Byte) : (decodeMapPoint d).isSome = true ↔
    ((d.getD 0 0).toNat = 0 ∧ d.length = 1) ∨ ((d.getD 0 0).toNat = 1 ∧ d.length = 12) := by
  unfold decodeMapPoint byteAt
  split
  next absent => exact iff_of_true rfl (Or.inl absent)
  next present =>
    split
    next is => exact iff_of_true rfl (Or.inr is)
    next is => exact iff_of_false nofun (not_or.2 ⟨present, is⟩)

theorem mapRangeFits_iff (d : List Byte) : (decodeMapRange d).isSome = true ↔
    ((d.getD 0 0).toNat = 0 ∧ d.length = 1) ∨ ((d.getD 0 0).toNat = 1 ∧ d.length = 14) := by
  unfold decodeMapRange byteAt
  split
  next absent => exact iff_of_true rfl (Or.inl absent)
  next present =>
    split
    next is => exact iff_of_true rfl (Or.inr is)
    next is => exact iff_of_false nofun (not_or.2 ⟨present, is⟩)

/-- The length that a write's data has, by its object. -/
def WriteFits (obj n first : Nat) : Prop :=
  if obj = 1 then n = 18 else if obj = 2 then (first = 0 ∧ n = 1) ∨ (first = 1 ∧ n = 12)
  else if obj = 3 then (first = 0 ∧ n = 1) ∨ (first = 1 ∧ n = 14)
  else if obj = 4 then n = 41 else if obj = 5 ∨ obj = 6 then n = 22
  else if obj = 7 then n = 9 else if obj = 8 then n = 29
  else if obj = 9 then n % 2 = 0 ∧ 2 ≤ n ∧ n ≤ 32
  else if obj = 10 then n = 5 + first else n = 1 + 4 * first

/-- The length that the data of a read or a command has, by its object. -/
def ReadFits (obj n : Nat) : Prop :=
  if obj ∈ [9, 27, 42] then n = 1 else if obj = 29 then n = 3 else if obj ∈ [39, 43] then n = 4
  else if obj = 44 then n = 2 else n = 0

theorem lengthFits_write {obj : Nat} (d : List Byte) (low : 1 ≤ obj) (high : obj ≤ 11) :
    lengthFits 2 obj d = true ↔ WriteFits obj d.length (d.getD 0 0).toNat := by
  unfold lengthFits WriteFits
  rw [if_pos (by rfl)]
  interval_cases obj
  · exact beq_iff_eq
  · exact mapPointFits_iff d
  · exact mapRangeFits_iff d
  · exact beq_iff_eq
  · exact beq_iff_eq
  · exact beq_iff_eq
  · exact beq_iff_eq
  · exact beq_iff_eq
  · simp [and_assoc]
  · exact beq_iff_eq
  · exact beq_iff_eq

theorem lengthFits_read {op obj : Nat} (d : List Byte) (read : op ≠ 2) :
    lengthFits op obj d = true ↔ ReadFits obj d.length := by
  unfold lengthFits opWrite
  rw [if_neg fun is => read (beq_iff_eq.1 is)]
  split
  case h_8 =>
    rename_i n9 n27 n29 n39 n42 n43 n44
    unfold ReadFits
    rw [if_neg (by simpa using ⟨n9, n27, n42⟩), if_neg n29, if_neg (by simpa using ⟨n39, n43⟩), if_neg n44]
    exact beq_iff_eq
  all_goals exact beq_iff_eq

/-- A case distinction decided case by case. -/
theorem ite_iff_ite {c P Q : Prop} [Decidable c] {a b : Bool} (yes : P ↔ a = true) (no : Q ↔ b = true) :
    (if c then P else Q) ↔ (if c then a else b) = true := by
  split
  · exact yes
  · exact no

/-- The refusal of a request with a role, by its four last checks. -/
theorem agentRefusal_role {s : State} {r : Request} {role : Role} (defined : opDefined r.op r.obj = true)
    (is : s.roleOf r.src = some role) : s.agentRefusal r =
      if admits r.op r.obj role = true then
        if (!(r.op == opCommand && isSwitching r.obj) || modeAdmits s.mga.mode role) = true then
          if (!(s.mga.busy && (r.op == opWrite || isStoreOrRestart r))) = true then
            if (decide (r.index < indexCount r.obj) && lengthFits r.op r.obj r.data) = true then none else some .range
          else some .busy
        else some .mode
      else some .access := by
  unfold State.agentRefusal
  rw [is]
  simp only [firstFailing, defined, if_true, Option.isSome_some, Option.any_some]

theorem agentRefusal_stranger {s : State} {r : Request} (defined : opDefined r.op r.obj = true)
    (none : s.roleOf r.src = none) : s.agentRefusal r = some .access := by
  unfold State.agentRefusal
  rw [none]
  simp [firstFailing, defined]

theorem agentRefusal_undefined {s : State} {r : Request} (undefined : ¬ opDefined r.op r.obj = true) :
    s.agentRefusal r = some .unknown := by
  unfold State.agentRefusal firstFailing
  exact if_neg undefined

/-- Settles O16. -/
theorem agentChecksInOrder : Obligations.AgentChecksInOrder := by
  intro s r instances n first lengthOk
  rw [← roleOf_eq]
  by_cases defined : opDefined r.op r.obj = true
  case neg => rw [if_pos fun is => defined ((opDefined_iff r.op r.obj).2 is), agentRefusal_undefined defined]
  rw [if_neg (not_not.2 ((opDefined_iff r.op r.obj).1 defined))]
  have length : lengthFits r.op r.obj r.data = true ↔ lengthOk = true := by
    have bounds := (opDefined_iff r.op r.obj).1 defined
    by_cases write : r.op = 2
    · rw [write, lengthFits_write r.data (by omega) (by omega)]
      simp only [lengthOk, if_pos write]
      iterate 9 refine ite_iff_ite decide_eq_true_iff.symm ?_
      exact decide_eq_true_iff.symm
    · rw [lengthFits_read r.data write]
      simp only [lengthOk, if_neg write]
      iterate 4 refine ite_iff_ite decide_eq_true_iff.symm ?_
      exact decide_eq_true_iff.symm
  have range : (decide (r.index < indexCount r.obj) && lengthFits r.op r.obj r.data) = true ↔
      ¬ (instances ≤ r.index ∨ lengthOk = false) := by
    rw [Bool.and_eq_true, decide_eq_true_iff, length, indexCount_eq defined, not_or, not_le, Bool.not_eq_false]
    rfl
  cases role : s.roleOf r.src with
  | none => exact agentRefusal_stranger defined role
  | some role =>
    rw [agentRefusal_role defined (by assumption)]
    simp only [admits_iff defined, switching_iff, store_iff, range, ite_not]

end Sys2Proof.Machine
end

-- ==== Plain reads ====
section
/-!
The status fields as the reads without a row send them, the answer to such a read, and the list served up to its
first request with a row: O15.
-/

namespace Sys2Proof.Machine
open Sys2Proof

/-! ### The fields of the status objects -/

theorem pointStatus_eq (s : State) (p : Point) : s.pointStatus p = pointFields s p := by
  unfold State.pointStatus pointFields oneNum
  dsimp only
  cases s.smp.points[p].ref <;> rfl

/-- A trip context record as it is sent, R43. -/
def contextSent (x : TripContext) : List (Option (List Int)) :=
  [some [(x.cause.code : Int)], some [(x.time : Int)],
    some [match x.bank with
      | .a => 0
      | .b => 1],
    some [x.current], x.delta.map fun d => [d], x.t.map fun n => [(n : Int)],
    x.theta.map fun n => [(n : Int)], x.secNo.map fun n => [(n : Int)], some [(x.further : Int)]]

theorem contextParts_eq (x : TripContext) : contextParts x = contextSent x := by
  unfold contextParts contextSent optPart
  cases x.t <;> cases x.theta <;> cases x.secNo <;> rfl

theorem protectionStatus_eq (s : State) (f : Feeder) : s.protectionStatus f = protectionFields s f := by
  unfold State.protectionStatus oneNum
  rw [funext contextParts_eq]
  rfl

theorem closable_flags (s : State) (f : Feeder) : s.closable f = (s.fct[f].supervised &&
    s.fct[f].status.any (fun b => b.ready && !b.localOp) && s.smp.points[f.val].sighted) := by
  unfold State.closable Fct.breakerReady State.blind State.lost
  rw [Bool.not_not]
  cases s.fct[f].status <;> rfl

/-- The running timer as it is sent, R76. -/
theorem timerShown_eq (c : Fct) : c.timerShown = c.timer.map fun n => match c.state with
      | .closing => [0, ((n / 4 : Nat) : Int)]
      | .opening => [1, ((n / 4 : Nat) : Int)]
      | .deadTime => [2, ((n / 400 : Nat) : Int)]
      | .service => [3, ((n / 400 : Nat) : Int)]
      | .follow => [4, ((n / 400 : Nat) : Int)]
      | _ => [5, ((n / 400 : Nat) : Int)] := by
  unfold Fct.timerShown
  cases c.state <;> rfl

theorem markField_test (st : FeederState) (m : Bool) : markField (inTest st) m =
    .maybe (if st = .testWait ∨ st = .testing then some [flagNum m] else none) := by
  cases st <;> rfl

theorem markField_opening (st : FeederState) (m : Bool) : markField (st == .opening) m =
    .maybe (if st = .opening then some [flagNum m] else none) := by
  cases st <;> rfl

theorem oneNum_cause (x : Option Cause) :
    oneNum (x.map causeNum) = .maybe (x.map fun c => [(c.code : Int)]) := by
  cases x <;> rfl

theorem switchingStatus_eq (s : State) (f : Feeder) : s.switchingStatus f = switchingFields s f := by
  unfold State.switchingStatus switchingFields
  dsimp only
  rw [closable_flags, timerShown_eq, markField_test, markField_opening, markField_opening, oneNum_cause, oneNum_cause]
  rfl

theorem slotFields_eq (ph : TestPhase) : slotFields ph = slotStatus ph := by
  cases ph with
  | release f n o =>
    cases o with
    | none => rfl
    | some x =>
      obtain ⟨kind, line⟩ := x
      cases kind <;> cases line <;> rfl
  | free => rfl
  | contact f n => rfl
  | settle f n => rfl
  | window f w n a b => rfl

theorem neighbourStatus_eq (s : State) (n : Slot) : s.neighbourStatus n = neighbourFields s n := by
  simp only [State.neighbourStatus, msField, oneNum, Option.map_map]
  rfl

theorem sectionStatus_eq (s : State) (f : Feeder) : s.sectionStatus f = sectionFields s f := by
  simp only [State.sectionStatus, msField, oneNum, Option.map_map, farCoupled_eq_any, farTestEnd_eq_any,
    farClosed_eq_any, farTesting_eq_any, farLineLive_eq_any, farBusLive_eq_any]
  rfl

theorem rectifierStatus_eq (s : State) : s.rectifierStatus = rectifierFields s (curveValid s.tables.curve) := by
  simp only [State.rectifierStatus, msField, oneNum, Option.map_map]
  rfl

theorem stationTripStatus_eq (s : State) : s.stationTripStatus = stationFields s := by
  unfold State.stationTripStatus stationFields oneNum
  cases s.stl.leakage <;> rfl

theorem ofNat_points (points : List Nat) : points.map Int.ofNat = points.map fun p => (p : Int) := by
  induction points with
  | nil => rfl
  | cons p rest ih => exact congrArg (Int.ofNat p :: ·) ih

theorem capacity_sum (chain : List ChainDesc) : ((chainCapacity chain : Nat) : Int) =
    ((chain.map fun c => if c.length = 0 then 4096 else c.length).sum : Int) := by
  unfold chainCapacity
  induction chain with
  | nil => rfl
  | cons c rest ih =>
    rw [List.map_cons, List.map_cons, List.sum_cons, List.sum_cons, Nat.cast_add, ih]
    congr 1
    unfold descSize
    split <;> rfl

theorem recordParts_eq (points : List Nat) (x : RecordInProgress) : recordParts points x = inProgress points x := by
  unfold recordParts inProgress part
  rw [ofNat_points]
  obtain ⟨_, _, _, _, _, _, _, _, reason⟩ := x
  cases reason with
  | none => rfl
  | some reason => cases reason <;> rfl

theorem recorderStatus_eq (s : State) : s.recorderStatus = recorderFields s (!s.recArmRefused) := by
  unfold State.recorderStatus recorderFields oneNum
  dsimp only
  rw [capacity_sum, ofNat_points]
  cases s.drc.state with
  | capturing x => simp only [recordParts_eq]; rfl
  | draining x => simp only [recordParts_eq]; rfl
  | idle => rfl
  | armed b => rfl
  | held len reason => rfl

/-! ### The bytes of a field, R221 (log entry 9) -/

theorem statusBytes_append (obj : Nat) (xs : List StatusField) (x : StatusField) :
    statusBytes obj [] = [] ∧ statusBytes obj (xs ++ [x]) = statusBytes obj xs ++ fieldBytes obj xs.length x := by
  refine ⟨rfl, ?_⟩
  unfold statusBytes
  rw [List.zipIdx_append, List.flatMap_append]
  simp

theorem fieldBytes_forms (obj place : Nat) (v : List Int) (parts : List (Option (List Int)))
    (part : Option (List Int)) :
    fieldBytes obj place (.plain v) = 1 :: Config.statusValue obj place v ∧
    fieldBytes obj place (.maybe (some v)) = 1 :: Config.statusValue obj place v ∧
    fieldBytes obj place (.maybe none) = [0] ∧ fieldBytes obj place (.group none) = [0] ∧
    fieldBytes obj place (.group (some [])) = [1] ∧
    fieldBytes obj place (.group (some (parts ++ [part]))) = fieldBytes obj place (.group (some parts)) ++
      (match part with
        | none => [0]
        | some w => 1 :: Config.statusValue obj place ((parts.length : Int) :: w)) := by
  refine ⟨rfl, rfl, rfl, rfl, rfl, ?_⟩
  unfold fieldBytes
  dsimp only
  rw [List.zipIdx_append, List.flatMap_append]
  cases part <;> simp [presence]

/-! ### The head that waits, R95 -/

theorem headWaits_head {s : State} {f : Feeder} {rest : List Feeder} (queue : s.ltu.queue = f :: rest) :
    s.headWaits = if s.sco.sect[f].farTesting then 1 else if s.lost busPoint then 2
      else if s.ownRelease f then 3 else if s.freeSlot.isNone then 4 else 0 := by
  unfold State.headWaits
  simp only [queue]

theorem freeSlot_isNone (s : State) : s.freeSlot.isNone = true ↔ s.ltu.slot[0] ≠ .free ∧ s.ltu.slot[1] ≠ .free := by
  unfold State.freeSlot
  split
  next first => exact iff_of_false nofun fun is => is.1 first
  next first =>
    split
    next second => exact iff_of_false nofun fun is => is.2 second
    next second => exact iff_of_true rfl ⟨first, second⟩

theorem headWaits_waits (s : State) : WaitsFor s s.headWaits := by
  refine ⟨fun empty => ?_, fun f rest queue => ?_⟩
  · unfold State.headWaits
    rw [empty]
  have lost : s.lost busPoint = true ↔ s.smp.points[20].sighted = false := Bool.not_eq_true' _ ▸ Iff.rfl
  rw [headWaits_head queue, farTesting_eq_any]
  refine ⟨fun far => if_pos far, fun near blind => ?_, fun near seen released => ?_,
    fun near seen unreleased full => ?_, fun near seen unreleased free => ?_⟩
  · rw [if_neg near, if_pos (lost.2 blind)]
  · rw [if_neg near, if_neg fun is => seen (lost.1 is), if_pos ((ownRelease_iff s f).2 released)]
  · rw [if_neg near, if_neg fun is => seen (lost.1 is), if_neg fun is => unreleased ((ownRelease_iff s f).1 is),
      if_pos ((freeSlot_isNone s).2 full)]
  · rw [if_neg near, if_neg fun is => seen (lost.1 is), if_neg fun is => unreleased ((ownRelease_iff s f).1 is),
      if_neg fun is => free ((freeSlot_isNone s).1 is)]

/-! ### The answer, R221 -/

theorem feederAt_val (f : Feeder) : feederAt f.val = some f := dif_pos f.isLt
theorem slotAt_val (n : Slot) : slotAt n.val = some n := dif_pos n.isLt
theorem pointAt_val (p : Point) : pointAt p.val = some p := dif_pos p.isLt

theorem toList_getD {α : Type} {n : Nat} (v : Vector α n) (i : Nat) (h : i < n) (d : α) : v.toList.getD i d = v[i] := by
  rw [List.getD_eq_getElem _ _ (by rw [Vector.length_toList]; exact h), Vector.getElem_toList]

/-- The entries of a READ of CURVE, R145. -/
theorem curve_entries (curve : Vector Nat 65) {index count : Nat} (inside : index + count ≤ 65) :
    ((curve.toList.drop index).take count).length = count ∧
    ∀ i (h : i < 65) (hc : i - index < ((curve.toList.drop index).take count).length), index ≤ i →
      ((curve.toList.drop index).take count)[i - index] = curve[i] := by
  refine ⟨by rw [List.length_take, List.length_drop, Vector.length_toList]; omega, fun i h hc low => ?_⟩
  rw [List.getElem_take, List.getElem_drop, Vector.getElem_toList]
  congr 1
  omega

/-- REC_ARM would be accepted, R187. -/
theorem armable_iff (s : State) : (!s.recArmRefused) = true ↔
    (s.drc.state = .idle ∨ ∃ n x, s.drc.state = .held n x) ∧ s.tables.chain ≠ [] ∧
      8 + s.tables.recorder.points.length ≤ (s.tables.chain.map fun c => if c.length = 0 then 4096 else c.length).sum := by
  have capacity : chainCapacity s.tables.chain =
      (s.tables.chain.map fun c => if c.length = 0 then 4096 else c.length).sum := rfl
  rw [← capacity, Bool.not_eq_true', Bool.eq_false_iff, Ne, recArmRefused_iff]
  cases s.drc.state <;> simp

/-- The answer to a plain read that the agent accepts. -/
theorem plainAnswer (s : State) (r : Request) : PlainAnswer s r (s.plainRead r).1 (s.plainRead r).2 := by
  obtain ⟨src, tag, op, obj, index, data⟩ := r
  refine ⟨?_, ?_, ?_, ?_, ?_, ?_, ?_, ?_, ?_, ?_, ?_, ?_, ?_, ?_⟩
  · rintro rfl
    exact ⟨rfl, rfl⟩
  · rintro i h rfl rfl
    refine ⟨rfl, ?_⟩
    show encodeMapPoint (s.tables.mapPoint.toList.getD index none) = _
    rw [toList_getD _ _ h]
  · rintro i h rfl rfl
    refine ⟨rfl, ?_⟩
    show encodeMapRange (s.tables.mapRange.toList.getD index none) = _
    rw [toList_getD _ _ h]
  · rintro f rfl
    refine ⟨?_, ?_, ?_, ?_, ?_, ?_⟩ <;> rintro rfl
    · refine ⟨rfl, ?_⟩
      show (feederAt f.val).elim [] (fun f => encodeFeeder s.tables.feeder[f]) = _
      rw [feederAt_val]
      rfl
    · refine ⟨rfl, ?_⟩
      show (feederAt f.val).elim [] (fun f => encodeBank s.tables.bankA[f]) = _
      rw [feederAt_val]
      rfl
    · refine ⟨rfl, ?_⟩
      show (feederAt f.val).elim [] (fun f => encodeBank s.tables.bankB[f]) = _
      rw [feederAt_val]
      rfl
    · rw [← protectionStatus_eq]
      refine ⟨rfl, ?_⟩
      show statusBytes 18 ((feederAt f.val).elim [] s.protectionStatus) = _
      rw [feederAt_val]
      rfl
    · rw [← switchingStatus_eq]
      refine ⟨rfl, ?_⟩
      show statusBytes 19 ((feederAt f.val).elim [] s.switchingStatus) = _
      rw [feederAt_val]
      rfl
    · rw [← sectionStatus_eq]
      refine ⟨rfl, ?_⟩
      show statusBytes 22 ((feederAt f.val).elim [] s.sectionStatus) = _
      rw [feederAt_val]
      rfl
  · rintro n rfl
    refine ⟨?_, ?_⟩ <;> rintro rfl
    · refine ⟨rfl, ?_⟩
      show (slotAt n.val).elim [] (fun n => encodeNeighbour s.tables.neighbour[n]) = _
      rw [slotAt_val]
      rfl
    · rw [← neighbourStatus_eq]
      refine ⟨rfl, ?_⟩
      show statusBytes 21 ((slotAt n.val).elim [] s.neighbourStatus) = _
      rw [slotAt_val]
      rfl
  · rintro rfl
    exact ⟨rfl, rfl⟩
  · rintro count rfl rfl
    obtain ⟨count, count_is⟩ : ∃ count, count = (data.getD 0 0).toNat := ⟨_, rfl⟩
    have read : s.plainRead { src := src, tag := tag, op := op, obj := 9, index := index, data := data } =
        if 1 ≤ count ∧ count ≤ 16 ∧ index + count ≤ 65 then
          (.ok, encodeCurve ((s.tables.curve.toList.drop index).take count))
        else (.range, []) := by
      rw [count_is]
      rfl
    rw [read, ← count_is]
    refine ⟨fun outside => ?_, fun low high inside => ?_⟩
    · change count = 0 ∨ 16 < count ∨ 65 < index + count at outside
      rw [if_neg (by omega)]
      exact ⟨rfl, rfl⟩
    · rw [if_pos ⟨low, high, inside⟩]
      obtain ⟨length, entries⟩ := curve_entries s.tables.curve inside
      exact ⟨rfl, _, length, entries, rfl⟩
  · rintro rfl
    exact ⟨rfl, rfl⟩
  · rintro rfl
    exact ⟨rfl, rfl⟩
  · rintro p rfl rfl
    rw [← pointStatus_eq]
    refine ⟨rfl, ?_⟩
    show statusBytes 17 ((pointAt p.val).elim [] s.pointStatus) = _
    rw [pointAt_val]
    rfl
  · rintro rfl
    refine ⟨rfl, s.headWaits, headWaits_waits s, ?_⟩
    rw [← slotFields_eq, ← slotFields_eq]
    rfl
  · rintro rfl
    refine ⟨rfl, curveValid s.tables.curve, curveValid_iff _, ?_⟩
    rw [← rectifierStatus_eq]
    rfl
  · rintro rfl
    rw [← stationTripStatus_eq]
    exact ⟨rfl, rfl⟩
  · rintro rfl
    refine ⟨rfl, !s.recArmRefused, ?_, ?_⟩
    · exact armable_iff s
    · rw [← recorderStatus_eq]
      rfl

/-! ### The list served, R215 (log entry 7) -/

/-- A plain read that is refused carries no data. -/
theorem plainRead_refused (s : State) (r : Request) (refused : (s.plainRead r).1 ≠ .ok) : (s.plainRead r).2 = [] := by
  unfold State.plainRead at *
  by_cases low : r.obj ≤ 11
  · rw [if_pos low] at *
    unfold State.settingsRead at *
    dsimp only at *
    split at refused
    case h_9 =>
      split at refused
      · exact absurd rfl refused
      next outside =>
        simp only [outside, if_false]
    case h_12 => rfl
    all_goals exact absurd rfl refused
  · rw [if_neg low] at refused
    exact absurd rfl refused

theorem servePlain_refused {s : State} {r : Request} {st : Status} (refused : s.agentRefusal r = some st) :
    s.servePlain r = s.respond r st [] := by
  unfold State.servePlain
  rw [refused]
  rfl

theorem servePlain_accepted {s : State} {r : Request} (accepted : s.agentRefusal r = none) :
    s.servePlain r = s.respond r (s.plainRead r).1 (s.plainRead r).2 := by
  have bare := plainRead_refused s r
  unfold State.servePlain
  rw [accepted]
  generalize s.plainRead r = answer at bare
  obtain ⟨st, data⟩ := answer
  cases st with
  | ok => rfl
  | _ =>
    have none : data = [] := bare nofun
    subst none
    rfl

/-- What the service of a request without a row answers. -/
theorem servePlain_answers (s : State) (r : Request) : ∃ st data,
    (∀ x, s.agentRefusal r = some x → st = x ∧ data = []) ∧ (s.agentRefusal r = none → PlainAnswer s r st data) ∧
      s.servePlain r = s.respond r st data := by
  cases refusal : s.agentRefusal r with
  | some st =>
    refine ⟨st, [], fun x is => ?_, nofun, servePlain_refused refusal⟩
    cases is
    exact ⟨rfl, rfl⟩
  | none => exact ⟨_, _, nofun, fun _ => plainAnswer s r, servePlain_accepted refusal⟩

theorem servePlain_mga (s : State) (r : Request) : (s.servePlain r).mga = s.mga := by
  obtain ⟨st, data, -, -, is⟩ := servePlain_answers s r
  rw [is]
  rfl

theorem servePlains_cons {s : State} {r : Request} {rest : List Request} (n : Nat)
    (requests : s.mga.requests = r :: rest) : State.servePlains (n + 1) s =
      if hasRow r then s else State.servePlains n (s.popRequest.servePlain r) := by
  rw [State.servePlains]
  simp only [requests]

theorem servePlains_nil {s : State} (n : Nat) (empty : s.mga.requests = []) : State.servePlains n s = s := by
  cases n with
  | zero => rfl
  | succ n =>
    rw [State.servePlains]
    simp only [empty]

theorem popRequest_cons {s : State} {r : Request} {rest : List Request} (requests : s.mga.requests = r :: rest) :
    s.popRequest = { s with mga := { s.mga with requests := rest } } := by
  unfold State.popRequest
  rw [requests]
  rfl

/-- A bound that covers the list serves as a larger one does. -/
theorem servePlains_enough (n : Nat) (s : State) (short : s.mga.requests.length ≤ n) :
    State.servePlains (n + 1) s = State.servePlains n s := by
  induction n generalizing s with
  | zero =>
    have empty : s.mga.requests = [] := List.eq_nil_of_length_eq_zero (Nat.le_zero.1 short)
    rw [servePlains_nil _ empty, servePlains_nil _ empty]
  | succ n ih =>
    cases requests : s.mga.requests with
    | nil => rw [servePlains_nil _ requests, servePlains_nil _ requests]
    | cons r rest =>
      rw [servePlains_cons _ requests, servePlains_cons _ requests, ih]
      rw [servePlain_mga, popRequest_cons requests]
      rw [requests] at short
      exact Nat.le_of_succ_le_succ short

/-- The list is served request by request. -/
theorem settle_plain {s : State} (short : s.mga.requests.length ≤ 7) {r : Request} {rest : List Request}
    (requests : s.mga.requests = r :: rest) (plain : hasRow r = false) :
    s.settle = (State.servePlain { s with mga := { s.mga with requests := rest } } r).settle := by
  unfold State.settle
  rw [servePlains_cons 6 requests, if_neg (by rw [plain]; nofun), popRequest_cons requests, servePlains_enough 6]
  rw [servePlain_mga]
  rw [requests] at short
  exact Nat.le_of_succ_le_succ short

theorem settle_row {s : State} (rows : ∀ r ∈ s.mga.requests.head?, hasRow r = true) : s.settle = s := by
  unfold State.settle
  cases requests : s.mga.requests with
  | nil => exact servePlains_nil 7 requests
  | cons r rest =>
    rw [servePlains_cons 6 requests, if_pos (rows r (by rw [requests]; rfl))]

/-! ### A request taken, R209 and R215 -/

theorem requestOf_fields (fr : RxFrame) : requestOf (rxToFrame 9 fr) =
    { src := fr.src.toNat, tag := (fr.payload.getD 0 0).toNat * 256 + (fr.payload.getD 1 0).toNat
      op := (fr.payload.getD 2 0).toNat, obj := (fr.payload.getD 3 0).toNat
      index := (fr.payload.getD 4 0).toNat, data := fr.payload.drop 5 } := rfl

/-- What is sent of an answer (log entry 9). -/
theorem responseData_sent (data : List Byte) :
    (data.length ≤ 117 → responseData data = data) ∧ (responseData data).length ≤ 117 := by
  unfold responseData
  split
  next short => exact ⟨fun _ => rfl, short⟩
  next long => exact ⟨fun short => absurd short long, by rw [List.length_take]; exact Nat.min_le_left ..⟩

/-- Settles O15. -/
theorem requestTakenAndAnswered : Obligations.RequestTakenAndAnswered := by
  refine ⟨fun s fr forPart => ?_, fun s r st data => ?_, fun s short => ⟨settle_row, fun r rest requests plain => ?_⟩,
    statusBytes_append, fieldBytes_forms⟩
  · have runs : exec (.requestFrame fr) s = .next (s.requestIn (rxToFrame 9 fr)) :=
      receive_forPart forPart (by decide)
    rw [runs]
    refine ⟨fun room => ?_, fun full => ?_⟩
    · unfold State.requestIn
      rw [if_pos room, requestOf_fields]
    · unfold State.requestIn
      rw [if_neg (Nat.not_lt.2 full)]
  · obtain ⟨whole, short⟩ := responseData_sent data
    exact ⟨responseData data, whole, short, rfl⟩
  · obtain ⟨st, data, refused, accepted, is⟩ :=
      servePlain_answers { s with mga := { s.mga with requests := rest } } r
    refine ⟨st, data, refused, accepted, ?_⟩
    rw [settle_plain short requests plain, is]

end Sys2Proof.Machine
end

-- ==== Reads with a row ====
section
/-!
The five reads with a row of their own: O55.
-/

namespace Sys2Proof.Machine
open Sys2Proof

/-- The role that a granted request is served with. -/
theorem granted_role {s : State} {r : Request} {op obj : Nat} (h : Granted s r op obj) :
    ∃ role, s.roleOf r.src = some role ∧ writerOf s r = role.cause := by
  have all := (firstFailing_none_iff _).1 h.passes
  have some' : (s.roleOf r.src).isSome = true := all ((s.roleOf r.src).isSome, .access) (by simp)
  obtain ⟨role, is⟩ := Option.isSome_iff_exists.1 some'
  refine ⟨role, is, ?_⟩
  rw [← roleCause_granted h]
  unfold State.roleCause
  rw [show (popped s).roleOf r.src = some role from is]

/-- The acknowledge option counts for the control gateway, R177. -/
theorem acknowledges_iff {s : State} {r : Request} {op obj : Nat} (h : Granted s r op obj) :
    s.acknowledges r = true ↔ (r.data.getD 0 0).getLsbD 0 = true ∧ writerOf s r = .control := by
  obtain ⟨role, is, writer⟩ := granted_role h
  unfold State.acknowledges
  rw [is, writer, Bool.and_eq_true]
  exact and_congr_right fun _ => by cases role <;> decide

theorem readSummary_granted {s : State} {r : Request} (h : Granted s r 1 27) : exec .readSummary s =
    .next (if s.acknowledges r then ((popped s).respond r .ok (popped s).summaryAnswer).ackNotice
      else (popped s).respond r .ok (popped s).summaryAnswer).settle := by
  obtain ⟨rest, head⟩ := h.waits
  show execReadSummary s = _
  unfold execReadSummary State.readSummary
  rw [whenRunning_on h.running, head]
  dsimp only
  rw [if_pos ((isOf_iff r opRead [27]).2 ⟨h.op, by rw [h.obj]; decide⟩), h.passes]
  rfl

theorem summaryAnswer_length (s : State) : s.summaryAnswer.length = 16 := by
  unfold State.summaryAnswer
  rw [List.length_append, List.length_append, (summaryLaidOut s).length]
  rfl

theorem summaryAnswer_eq (s : State) : s.summaryAnswer =
    summaryBytes s.summary ++ [if s.evr.notice.isSome = true then 1 else 0] ++ be16 s.evr.nextSeq := by
  unfold State.summaryAnswer
  cases s.evr.notice.isSome <;> rfl

/-! ### READ_RECORD, R195 -/

theorem recordBytes_eq (s : State) (len offset count : Nat) : (s.recordWords len offset count).flatMap wordBytes =
    (List.range count).flatMap fun i => be32 (if offset + i < len then
      match chainAddr s.tables.chain (offset + i) with
      | some a => (memRead s.drc.mem a).toNat
      | none => 0
      else 0) := by
  unfold State.recordWords
  rw [List.flatMap_map]
  refine congrArg (List.flatMap · (List.range count)) (funext fun i => ?_)
  refine congrArg be32 ?_
  unfold State.recordWord
  by_cases inside : offset + i < len
  · rw [if_pos inside, if_pos inside]
    cases chainAddr s.tables.chain (offset + i) <;> rfl
  · rw [if_neg inside, if_neg inside]
    rfl

theorem serveRecord_range {s : State} {r : Request}
    (outside : ¬ (u16At r.data 0 ≤ 32767 ∧ 1 ≤ byteAt r.data 2 ∧ byteAt r.data 2 ≤ 24)) :
    s.serveRecord r = .refused s .range := by
  unfold State.serveRecord
  dsimp only
  rw [if_neg outside]

theorem serveRecord_inside {s : State} {r : Request}
    (inside : u16At r.data 0 ≤ 32767 ∧ 1 ≤ byteAt r.data 2 ∧ byteAt r.data 2 ≤ 24) :
    (∀ len reason, s.drc.state = .held len reason → s.serveRecord r =
      { after := s, status := .ok
        data := (s.recordWords len (u16At r.data 0) (byteAt r.data 2)).flatMap wordBytes }) ∧
    ((∀ len reason, s.drc.state ≠ .held len reason) → s.serveRecord r = .refused s .state) := by
  unfold State.serveRecord
  dsimp only
  rw [if_pos inside]
  refine ⟨fun len reason held => by simp only [held], fun unheld => ?_⟩
  cases is : s.drc.state with
  | held len reason => exact absurd is (unheld len reason)
  | _ => rfl

/-- Settles O55. -/
theorem readsServed : Obligations.ReadsServed := by
  intro s r p
  refine ⟨fun granted => ?_, fun granted => ?_, fun granted => ?_, fun granted answer is => ?_,
    fun granted offset count is_offset is_count => ?_⟩
  · exact serve_done (act := State.serveMapperStatus) granted (by decide) (by
      unfold State.serveMapperStatus
      rw [granted.obj]
      rfl)
  · exact serve_done (act := State.serveRingStatus) granted (by decide) (by
      unfold State.serveRingStatus
      rw [granted.obj]
      rfl)
  · have lost : byteOfBits [s.evr.lost] = if s.evr.lost = true then 1 else 0 := by cases s.evr.lost <;> rfl
    rw [← lost]
    exact serve_done (act := State.serveEvents) granted (by decide) rfl
  · have answered : answer = p.summaryAnswer := is.trans (summaryAnswer_eq p).symm
    have acknowledges := acknowledges_iff granted
    have runs := readSummary_granted granted
    rw [answered]
    refine ⟨?_, summaryAnswer_length p, fun declined => ?_, fun asked control => ?_⟩
    · have laid := summaryLaidOut s
      have front : p.summaryAnswer.take 13 = summaryBytes s.summary := by
        rw [summaryAnswer_eq, List.append_assoc, summary_popped]
        exact List.take_left' laid.length
      rw [front]
      exact laid
    · rw [Serves, runs, if_neg]
      rw [acknowledges]
      rintro ⟨asked, control⟩
      rcases declined with unasked | panel
      · rw [asked] at unasked
        cases unasked
      · rw [panel] at control
        cases control
    · rw [runs, if_pos (acknowledges.2 ⟨asked, control⟩)]
  · have place : u16At r.data 0 = offset := by rw [u16At_append, is_offset]
    have number : byteAt r.data 2 = count := is_count.symm
    refine ⟨fun outside => ?_, fun low some' few => ⟨fun unheld => ?_, fun len reason held => ?_⟩, fun w a =>
      (liesAt_iff _ _ _).symm⟩
    · exact serve_done (act := State.serveRecord) granted (by decide)
        (serveRecord_range (by rw [place, number]; omega))
    · exact serve_done (act := State.serveRecord) granted (by decide)
        ((serveRecord_inside (s := p) (by rw [place, number]; exact ⟨low, some', few⟩)).2 unheld)
    · have served := (serveRecord_inside (s := p) (r := r) (by rw [place, number]; exact ⟨low, some', few⟩)).1 len reason held
      rw [place, number, recordBytes_eq] at served
      exact serve_done (act := State.serveRecord) granted (by decide) served

end Sys2Proof.Machine
end

-- ==== Restart ====
section
/-!
The restart of the whole part: O9.
-/

namespace Sys2Proof.Machine
open Sys2Proof

/-- TEST_OFF for a slot that is not FREE, R97. -/
def State.endPhase (s : State) (ph : TestPhase) : State :=
  match slotFeeder ph with
  | some f => s.sendOrder f .testOff
  | none => s

theorem endPhase_frame (s : State) (ph : TestPhase) : s.endPhase ph = { s with rif := (s.endPhase ph).rif } := by
  unfold State.endPhase
  cases slotFeeder ph <;> rfl

theorem putOrder_report (r : Rif) (p : OrderPlace) (fr : Frame) :
    (r.putOrder p fr).held = r.held ∧ (r.putOrder p fr).reportQ = r.reportQ := ⟨rfl, rfl⟩

theorem sendOrder_report (s : State) (f : Feeder) (o : BreakerOrder) :
    (s.sendOrder f o).rif.held = s.rif.held ∧ (s.sendOrder f o).rif.reportQ = s.rif.reportQ := by
  unfold State.sendOrder
  cases s.tables.feeder[f].breakerNode with
  | none => exact ⟨rfl, rfl⟩
  | some m => exact putOrder_report ..

theorem endPhase_report (s : State) (ph : TestPhase) :
    (s.endPhase ph).rif.held = s.rif.held ∧ (s.endPhase ph).rif.reportQ = s.rif.reportQ := by
  unfold State.endPhase
  cases slotFeeder ph with
  | none => exact ⟨rfl, rfl⟩
  | some f => exact sendOrder_report s f .testOff

/-- The part of slot k at a restart. -/
def State.restartAt (s : State) (k : TestSlot) : State :=
  match s.ltu.slot[k] with
  | .free => s
  | .contact f _ => s.sendOrder f .testOff
  | .settle f _ => s.sendOrder f .testOff
  | .window f _ _ _ _ => s.sendOrder f .testOff
  | .release f _ _ => s.sendOrder f .testOff

theorem restartAt_eq (s : State) (k : TestSlot) : s.restartAt k = s.endPhase s.ltu.slot[k] := by
  unfold State.restartAt State.endPhase
  cases s.ltu.slot[k] <;> rfl

theorem restartSlots_eq (s : State) : s.restartSlots = (s.endPhase s.ltu.slot[0]).endPhase s.ltu.slot[1] := by
  have steps : s.restartSlots = (s.restartAt 0).restartAt 1 := rfl
  have ltu : (s.endPhase s.ltu.slot[0]).ltu = s.ltu := by rw [endPhase_frame]
  rw [steps, restartAt_eq, restartAt_eq]
  exact congrArg (fun l : Ltu => (s.endPhase s.ltu.slot[0]).endPhase l.slot[1]) ltu

theorem restart_granted {s : State} {r : Request} (h : Granted s r 3 50) :
    exec .restart s = .next (((popped s).respond r .ok []).restart).settle := by
  obtain ⟨rest, head⟩ := h.waits
  show execRestart s = _
  unfold execRestart State.restartRequest
  rw [whenRunning_on h.running, head]
  dsimp only
  rw [if_pos ((isOf_iff r opCommand [50]).2 ⟨h.op, by rw [h.obj]; decide⟩), h.passes]
  rfl

/-- The recorder's restart, R198 (log entry 21). -/
theorem drcRestart_eq (d : Drc) :
    let words (buffer : List (Nat × Word)) : RecordMemory := buffer.foldl (fun m y => memStore m y.1 y.2) d.mem
    match d.state with
    | .held _ _ => d.restart = d
    | .draining _ => d.restart = { state := .idle, missed := d.missed, writeBuf := []
                                   mem := words (d.writeBuf.take (d.writeBuf.length - 3)) }
    | _ => d.restart = { state := .idle, missed := d.missed, writeBuf := [], mem := words d.writeBuf } := by
  intro words
  unfold Drc.restart
  cases is : d.state <;> rfl

/-- Settles O9. -/
theorem restartState : Obligations.RestartState := by
  intro s r granted
  obtain ⟨x, x_is⟩ : ∃ x, x = (popped s).respond r .ok [] := ⟨_, rfl⟩
  obtain ⟨q, q_is⟩ : ∃ q, q = x.restartSlots := ⟨_, rfl⟩
  have summary : x.summary = s.summary := by rw [x_is]; rfl
  have runs := restart_granted granted
  unfold State.restart at runs
  rw [← x_is, ← q_is, summary] at runs
  have frame : q = { x with rif := q.rif } := by
    rw [q_is, restartSlots_eq, endPhase_frame (x.endPhase _), endPhase_frame x]
  have report : q.rif.held = x.rif.held ∧ q.rif.reportQ = x.rif.reportQ := by
    rw [q_is, restartSlots_eq]
    obtain ⟨held, reportQ⟩ := endPhase_report x x.ltu.slot[0]
    obtain ⟨held', reportQ'⟩ := endPhase_report (x.endPhase x.ltu.slot[0]) x.ltu.slot[1]
    exact ⟨held'.trans held, reportQ'.trans reportQ⟩
  have begun : q = (((popped s).respond r .ok []).endPhase s.ltu.slot[0]).endPhase s.ltu.slot[1] := by
    rw [q_is, restartSlots_eq, x_is]
    rfl
  obtain ⟨base, base_is⟩ : ∃ base, base = q.restarted := ⟨_, rfl⟩
  rw [← base_is] at runs
  have fields : base = { s with
      clock := { s.clock with control := 0, thermal := 0, link := 0, window := 0 }
      rif := { q.rif with linkQ := [], windowBad := 0 }
      smp := { points := vmap PointRec.restart s.smp.points, unmappedKey := none, unmapped := 0, stale := 0, invalid := 0 }
      fpu := vmap Fpu.rest s.fpu
      fct := fctInitials s.tables
      ltu := Ltu.reset
      sco := Sco.reset
      rcu := rcuInitial
      stl := { s.stl with leakage := s.stl.leakage.dropPickup, failNotices := [] }
      evr := { s.evr with notice := none }
      drc := s.drc.restart
      mga := { s.mga with requests := s.mga.requests.drop 1, busy := false, storeTimer := none, image := none } } := by
    rw [base_is, frame, x_is]
    rfl
  refine ⟨q, base, base.noteChange s.summary, runs, noticed_noteChange _ _, begun, fun p => ?_, fun f => ?_,
    fun f => ?_, fun n => ?_, fun f => ?_, ?_, ?_, ?_, fun fit => ?_⟩
  · rw [fields]
    exact vmap_getElem ..
  · rw [fields]
    exact vmap_getElem ..
  · rw [fields]
    exact vmap_getElem ..
  · rw [fields]
    exact Vector.getElem_replicate ..
  · rw [fields]
    exact Vector.getElem_replicate ..
  · have drc : base.drc = s.drc.restart := by rw [fields]
    rw [drc]
    exact drcRestart_eq s.drc
  · subst fields
    rfl
  · rw [report.1, x_is]
    rfl
  · rw [report.2, x_is]
    show (if s.rif.strapFault then s.rif.reportQ else _) = _
    rw [if_neg (by rw [fit]; nofun)]
    rfl

end Sys2Proof.Machine
end

-- ==== The checks of settings writes ====
section
/-!
The checks of every settings write as their rules state them: each Boolean check beside the fault it refuses, and
each list of checks beside the list of its faults.
-/

namespace Sys2Proof.Machine
open Sys2Proof

/-! ### Lists of checks -/

theorem firstOf_nil : FirstOf [] (firstFailing []) := rfl

/-- A check and its fault in front: the faults behind it matter only where the check passes. -/
theorem firstOf_cons {holds : Bool} {p : Prop} {st : Status} {rest : List (Prop × Status)}
    {checks : List (Bool × Status)} (fault : p ↔ ¬ holds = true)
    (behind : holds = true → FirstOf rest (firstFailing checks)) :
    FirstOf ((p, st) :: rest) (firstFailing ((holds, st) :: checks)) := by
  constructor
  · intro bad
    exact if_neg (fault.1 bad)
  · intro good
    have passes : holds = true := not_not.1 fun fails => good (fault.2 fails)
    have next : firstFailing ((holds, st) :: checks) = firstFailing checks := if_pos passes
    rw [next]
    exact behind passes

/-- Nothing is refused exactly when no fault holds. -/
theorem noneOf_iff_of_firstOf {conditions : List (Prop × Status)} {r : Option Status}
    (first : FirstOf conditions r) : r = none ↔ NoneOf conditions := by
  induction conditions with
  | nil => exact iff_of_true first fun _ mem => absurd mem List.not_mem_nil
  | cons c rest ih =>
    obtain ⟨p, st⟩ := c
    obtain ⟨bad, good⟩ := first
    by_cases fault : p
    · exact iff_of_false (fun free => nomatch free.symm.trans (bad fault))
        fun noFault => noFault (p, st) List.mem_cons_self fault
    · rw [ih (good fault)]
      exact ((List.forall_mem_cons (p := fun x : Prop × Status => ¬ x.1)).trans (and_iff_right fault)).symm

/-! ### Ranges and nodes -/

theorem within_iff {lo n hi : Nat} : within lo n hi = true ↔ lo ≤ n ∧ n ≤ hi := by
  simp [within]

theorem nodeOk_iff {n : Option Nat} : nodeOk n = true ↔ NodeInRange n := by
  cases n with
  | none => exact iff_of_true rfl nofun
  | some k => exact within_iff.trans ⟨fun range _ is => Option.some.inj is ▸ range, fun all => all k rfl⟩

theorem sameNode_iff {a b : Option Nat} : sameNode a b = true ↔ ∃ k ∈ a, b = some k := by
  cases a with
  | none => simp [sameNode]
  | some k =>
    have same : sameNode (some k) b = (some k == b) := rfl
    rw [same, beq_iff_eq, eq_comm]
    exact ⟨fun is => ⟨k, rfl, is⟩, fun ⟨_, mem, is⟩ => is.trans mem.symm⟩

theorem neighbourUsed_true {r : NeighbourRec} : neighbourUsed r = true ↔ r.stationId ≠ 0 := by
  simp [neighbourUsed]

theorem any_allFeeders {p : Feeder → Bool} : allFeeders.any p = true ↔ ∃ f, p f = true := by
  simp [mem_allFeeders]

theorem any_otherFeeders {f : Feeder} {p : Feeder → Bool} :
    (otherFeeders f).any p = true ↔ ∃ g, g ≠ f ∧ p g = true := by
  simp [otherFeeders, mem_allFeeders]

theorem mem_allSlots (n : Slot) : n ∈ allSlots := by revert n; decide

theorem any_allSlots {p : Slot → Bool} : allSlots.any p = true ↔ ∃ n, p n = true := by
  simp [mem_allSlots]

theorem any_otherSlots {n : Slot} {p : Slot → Bool} :
    (allSlots.filter (· != n)).any p = true ↔ ∃ m, m ≠ n ∧ p m = true := by
  simp [mem_allSlots]

theorem isBreakerNode_iff {t : Tables} {n : Option Nat} :
    isBreakerNode t n = true ↔ ∃ k ∈ n, UsedBreakerNode t k := by
  unfold isBreakerNode UsedBreakerNode
  rw [any_allFeeders]
  simp only [Bool.and_eq_true, sameNode_iff]
  constructor
  · rintro ⟨f, used, k, mem, node⟩
    exact ⟨k, mem, f, used, node⟩
  · rintro ⟨k, mem, f, used, node⟩
    exact ⟨f, used, k, mem, node⟩

theorem isLinkNode_iff {t : Tables} {n : Option Nat} : isLinkNode t n = true ↔
    ∃ k ∈ n, ∃ m : Slot, t.neighbour[m].stationId ≠ 0 ∧ t.neighbour[m].linkNode = some k := by
  unfold isLinkNode
  rw [any_allSlots]
  simp only [Bool.and_eq_true, sameNode_iff, neighbourUsed_true]
  constructor
  · rintro ⟨m, used, k, mem, node⟩
    exact ⟨k, mem, m, used, node⟩
  · rintro ⟨k, mem, m, used, node⟩
    exact ⟨m, used, k, mem, node⟩

theorem isStationNode_iff {t : Tables} {n : Option Nat} :
    isStationNode t n = true ↔ ∃ k ∈ n, StationNode t k := by
  unfold isStationNode StationNode
  cases n with
  | none => simp [sameNode_iff]
  | some k => simp [sameNode_iff]

/-! ### STATION, R223 -/

theorem stationRangeOk_iff {r : StationRec} : stationRangeOk r = true ↔ StationInRange r := by
  simp only [stationRangeOk, StationInRange, Bool.and_eq_true, within_iff, nodeOk_iff, decide_eq_true_eq, and_assoc]

theorem stationConflictFree_iff {t : Tables} {r : StationRec} :
    stationConflictFree t r = true ↔ ¬ StationConflict t r := by
  have ownId : (allSlots.any fun k => neighbourUsed t.neighbour[k] && t.neighbour[k].stationId == r.ownId) = true ↔
      ∃ n : Slot, t.neighbour[n].stationId ≠ 0 ∧ t.neighbour[n].stationId = r.ownId := by
    rw [any_allSlots]
    simp only [Bool.and_eq_true, neighbourUsed_true, beq_iff_eq]
  have taken : ∀ n : Option Nat, (isBreakerNode t n = true ∨ sameNode n t.regulator.gateNode = true ∨
      isLinkNode t n = true) ↔ ∃ k ∈ n, UsedBreakerNode t k ∨ t.regulator.gateNode = some k ∨
        ∃ m : Slot, t.neighbour[m].stationId ≠ 0 ∧ t.neighbour[m].linkNode = some k := by
    intro n
    rw [isBreakerNode_iff, sameNode_iff, isLinkNode_iff]
    cases n with
    | none => simp
    | some k => simp
  unfold StationConflict
  have nodes : (∃ k : Nat, (r.panel = some k ∨ r.gateway = some k) ∧ (UsedBreakerNode t k ∨
      t.regulator.gateNode = some k ∨
      ∃ n : Slot, t.neighbour[n].stationId ≠ 0 ∧ t.neighbour[n].linkNode = some k)) ↔
      (isBreakerNode t r.panel = true ∨ sameNode r.panel t.regulator.gateNode = true ∨
        isLinkNode t r.panel = true) ∨ (isBreakerNode t r.gateway = true ∨
        sameNode r.gateway t.regulator.gateNode = true ∨ isLinkNode t r.gateway = true) := by
    rw [taken, taken, ← exists_or]
    exact exists_congr fun k => or_and_right
  rw [nodes, ← ownId, ← sameNode_iff]
  simp only [stationConflictFree, Bool.and_eq_true, Bool.not_eq_true']
  simp only [← Bool.not_eq_true, not_or]
  tauto

theorem station_checked (t : Tables) (r : StationRec) : FirstOf (stationFaults t r) (checkStation t r) :=
  firstOf_cons (not_congr stationRangeOk_iff.symm) fun _ =>
    firstOf_cons (by rw [stationConflictFree_iff, not_not]) fun _ => firstOf_nil

/-! ### The stream map, R8 -/

theorem mem_zipIdx_toList {α : Type} {n : Nat} {v : Vector α n} {x : α × Nat} :
    x ∈ v.toList.zipIdx ↔ ∃ h : x.2 < n, v[x.2] = x.1 := by
  rw [List.mem_zipIdx_iff_getElem?]
  constructor
  · intro at_
    obtain ⟨h, is⟩ := List.getElem?_eq_some_iff.1 at_
    exact ⟨by simpa using h, by simpa using is⟩
  · rintro ⟨h, is⟩
    exact List.getElem?_eq_some_iff.2 ⟨by simpa using h, by simpa using is⟩

/-- The other occupied entries of a part of the map. -/
theorem mem_othersOf {α : Type} {n : Nat} {v : Vector (Option α) n} {skip : Nat} {o : α} :
    o ∈ othersOf v.toList skip ↔ ∃ a : Fin n, a.val ≠ skip ∧ o ∈ v[a] := by
  unfold othersOf
  simp only [List.mem_filterMap, List.mem_filter, mem_zipIdx_toList, bne_iff_ne, Prod.exists]
  constructor
  · rintro ⟨x, a, ⟨⟨h, is⟩, other⟩, here⟩
    exact ⟨⟨a, h⟩, other, is.trans here⟩
  · rintro ⟨a, other, here⟩
    exact ⟨_, a.val, ⟨⟨a.isLt, rfl⟩, other⟩, here⟩

/-- All occupied entries: none is skipped. -/
theorem mem_occupied {α : Type} {n : Nat} {v : Vector (Option α) n} {o : α} :
    o ∈ v.toList.filterMap id ↔ ∃ a : Fin n, a.val ≠ n ∧ o ∈ v[a] := by
  simp only [List.mem_filterMap, Vector.mem_toList_iff, Vector.mem_iff_getElem, id]
  constructor
  · rintro ⟨x, ⟨a, h, is⟩, here⟩
    exact ⟨⟨a, h⟩, h.ne, is.trans here⟩
  · rintro ⟨a, -, here⟩
    exact ⟨_, ⟨a.val, a.isLt, rfl⟩, here⟩

theorem mem_mapRangeFeeds {e : MapRange} {x : Nat × Key} :
    x ∈ mapRangeFeeds e ↔ ∃ m < e.size, x = (e.first + m, (e.base + m, e.channel)) := by
  simp [mapRangeFeeds, eq_comm]

/-- What feeds a point, by the lists of occupied entries. -/
theorem mem_feeds {t : Tables} {i j : Nat} {points : List MapPoint} {ranges : List MapRange}
    (points_are : ∀ o, o ∈ points ↔ ∃ a : Fin 32, a.val ≠ i ∧ o ∈ t.mapPoint[a])
    (ranges_are : ∀ o, o ∈ ranges ↔ ∃ a : Fin 4, a.val ≠ j ∧ o ∈ t.mapRange[a]) {p : Nat} {k : Key} :
    (p, k) ∈ points.flatMap mapPointFeeds ++ ranges.flatMap mapRangeFeeds ↔ PointFed t i j p k := by
  rw [List.mem_append, List.mem_flatMap, List.mem_flatMap]
  simp only [points_are, ranges_are, mem_mapRangeFeeds, mapPointFeeds, List.mem_singleton, Prod.mk.injEq]
  unfold PointFed
  constructor
  · rintro (⟨o, ⟨a, other, here⟩, point, key⟩ | ⟨o, ⟨a, other, here⟩, m, inside, point, key⟩)
    · exact Or.inl ⟨a, other, o, here, point.symm, key⟩
    · exact Or.inr ⟨a, other, o, here, m, inside, point.symm, key⟩
  · rintro (⟨a, other, o, here, point, key⟩ | ⟨a, other, o, here, m, inside, point, key⟩)
    · exact Or.inl ⟨o, ⟨a, other, here⟩, point.symm, key⟩
    · exact Or.inr ⟨o, ⟨a, other, here⟩, m, inside, point.symm, key⟩

theorem feedsConflict_iff {xs ys : List (Nat × Key)} :
    feedsConflict xs ys = true ↔ ∃ x ∈ xs, ∃ k, (x.1, k) ∈ ys ∧ k ≠ x.2 := by
  simp only [feedsConflict, List.any_eq_true, Bool.and_eq_true, beq_iff_eq, bne_iff_ne]
  constructor
  · rintro ⟨x, here, ⟨q, k⟩, there, rfl, differ⟩
    exact ⟨x, here, k, there, differ.symm⟩
  · rintro ⟨x, here, k, there, differ⟩
    exact ⟨x, here, (x.1, k), there, rfl, differ.symm⟩

theorem mapPoint_checked (t : Tables) (i : Nat) (e : MapPoint) :
    FirstOf (mapPointFaults t i e) (checkMapPoint t i (some e)) := by
  refine firstOf_cons (not_congr ?_) fun _ => firstOf_cons ?_ fun _ => firstOf_cons ?_ fun _ => firstOf_nil
  · simp only [MapPointInRange, Bool.and_eq_true, within_iff, decide_eq_true_eq, Nat.zero_le, true_and, and_assoc]
  · simp only [Bool.not_eq_true', Bool.not_eq_false, List.any_eq_true, mem_othersOf, Bool.and_eq_true, beq_iff_eq]
    constructor
    · rintro ⟨j, other, o, here, node, channel⟩
      exact ⟨o, ⟨j, other, here⟩, node, channel⟩
    · rintro ⟨o, ⟨j, other, here⟩, node, channel⟩
      exact ⟨j, other, o, here, node, channel⟩
  · rw [Bool.not_eq_true', Bool.not_eq_false, feedsConflict_iff]
    simp only [mapPointFeeds, List.mem_singleton, exists_eq_left]
    exact exists_congr fun k => and_congr_left fun _ => (mem_feeds (fun _ => mem_othersOf) fun _ => mem_occupied).symm

theorem spansMeet_iff {a b : MapRange} :
    spansMeet a b = true ↔ a.base < b.base + b.size ∧ b.base < a.base + a.size := by
  simp [spansMeet]

/-- A span of two or more points lies in one group: among the feeder currents or among the line voltages. -/
theorem oneGroup_iff {e : MapRange} (inRange : MapRangeInRange e) : oneGroup e = true ↔
    e.first + e.size ≤ 10 ∨ (10 ≤ e.first ∧ e.first + e.size ≤ 20) := by
  obtain ⟨-, size, -⟩ := inRange
  have two : 2 ≤ e.size := by
    have := size
    simp only [List.mem_cons, List.not_mem_nil, or_false] at this
    omega
  simp only [oneGroup, List.all_eq_true, List.mem_range, Bool.and_eq_true, decide_eq_true_eq, beq_iff_eq]
  constructor
  · intro all
    obtain ⟨-, last⟩ := all (e.size - 1) (by omega)
    obtain ⟨-, second⟩ := all 1 (by omega)
    obtain ⟨bound, -⟩ := all (e.size - 1) (by omega)
    unfold pointGroup at last second
    grind
  · intro place m inside
    unfold pointGroup
    grind

theorem mapRange_checked (t : Tables) (i : Nat) (e : MapRange) :
    FirstOf (mapRangeFaults t i e) (checkMapRange t i (some e)) := by
  have inRange : (within 0 e.base 254 && [2, 4, 8, 16].contains e.size && within 0 e.channel 15 &&
      within 0 e.first 23 && within 1 e.gain 65535 && within 0 e.shift 15 &&
      decide (-32768 ≤ e.offset) && decide (e.offset ≤ 32767)) = true ↔ MapRangeInRange e := by
    simp only [MapRangeInRange, Bool.and_eq_true, within_iff, decide_eq_true_eq, Nat.zero_le, true_and, and_assoc,
      List.contains_iff_mem]
  refine firstOf_cons (not_congr inRange.symm) fun ranges => firstOf_cons ?_ fun _ =>
    firstOf_cons (not_congr (oneGroup_iff (inRange.1 ranges)).symm) fun _ => firstOf_cons ?_ fun _ =>
      firstOf_cons ?_ fun _ => firstOf_nil
  · rw [beq_iff_eq, Nat.dvd_iff_mod_eq_zero]
  · simp only [Bool.not_eq_true', Bool.not_eq_false, List.any_eq_true, mem_othersOf, Bool.and_eq_true, beq_iff_eq,
      spansMeet_iff]
    constructor
    · rintro ⟨j, other, o, here, meets⟩
      exact ⟨o, ⟨j, other, here⟩, meets⟩
    · rintro ⟨o, ⟨j, other, here⟩, meets⟩
      exact ⟨j, other, o, here, meets⟩
  · have fed : ∀ p k, _ ↔ PointFed t 32 i p k := fun p k =>
      mem_feeds (fun _ => mem_occupied) (fun _ => mem_othersOf) (p := p) (k := k)
    rw [Bool.not_eq_true', Bool.not_eq_false, feedsConflict_iff]
    constructor
    · rintro ⟨n, k, inside, feeds, differ⟩
      exact ⟨_, mem_mapRangeFeeds.2 ⟨n, inside, rfl⟩, k, (fed _ _).2 feeds, differ⟩
    · rintro ⟨x, here, k, feeds, differ⟩
      obtain ⟨n, inside, rfl⟩ := mem_mapRangeFeeds.1 here
      exact ⟨n, k, inside, (fed _ _).1 feeds, differ⟩

/-! ### FEEDER and banks, R25, R26, R50, R106 -/

theorem feederRangeOk_iff {r : FeederRec} : feederRangeOk r = true ↔ FeederInRange r := by
  have marks : (1 ≤ r.thetaAlarm ∧ r.thetaAlarm ≤ 65535) ∧ r.thetaAlarm + 1 ≤ r.thetaTrip ∧ r.thetaTrip ≤ 65535 ↔
      1 ≤ r.thetaAlarm ∧ r.thetaAlarm < r.thetaTrip ∧ r.thetaTrip ≤ 65535 := by omega
  simp only [feederRangeOk, FeederInRange, Bool.and_eq_true, within_iff, nodeOk_iff, Nat.zero_le, true_and]
  simp only [and_assoc] at marks ⊢
  constructor
  · rintro ⟨a, b, c, d, e, f1, f2, f3, f4, rest⟩
    obtain ⟨g1, g2, g3⟩ := marks.1 ⟨f1, f2, f3, f4⟩
    exact ⟨a, b, c, d, e, g1, g2, g3, rest⟩
  · rintro ⟨a, b, c, d, e, g1, g2, g3, rest⟩
    obtain ⟨f1, f2, f3, f4⟩ := marks.2 ⟨g1, g2, g3⟩
    exact ⟨a, b, c, d, e, f1, f2, f3, f4, rest⟩

theorem sameIdentity_iff {a b : FeederRec} : sameIdentity a b = true ↔ a.inUse = b.inUse ∧
    a.breakerNode = b.breakerNode ∧ a.secNo = b.secNo ∧ a.slot = b.slot ∧ a.testEnd = b.testEnd := by
  simp only [sameIdentity, Bool.and_eq_true, beq_iff_eq, and_assoc]

theorem feederConflictFree_iff {t : Tables} {f : Feeder} {r : FeederRec} :
    feederConflictFree t f r = true ↔ ¬ (r.inUse = true ∧ FeederConflict t f r) := by
  have breaker : ((otherFeeders f).any fun g =>
      t.feeder[g].inUse && sameNode r.breakerNode t.feeder[g].breakerNode) = true ↔
      ∃ k ∈ r.breakerNode, ∃ g : Feeder, g ≠ f ∧ t.feeder[g].inUse = true ∧ t.feeder[g].breakerNode = some k := by
    rw [any_otherFeeders]
    simp only [Bool.and_eq_true, sameNode_iff]
    constructor
    · rintro ⟨g, other, used, k, mem, node⟩
      exact ⟨k, mem, g, other, used, node⟩
    · rintro ⟨k, mem, g, other, used, node⟩
      exact ⟨g, other, used, k, mem, node⟩
  have sections : ((otherFeeders f).any fun g =>
      t.feeder[g].inUse && t.feeder[g].secNo == r.secNo && t.feeder[g].slot == r.slot) = true ↔
      ∃ g : Feeder, g ≠ f ∧ t.feeder[g].inUse = true ∧ t.feeder[g].secNo = r.secNo ∧ t.feeder[g].slot = r.slot := by
    rw [any_otherFeeders]
    simp only [Bool.and_eq_true, beq_iff_eq, and_assoc]
  have nodes : (∃ k ∈ r.breakerNode, (∃ g : Feeder, g ≠ f ∧ t.feeder[g].inUse = true ∧
      t.feeder[g].breakerNode = some k) ∨ t.regulator.gateNode = some k ∨ StationNode t k) ↔
      ((otherFeeders f).any fun g =>
        t.feeder[g].inUse && sameNode r.breakerNode t.feeder[g].breakerNode) = true ∨
      sameNode r.breakerNode t.regulator.gateNode = true ∨ isStationNode t r.breakerNode = true := by
    rw [breaker, sameNode_iff, isStationNode_iff]
    cases r.breakerNode with
    | none => simp
    | some k => simp
  unfold FeederConflict feederConflictFree
  rw [nodes, ← sections]
  generalize (otherFeeders f).any _ = breaks
  generalize (otherFeeders f).any _ = meets
  generalize sameNode _ _ = gate
  generalize isStationNode _ _ = station
  cases r.inUse
  · simp
  · simp only [Bool.not_true, Bool.false_or, Bool.and_eq_true, Bool.not_eq_true', true_and, not_or, bne_iff_ne,
      ← Bool.not_eq_true, and_assoc, ne_eq]

theorem feeder_checked (t : Tables) (f : Feeder) (r : FeederRec) (idle : Bool) :
    FirstOf (feederFaults t f r idle) (checkFeeder t f r idle) := by
  refine firstOf_cons (not_congr feederRangeOk_iff.symm) fun _ => firstOf_cons ?_ fun _ => firstOf_cons ?_ fun _ =>
    firstOf_cons (by rw [feederConflictFree_iff, not_not]) fun _ => firstOf_nil
  · rw [Bool.or_eq_true, sameIdentity_iff]
    cases idle
    · grind
    · exact iff_of_false (fun busy => nomatch busy.1) fun refused => refused (Or.inr rfl)
  · cases r.inUse <;> cases r.breakerNode <;> simp

theorem bank_checked (r : BankRec) : checkBank r = if BankInRange r then none else some .range := by
  unfold checkBank firstFailing
  refine if_congr ?_ rfl rfl
  simp only [BankInRange, Bool.and_eq_true, within_iff, decide_eq_true_eq, Nat.zero_le, true_and, and_assoc]

/-! ### NEIGHBOUR, R99 -/

theorem neighbourConflictFree_iff {t : Tables} {n : Slot} {r : NeighbourRec} :
    neighbourConflictFree t n r = true ↔ ¬ (r.stationId ≠ 0 ∧ NeighbourConflict t n r) := by
  have node : ∀ m : Slot, sameNode r.linkNode t.neighbour[m].linkNode = true ∧
      r.channel = t.neighbour[m].channel ↔
      r.linkNode ≠ none ∧ t.neighbour[m].linkNode = r.linkNode ∧ t.neighbour[m].channel = r.channel := by
    intro m
    rw [sameNode_iff]
    cases r.linkNode with
    | none => simp
    | some k => simp [eq_comm]
  have others : ((allSlots.filter (· != n)).any fun k => neighbourUsed t.neighbour[k] &&
      (sameNode r.linkNode t.neighbour[k].linkNode && r.channel == t.neighbour[k].channel ||
        r.stationId == t.neighbour[k].stationId)) = true ↔
      ∃ m : Slot, m ≠ n ∧ t.neighbour[m].stationId ≠ 0 ∧ ((r.linkNode ≠ none ∧
        t.neighbour[m].linkNode = r.linkNode ∧ t.neighbour[m].channel = r.channel) ∨
        t.neighbour[m].stationId = r.stationId) := by
    rw [any_otherSlots]
    simp only [Bool.and_eq_true, Bool.or_eq_true, beq_iff_eq, neighbourUsed_true, node]
    simp only [eq_comm]
  unfold NeighbourConflict
  rw [← others, ← isStationNode_iff, ← neighbourUsed_true]
  simp only [neighbourConflictFree, Bool.and_eq_true, Bool.or_eq_true, Bool.not_eq_true', bne_iff_ne]
  simp only [← Bool.not_eq_true]
  tauto

theorem neighbour_checked (t : Tables) (n : Slot) (r : NeighbourRec) :
    FirstOf (neighbourFaults t n r) (checkNeighbour t n r) := by
  refine firstOf_cons ?_ fun _ =>
    firstOf_cons (by rw [neighbourConflictFree_iff, not_not]) fun _ => firstOf_nil
  have used : (!neighbourUsed r || r.linkNode.isSome) = true ↔ ¬ (r.stationId ≠ 0 ∧ r.linkNode = none) := by
    rw [← neighbourUsed_true]
    cases neighbourUsed r <;> cases r.linkNode <;> simp
  rw [Bool.and_eq_true, used]
  simp only [NeighbourInRange, Bool.and_eq_true, within_iff, nodeOk_iff, Nat.zero_le, true_and, and_assoc]
  tauto

/-! ### REGULATOR, R138 -/

theorem regulatorRangeOk_iff {t : Tables} {r : RegulatorRec} :
    regulatorRangeOk t r = true ↔ RegulatorInRange t r := by
  simp only [regulatorRangeOk, RegulatorInRange, Bool.and_eq_true, within_iff, nodeOk_iff, Nat.zero_le, true_and,
    and_assoc]

theorem regulator_checked (t : Tables) (r : RegulatorRec) (idle : Bool) :
    FirstOf (regulatorFaults t r idle) (checkRegulator t r idle) := by
  refine firstOf_cons (not_congr regulatorRangeOk_iff.symm) fun _ => firstOf_cons ?_ fun _ =>
    firstOf_cons ?_ fun _ => firstOf_nil
  · rw [Bool.or_eq_true, beq_iff_eq, not_or, and_comm, Bool.not_eq_true]
    exact and_congr_left fun _ => ne_comm
  · have nodes : (∃ k ∈ r.gateNode, UsedBreakerNode t k ∨ t.station.panel = some k ∨ t.station.gateway = some k) ↔
        isBreakerNode t r.gateNode = true ∨ isStationNode t r.gateNode = true := by
      rw [isBreakerNode_iff, isStationNode_iff, ← exists_or]
      exact exists_congr fun k => and_or_left
    rw [nodes]
    cases isBreakerNode t r.gateNode <;> cases isStationNode t r.gateNode <;> simp

/-! ### CHAIN, R185 -/

theorem regionsMeet_iff {a b : ChainDesc} : regionsMeet a b = true ↔
    a.start < b.start + regionWords b ∧ b.start < a.start + regionWords a := by
  unfold regionsMeet
  rw [Bool.and_eq_true, decide_eq_true_eq, decide_eq_true_eq]
  rfl

theorem lastMarked_iff {c : List ChainDesc} : lastMarked c = true ↔
    ∃ front final, c = front ++ [final] ∧ final.last = true ∧ ∀ d ∈ front, d.last = false := by
  induction c with
  | nil => exact iff_of_false nofun fun ⟨front, final, is, _⟩ => by simp at is
  | cons x rest ih =>
    cases rest with
    | nil =>
      constructor
      · intro marked
        exact ⟨[], x, rfl, marked, nofun⟩
      · rintro ⟨front, final, is, marked, -⟩
        cases front with
        | nil => exact (List.cons.inj is).1 ▸ marked
        | cons y front => simp at is
    | cons y rest =>
      rw [lastMarked.eq_3 _ _ (by simp), Bool.and_eq_true, ih, Bool.not_eq_true']
      constructor
      · rintro ⟨unmarked, front, final, is, marked, others⟩
        exact ⟨x :: front, final, congrArg (x :: ·) is, marked, List.forall_mem_cons.2 ⟨unmarked, others⟩⟩
      · rintro ⟨front, final, is, marked, others⟩
        cases front with
        | nil => simp at is
        | cons z front =>
          obtain ⟨rfl, tail⟩ := List.cons.inj is
          exact ⟨others x List.mem_cons_self, front, final, tail, marked, fun d mem =>
            others d (List.mem_cons_of_mem _ mem)⟩

theorem regionsApart_iff {c : List ChainDesc} :
    regionsApart c = true ↔ c.Pairwise fun a b => ¬ regionsMeet a b = true := by
  induction c with
  | nil => exact iff_of_true rfl .nil
  | cons x rest ih =>
    rw [regionsApart, Bool.and_eq_true, ih, List.pairwise_cons, Bool.not_eq_true', ← Bool.not_eq_true,
      List.any_eq_true, not_exists]
    simp only [not_and]

theorem chain_checked (c : List ChainDesc) (free : Bool) : FirstOf (chainFaults c free) (checkChain c free) := by
  refine firstOf_cons (Bool.not_eq_true _).symm.to_iff fun _ => firstOf_cons (not_congr ?_) fun _ =>
    firstOf_cons (not_congr lastMarked_iff.symm) fun _ => firstOf_cons ?_ fun _ => firstOf_cons ?_ fun _ =>
      firstOf_cons ?_ fun _ => firstOf_nil
  · simp only [ChainInRange, Bool.and_eq_true, within_iff, List.all_eq_true, decide_eq_true_eq, and_assoc]
  · simp only [List.all_eq_true, decide_eq_true_eq, not_forall, not_le, exists_prop]
    rfl
  · simp only [List.all_eq_true, beq_iff_eq, not_forall, exists_prop]
    rfl
  · rw [regionsApart_iff, List.pairwise_iff_getElem]
    simp only [regionsMeet_iff, not_forall, not_not, exists_prop]
    constructor
    · rintro ⟨i, j, hj, hi, meets⟩
      exact ⟨i, j, hi.trans hj, hj, hi, meets⟩
    · rintro ⟨i, j, _, hj, hi, meets⟩
      exact ⟨i, j, hj, hi, meets⟩

/-! ### CURVE and RECORDER, R145 and R183 -/

theorem curve_checked (start : Nat) (entries : List Nat) (off : Bool) : checkCurve start entries off =
    if ¬ off = true then some .state
    else if 65 < start + entries.length ∨ ∃ a ∈ entries, 9000 < a then some .range else none := by
  unfold checkCurve firstFailing
  rw [ite_not]
  refine if_congr Iff.rfl ?_ rfl
  have : (decide (start + entries.length ≤ 65) && entries.all fun a => decide (a ≤ 9000)) = true ↔
      ¬ (65 < start + entries.length ∨ ∃ a ∈ entries, 9000 < a) := by
    simp
  rw [firstFailing, ← ite_not (p := 65 < _ ∨ _)]
  exact if_congr this rfl rfl

theorem recorder_checked (r : RecorderRec) (free : Bool) : checkRecorder r free =
    if ¬ (1 ≤ r.points.length ∧ r.points.length ≤ 8 ∧ (∀ q ∈ r.points, q ≤ 23) ∧ 1 ≤ r.postCount ∧
        r.postCount ≤ 4096 ∧ 256 ≤ r.cap ∧ r.cap ≤ 16384) then some .range
    else if ¬ r.points.Nodup then some .duplicate else if free = true then none else some .busy := by
  unfold checkRecorder
  rw [ite_not, ite_not]
  refine if_congr ?_ (if_congr decide_eq_true_iff rfl rfl) rfl
  simp only [Bool.and_eq_true, within_iff, List.all_eq_true, decide_eq_true_eq, and_assoc]

end Sys2Proof.Machine
end

-- ==== The load of the settings ====
section
/-!
The end of the load of the settings: the check of an image, and what every block takes from the tables: O6.
-/

namespace Sys2Proof.Machine
open Sys2Proof

/-! ### The check of an image, R227 -/

theorem isNone_iff_noneOf {conditions : List (Prop × Status)} {r : Option Status} (first : FirstOf conditions r) :
    r.isNone = true ↔ NoneOf conditions :=
  Option.isNone_iff_eq_none.trans (noneOf_iff_of_firstOf first)

theorem refusal_none {p : Prop} [Decidable p] {st : Status} {r : Option Status} :
    (if ¬ p then some st else r) = none ↔ p ∧ r = none := by
  by_cases good : p
  · rw [if_neg (not_not.2 good)]
    exact (and_iff_right good).symm
  · rw [if_pos good]
    exact iff_of_false nofun fun both => good both.1

theorem bank_passes {r : BankRec} : (checkBank r).isNone = true ↔ BankInRange r := by
  rw [bank_checked, Option.isNone_iff_eq_none]
  rw [← ite_not, refusal_none]
  exact and_iff_left rfl

theorem curve_passes {curve : Vector Nat 65} :
    (checkCurve 0 curve.toList true).isNone = true ↔ ∀ (j : Nat) (h : j < 65), curve[j] ≤ 9000 := by
  rw [curve_checked, if_neg (fun off => off rfl), Option.isNone_iff_eq_none]
  have entries : (¬ (65 < 0 + curve.toList.length ∨ ∃ a ∈ curve.toList, 9000 < a)) ↔
      ∀ (j : Nat) (h : j < 65), curve[j] ≤ 9000 := by
    simp [Vector.mem_iff_getElem]
  rw [← ite_not, ite_eq_left_iff, ← entries]
  exact ⟨fun only bad => (nomatch only (not_not.2 bad)), fun good bad => absurd good bad⟩

theorem recorder_passes {r : RecorderRec} : (checkRecorder r true).isNone = true ↔
    1 ≤ r.points.length ∧ r.points.length ≤ 8 ∧ (∀ q ∈ r.points, q ≤ 23) ∧ 1 ≤ r.postCount ∧
      r.postCount ≤ 4096 ∧ 256 ≤ r.cap ∧ r.cap ≤ 16384 ∧ r.points.Nodup := by
  rw [recorder_checked, Option.isNone_iff_eq_none, refusal_none, refusal_none, if_pos rfl]
  simp only [and_true, and_assoc]

/-- The map entries of a part of the map, by their numbers. -/
theorem all_entries {α : Type} {n : Nat} {v : Vector (Option α) n} {check : Nat → Option α → Option Status}
    {faults : Nat → α → List (Prop × Status)} (empty : ∀ i, check i none = none)
    (checked : ∀ i e, FirstOf (faults i e) (check i (some e))) :
    (v.toList.zipIdx.all fun x => (check x.2 x.1).isNone) = true ↔
      ∀ (i : Fin n) (e : α), v[i] = some e → NoneOf (faults i e) := by
  simp only [List.all_eq_true, mem_zipIdx_toList, forall_exists_index]
  constructor
  · intro all i e is
    exact (isNone_iff_noneOf (checked i e)).1 (all (some e, i.val) i.isLt is)
  · rintro all ⟨o, i⟩ inside is
    cases o with
    | none => exact Option.isNone_iff_eq_none.2 (empty i)
    | some e => exact (isNone_iff_noneOf (checked i e)).2 (all ⟨i, inside⟩ e is)

theorem imageContentOk_iff (t : Tables) : imageContentOk t = true ↔ ImageGood t := by
  have feeders : (allFeeders.all fun f => (checkFeeder t f t.feeder[f] true).isNone &&
      (checkBank t.bankA[f]).isNone && (checkBank t.bankB[f]).isNone) = true ↔
      (∀ f : Feeder, NoneOf (feederFaults t f t.feeder[f] true)) ∧
        ∀ f : Feeder, BankInRange t.bankA[f] ∧ BankInRange t.bankB[f] := by
    simp only [List.all_eq_true, mem_allFeeders, true_imp_iff, Bool.and_eq_true,
      isNone_iff_noneOf (feeder_checked ..), bank_passes, ← forall_and, and_assoc]
  have neighbours : (allSlots.all fun n => (checkNeighbour t n t.neighbour[n]).isNone) = true ↔
      ∀ n : Slot, NoneOf (neighbourFaults t n t.neighbour[n]) := by
    simp only [List.all_eq_true, mem_allSlots, true_imp_iff, isNone_iff_noneOf (neighbour_checked ..)]
  unfold imageContentOk
  simp only [Bool.and_eq_true, Bool.or_eq_true, List.isEmpty_iff, feeders, neighbours,
    all_entries (fun _ => rfl) (mapPoint_checked t), all_entries (fun _ => rfl) (mapRange_checked t),
    isNone_iff_noneOf (station_checked ..), isNone_iff_noneOf (regulator_checked ..),
    isNone_iff_noneOf (chain_checked ..), curve_passes, recorder_passes]
  constructor
  · rintro ⟨⟨⟨⟨⟨⟨⟨⟨station, points⟩, ranges⟩, feeders, banks⟩, neighbours⟩, regulator⟩, curve⟩, recorder⟩, chain⟩
    exact ⟨station, points, ranges, feeders, banks, neighbours, regulator, curve, recorder, chain⟩
  · rintro ⟨station, points, ranges, feeders, banks, neighbours, regulator, curve, recorder, chain⟩
    exact ⟨⟨⟨⟨⟨⟨⟨⟨station, points⟩, ranges⟩, feeders, banks⟩, neighbours⟩, regulator⟩, curve⟩, recorder⟩, chain⟩

/-! ### What every block takes from the tables -/

/-- TEST_OFF of a feeder in use at the ORDER queue, R96. -/
def Rif.testOff (img : Tables) (r : Rif) (f : Feeder) : Rif :=
  match img.feeder[f].inUse, img.feeder[f].breakerNode with
  | true, some m => r.putOrder (.breaker m) (makeFrame r.node m 4 [4])
  | _, _ => r

theorem testOff_sent (s : State) (f : Feeder) :
    (if s.tables.feeder[f].inUse = true then s.sendOrder f .testOff else s) =
      { s with rif := s.rif.testOff s.tables f } := by
  unfold Rif.testOff State.sendOrder
  cases s.tables.feeder[f].inUse <;> cases s.tables.feeder[f].breakerNode <;> rfl

theorem testOffAll_eq (s : State) : s.testOffAll = { s with rif := allFeeders.foldl (Rif.testOff s.tables) s.rif } := by
  have each : ∀ (fs : List Feeder) (r : Rif), fs.foldl (fun (s : State) f =>
      if s.tables.feeder[f].inUse = true then s.sendOrder f .testOff else s) { s with rif := r } =
      { s with rif := fs.foldl (Rif.testOff s.tables) r } := by
    intro fs
    induction fs with
    | nil => exact fun _ => rfl
    | cons f fs ih =>
      intro r
      rw [List.foldl_cons, testOff_sent]
      exact ih _
  exact each allFeeders s.rif

theorem loaded_from (s : State) (img : Tables) (unconfigured : Bool) :
    LoadedFrom s (s.loaded img unconfigured) img unconfigured := by
  unfold State.loaded
  rw [testOffAll_eq]
  refine ⟨fun f => ?_, rfl⟩
  exact vmap_getElem ..

theorem loadResult_good {img : Tables} {check : Nat} (checked : check = Config.imageCheck img)
    (content : imageContentOk img = true) : loadResult (.image img check) = .good img := by
  unfold loadResult
  exact (if_neg (not_not.2 checked)).trans (if_pos content)

theorem loadResult_bad {answer : MemoryAnswer} {cause : Cause}
    (bad : (answer = .silent ∧ cause = .noMemory) ∨
      (∃ img check, answer = .image img check ∧ check ≠ Config.imageCheck img ∧ cause = .check) ∨
      (∃ img check, answer = .image img check ∧ check = Config.imageCheck img ∧
        imageContentOk img = false ∧ cause = .content)) : loadResult answer = .bad cause := by
  obtain ⟨rfl, rfl⟩ | ⟨img, check, rfl, differs, rfl⟩ | ⟨img, check, rfl, checked, content, rfl⟩ := bad
  · rfl
  · exact if_pos differs
  · exact (if_neg (not_not.2 checked)).trans (if_neg (Bool.eq_false_iff.1 content))

theorem exec_settingsLoadEnd {s : State} (loading : s.phase = .loading) (answer : MemoryAnswer) :
    exec (.settingsLoadEnd answer) s = .next (match loadResult answer with
      | .good img => s.loaded img false
      | .bad cause => (s.loaded defaultTables true).post .storeBad .station (some cause) none) :=
  congrArg _ (if_pos loading)

/-- Settles O6: the result of the load by its cases, the blocks from the loaded tables, and the check of an image
read fault by fault. -/
theorem settingsLoadEnds : Obligations.SettingsLoadEnds := by
  refine ⟨fun s img check loading checked content => ⟨s.loaded img false, ?_, loaded_from ..⟩,
    fun s answer cause loading bad => ⟨s.loaded defaultTables true, _, ?_, loaded_from s defaultTables true,
      reports_post (reports_refl _) .storeBad .station (some cause) none⟩, imageContentOk_iff⟩
  · rw [exec_settingsLoadEnd loading, loadResult_good checked content]
  · rw [exec_settingsLoadEnd loading, loadResult_bad bad]

end Sys2Proof.Machine
end

-- ==== The tick ====
section
/-!
A tick advances every timer and the recorder's set: O7.
-/

namespace Sys2Proof.Machine
open Sys2Proof

/-! ### Timers and points -/

theorem timersTick_point (s : State) (p : Point) :
    s.timersTick.smp.points[p] = s.smp.points[p].tick s.tables.station.lossTime := vmap_getElem ..

theorem timersTick_fct (s : State) (f : Feeder) : s.timersTick.fct[f] = s.fct[f].tick := vmap_getElem ..

theorem timersTick_slot (s : State) (k : TestSlot) : s.timersTick.ltu.slot[k] = s.ltu.slot[k].tick := vmap_getElem ..

theorem timersTick_link (s : State) (n : Slot) : s.timersTick.sco.link[n] = s.sco.link[n].tick := vmap_getElem ..

theorem timersTick_sect (s : State) (f : Feeder) : s.timersTick.sco.sect[f] = s.sco.sect[f].tick := vmap_getElem ..

/-- A tick makes a point older, and its loss due, and leaves its value and its sighting. -/
theorem pointTick_keeps (p : PointRec) (lossTime : Nat) :
    (p.tick lossTime).last = p.last ∧ (p.tick lossTime).sighted = p.sighted := by
  unfold PointRec.tick
  split
  · exact ⟨rfl, rfl⟩
  · exact ⟨rfl, rfl⟩

theorem timersTick_lastOf (s : State) (p : Nat) : s.timersTick.lastOf p = s.lastOf p := by
  unfold State.lastOf
  refine dite_congr rfl (fun inside => ?_) fun _ => rfl
  exact (congrArg PointRec.last (timersTick_point s ⟨p, inside⟩)).trans (pointTick_keeps ..).1

/-- No timer is shown in the summary. -/
theorem timersTick_summary (s : State) : s.timersTick.summary = s.summary := by
  have feeder (f : Feeder) : s.timersTick.feederSummary f = s.feederSummary f := by
    have controller : s.timersTick.fct[f].state = s.fct[f].state := (congrArg Fct.state (timersTick_fct s f) :)
    have blind : s.timersTick.blind f = s.blind f :=
      congrArg (!·) ((congrArg PointRec.sighted (timersTick_point s (currentPoint f))).trans (pointTick_keeps ..).2)
    have bank : s.timersTick.sco.sect[f].bank = s.sco.sect[f].bank := (congrArg Section.bank (timersTick_sect s f) :)
    unfold State.feederSummary
    rw [controller, blind, bank]
    rfl
  have link (n : Slot) : s.timersTick.sco.link[n].up = s.sco.link[n].up := (congrArg LinkState.up (timersTick_link s n) :)
  have feeders : s.timersTick.feederSummary = s.feederSummary := funext feeder
  unfold State.summary
  rw [feeders]
  simp only [link]
  rfl

/-! ### The recorder's set, R186 and R191 -/

theorem recorderTick_drc (s : State) : s.timersTick.recorderTick.drc =
    s.drc.tick s.tables (s.tables.recorder.points.map s.lastOf) := by
  have set : s.timersTick.takeSet = s.tables.recorder.points.map s.lastOf :=
    List.map_congr_left fun p _ => timersTick_lastOf s p
  unfold State.recorderTick State.changing
  rw [noteChange_drc]
  exact congrArg (s.drc.tick s.tables) set

/-- The set of a capture, and the end of the capture by the first condition that holds. -/
theorem drcTick_capturing {d : Drc} {t : Tables} {set : List Int} {r r' : RecordInProgress} {placed : Drc}
    (state : d.state = .capturing r)
    (next : r' = { r with placed := r.placed + 1, remaining := r.remaining - 1,
                          words := r.words + t.recorder.points.length })
    (at_ : placed = d.flush.placeFrom t.chain r.words (setWords set)) :
    d.tick t set = if r'.remaining = 0 then placed.drain t.chain r' .complete
      else if r'.placed = t.recorder.cap then placed.drain t.chain r' .capped
      else if chainCapacity t.chain - r'.words < t.recorder.points.length then placed.drain t.chain r' .short
      else { placed with state := .capturing r' } := by
  subst next at_
  unfold Drc.tick endReasonOf
  rw [state]
  dsimp only
  split_ifs
  · rfl
  · rfl
  · rfl
  · rfl

theorem exec_tick {s : State} (running : s.phase = .running) : exec .tick s = .next s.timersTick.recorderTick := by
  change execTick s = _
  unfold execTick
  rw [running]

/-- Settles O7: each timer from the tick of its block, the recorder by its state, and the summary, which no timer
enters, compared with that before the tick. -/
theorem tickAdvancesTimers : Obligations.TickAdvancesTimers := by
  refine ⟨fun s held => ?_, fun s loading => ?_, fun s running =>
    ⟨s.timersTick.recorderTick, exec_tick running, ?_, fun p => ?_, fun f => ?_, fun k => ?_, fun n => ?_, fun f => ?_,
      ?_, ?_, ?_, ?_⟩⟩
  · change execTick s = _
    unfold execTick
    rw [held]
  · change execTick s = _
    unfold execTick
    rw [loading]
    rfl
  · exact noteChange_clock ..
  · exact (congrArg (fun x : Smp => x.points[p]) (noteChange_smp ..)).trans (timersTick_point s p)
  · exact (congrArg (fun x : Vector Fct 10 => x[f]) (noteChange_fct ..)).trans (timersTick_fct s f)
  · refine (congrArg (fun x : Ltu => x.slot[k]) (noteChange_ltu ..)).trans ((timersTick_slot s k).trans ?_)
    generalize s.ltu.slot[k] = phase
    cases phase <;> rfl
  · exact (congrArg (fun x : Sco => x.link[n]) (noteChange_sco ..)).trans (timersTick_link s n)
  · exact (congrArg (fun x : Sco => x.sect[f]) (noteChange_sco ..)).trans (timersTick_sect s f)
  · exact noteChange_rcu ..
  · exact noteChange_mga ..
  · have ticked := recorderTick_drc s
    cases state : s.drc.state with
    | idle => exact ticked.trans (by unfold Drc.tick; rw [state])
    | armed b => exact ticked.trans (by unfold Drc.tick; rw [state])
    | capturing r =>
      refine ticked.trans (drcTick_capturing state rfl ?_)
      have words : setWords (s.tables.recorder.points.map s.lastOf) =
          s.tables.recorder.points.map fun q => BitVec.ofInt 32 (s.lastOf q) := List.map_map
      exact (congrArg (s.drc.flush.placeFrom s.tables.chain r.words) words).symm
    | draining r => exact ticked.trans (by unfold Drc.tick; rw [state])
    | held length reason => exact ticked.trans (by unfold Drc.tick; rw [state])
  · have noticed := noticed_changing s.timersTick fun s => { s with drc := s.drc.tick s.tables s.takeSet }
    rw [timersTick_summary] at noticed
    refine Eq.subst (motive := fun u => Noticed s.summary u s.timersTick.recorderTick) ?_ noticed
    unfold State.recorderTick State.changing
    rw [noteChange_clock, noteChange_smp, noteChange_fct, noteChange_ltu, noteChange_sco, noteChange_rcu,
      noteChange_mga, noteChange_drc]
    rfl

end Sys2Proof.Machine
end

-- ==== Settings records read back ====
section
/-!
Every settings record whose values are in range is read back from its bytes as it was written (R221).
-/

namespace Sys2Proof.Machine
open Sys2Proof

/-! ### Fields -/

theorem word16_bytes {n : Nat} (small : n < 65536) :
    (BitVec.ofNat 8 (n / 256)).toNat * 256 + (BitVec.ofNat 8 n).toNat = n := by
  rw [BitVec.toNat_ofNat, BitVec.toNat_ofNat]
  omega

theorem u16At_be16 {n : Nat} (small : n < 65536) : u16At (be16 n) 0 = n := word16_bytes small

theorem s16At_be16Int {v : Int} (low : -32768 ≤ v) (high : v ≤ 32767) : s16At (be16Int v) 0 = v := by
  unfold s16At be16Int
  rw [u16At_be16 (by omega)]
  split <;> omega

theorem byteAt_ofNat {n : Nat} (small : n < 256) : byteAt [BitVec.ofNat 8 n] 0 = n := Nat.mod_eq_of_lt small

theorem flagAt_flagByte (b : Bool) : flagAt [flagByte b] 0 = some b := by cases b <;> rfl

theorem nodeAt_nodeByte {n : Option Nat} (inRange : NodeInRange n) : nodeAt [nodeByte n] 0 = n := by
  cases n with
  | none => rfl
  | some k =>
    obtain ⟨low, high⟩ := inRange k rfl
    have value : byteAt [nodeByte (some k)] 0 = k := byteAt_ofNat (n := k) (by omega)
    unfold nodeAt
    rw [value, if_neg (by omega)]

/-! ### A field behind others -/

theorem u16At_skip8 (b : Byte) (l : List Byte) (i : Nat) : u16At (b :: l) (i + 1) = u16At l i := rfl

theorem u16At_skip16 (n : Nat) (l : List Byte) (i : Nat) : u16At (be16 n ++ l) (i + 2) = u16At l i := rfl

theorem u16At_front {n : Nat} (small : n < 65536) (l : List Byte) : u16At (be16 n ++ l) 0 = n := word16_bytes small

theorem nodeAt_skip8 (b : Byte) (l : List Byte) (i : Nat) : nodeAt (b :: l) (i + 1) = nodeAt l i := rfl

theorem nodeAt_skip16 (n : Nat) (l : List Byte) (i : Nat) : nodeAt (be16 n ++ l) (i + 2) = nodeAt l i := rfl

theorem nodeAt_front {n : Option Nat} (inRange : NodeInRange n) (l : List Byte) : nodeAt (nodeByte n :: l) 0 = n :=
  nodeAt_nodeByte inRange

theorem flagAt_skip8 (b : Byte) (l : List Byte) (i : Nat) : flagAt (b :: l) (i + 1) = flagAt l i := rfl

theorem flagAt_skip16 (n : Nat) (l : List Byte) (i : Nat) : flagAt (be16 n ++ l) (i + 2) = flagAt l i := rfl

theorem flagAt_front (b : Bool) (l : List Byte) : flagAt (flagByte b :: l) 0 = some b := flagAt_flagByte b

/-! ### Records of one length -/

theorem station_readBack {x : StationRec} (inRange : StationInRange x) : decodeStation (encodeStation x) = x := by
  obtain ⟨_, _, panel, gateway, _, _, _, _, _, _, _, _, _, _, _, _, _, _, _⟩ := inRange
  unfold decodeStation encodeStation
  simp (disch := omega) only [List.append_assoc, List.cons_append, List.nil_append, u16At_skip8, u16At_skip16,
    nodeAt_skip8, nodeAt_skip16, u16At_front, u16At_be16, nodeAt_front panel, nodeAt_front gateway]

theorem mapPoint_readBack {e : MapPoint} (inRange : MapPointInRange e) :
    decodeMapPoint (encodeMapPoint (some e)) = some (some e) := by
  obtain ⟨_, _, _, _, _, _, _, _, _⟩ := inRange
  have fields : decodeMapPoint (encodeMapPoint (some e)) =
      some (some { node := byteAt [BitVec.ofNat 8 e.node] 0, channel := u16At (be16 e.channel) 0
                   point := u16At (be16 e.point) 0, gain := u16At (be16 e.gain) 0
                   shift := u16At (be16 e.shift) 0, offset := s16At (be16Int e.offset) 0 }) :=
    (if_neg fun empty => absurd empty.1 (by decide : ¬ 1 = 0)).trans (if_pos ⟨rfl, rfl⟩)
  rw [fields]
  simp (disch := omega) only [u16At_be16, byteAt_ofNat, s16At_be16Int]

theorem mapRange_readBack {e : MapRange} (inRange : MapRangeInRange e) :
    decodeMapRange (encodeMapRange (some e)) = some (some e) := by
  obtain ⟨_, size, _, _, _, _, _, _, _⟩ := inRange
  have small : e.size ≤ 16 := by
    simp only [List.mem_cons, List.not_mem_nil, or_false] at size
    omega
  have fields : decodeMapRange (encodeMapRange (some e)) =
      some (some { base := byteAt [BitVec.ofNat 8 e.base] 0, size := u16At (be16 e.size) 0
                   channel := u16At (be16 e.channel) 0, first := u16At (be16 e.first) 0
                   gain := u16At (be16 e.gain) 0, shift := u16At (be16 e.shift) 0
                   offset := s16At (be16Int e.offset) 0 }) :=
    (if_neg fun empty => absurd empty.1 (by decide : ¬ 1 = 0)).trans (if_pos ⟨rfl, rfl⟩)
  rw [fields]
  simp (disch := omega) only [u16At_be16, byteAt_ofNat, s16At_be16Int]

theorem feeder_readBack {x : FeederRec} (inRange : FeederInRange x) : decodeFeeder (encodeFeeder x) = some x := by
  obtain ⟨_, _, _, _, _, _, _, _, node, _, _, _, _, _, _, _, _, _, _, _, _, _, _, _, _, _, _, _, _, _, _, _⟩ := inRange
  unfold decodeFeeder encodeFeeder
  simp (disch := omega) only [List.append_assoc, List.cons_append, List.nil_append, u16At_skip8, u16At_skip16,
    nodeAt_skip16, flagAt_skip8, flagAt_skip16, u16At_front, nodeAt_skip8, nodeAt_front node, flagAt_front,
    Bool.not_not]

theorem bank_readBack {x : BankRec} (inRange : BankInRange x) : decodeBank (encodeBank x) = some x := by
  obtain ⟨_, _, _, _, _, _, _, _, _, _, _, _, _, _, _⟩ := inRange
  unfold decodeBank encodeBank
  simp (disch := omega) only [List.append_assoc, List.cons_append, List.nil_append, u16At_skip8, u16At_skip16,
    flagAt_skip8, flagAt_skip16, u16At_front, flagAt_front]

theorem neighbour_readBack {x : NeighbourRec} (inRange : NeighbourInRange x) :
    decodeNeighbour (encodeNeighbour x) = x := by
  obtain ⟨_, node, _, _, _, _, _⟩ := inRange
  unfold decodeNeighbour encodeNeighbour
  simp (disch := omega) only [List.append_assoc, List.cons_append, List.nil_append, u16At_skip8, u16At_skip16,
    nodeAt_skip16, u16At_front, u16At_be16, nodeAt_front node]

theorem regulator_readBack {t : Tables} {x : RegulatorRec} (limit : t.station.vSetMax ≤ 9500)
    (inRange : RegulatorInRange t x) : decodeRegulator (encodeRegulator x) = x := by
  obtain ⟨node, _, _, _, _, _, _, _, _, _, _, _, _, _, _, _, _, _, _, _, _, _, _, _⟩ := inRange
  unfold decodeRegulator encodeRegulator
  simp (disch := omega) only [List.append_assoc, List.cons_append, List.nil_append, u16At_skip8, u16At_skip16,
    u16At_front, u16At_be16, nodeAt_front node]

/-! ### Records of any length -/

theorem curve_readBack {entries : List Nat} (inRange : ∀ a ∈ entries, a ≤ 9000) :
    decodeCurve (encodeCurve entries) = entries := by
  induction entries with
  | nil => rfl
  | cons a rest ih =>
    obtain ⟨first, others⟩ := List.forall_mem_cons.1 inRange
    have fields : decodeCurve (encodeCurve (a :: rest)) =
        ((BitVec.ofNat 8 (a / 256)).toNat * 256 + (BitVec.ofNat 8 a).toNat) :: decodeCurve (encodeCurve rest) := rfl
    rw [fields, word16_bytes (by omega), ih others]

theorem u16At_behind (front back : List Byte) (i : Nat) : u16At (front ++ back) (front.length + i) = u16At back i := by
  unfold u16At byteAt
  rw [List.getD_append_right _ _ _ _ (by omega), List.getD_append_right _ _ _ _ (by omega), Nat.add_sub_cancel_left,
    Nat.add_assoc, Nat.add_sub_cancel_left]

theorem recorder_readBack {x : RecorderRec} (count : x.points.length ≤ 8) (points : ∀ q ∈ x.points, q ≤ 23)
    (postCount : x.postCount ≤ 4096) (cap : x.cap ≤ 16384) : decodeRecorder (encodeRecorder x) = x := by
  have list : (x.points.map (BitVec.ofNat 8)).map BitVec.toNat = x.points := by
    rw [List.map_map]
    refine (List.map_congr_left fun q mem => ?_).trans (List.map_id _)
    have := points q mem
    exact Nat.mod_eq_of_lt (by omega)
  have number : byteAt (encodeRecorder x) 0 = x.points.length := byteAt_ofNat (by omega)
  have head : ((encodeRecorder x).drop 1).take x.points.length = x.points.map (BitVec.ofNat 8) := by
    have bytes : (encodeRecorder x).drop 1 = x.points.map (BitVec.ofNat 8) ++ be16 x.postCount ++ be16 x.cap := rfl
    rw [bytes, List.append_assoc, List.take_left' (List.length_map _)]
  have behind : ∀ i, u16At (encodeRecorder x) (1 + x.points.length + i) = u16At (be16 x.postCount ++ be16 x.cap) i := by
    intro i
    have bytes : encodeRecorder x = (BitVec.ofNat 8 x.points.length :: x.points.map (BitVec.ofNat 8)) ++
        (be16 x.postCount ++ be16 x.cap) := List.append_assoc ..
    have place : 1 + x.points.length + i =
        (BitVec.ofNat 8 x.points.length :: x.points.map (BitVec.ofNat 8)).length + i := by
      rw [List.length_cons, List.length_map, Nat.add_comm 1]
    rw [bytes, place, u16At_behind]
  have first : u16At (be16 x.postCount ++ be16 x.cap) 0 = x.postCount := word16_bytes (by omega)
  have second : u16At (be16 x.postCount ++ be16 x.cap) 2 = x.cap := word16_bytes (by omega)
  unfold decodeRecorder
  rw [number]
  have front : u16At (encodeRecorder x) (1 + x.points.length) = x.postCount := (behind 0).trans first
  dsimp only
  rw [head, list, front, show 3 + x.points.length = 1 + x.points.length + 2 by omega, behind 2, second]

theorem top_bit {n : Nat} (small : n < 65536) : (BitVec.ofNat 8 (n / 256)).getLsbD 7 = decide (32768 ≤ n) := by
  rw [BitVec.getLsbD, BitVec.toNat_ofNat, Nat.testBit_eq_decide_div_mod_eq]
  exact decide_eq_decide.2 (by omega)

theorem desc_readBack {d : ChainDesc} (start : d.start ≤ 32767) (length : d.length ≤ 4095) (rest : List Byte) :
    decodeDescs (encodeDesc d ++ rest) = d :: decodeDescs rest := by
  have fields : ∀ m n : Nat, decodeDescs (be16 m ++ be16 n ++ rest) =
      { start := (BitVec.ofNat 8 (m / 256)).toNat * 256 + (BitVec.ofNat 8 m).toNat
        length := ((BitVec.ofNat 8 (n / 256)).toNat * 256 + (BitVec.ofNat 8 n).toNat) % 4096
        last := (BitVec.ofNat 8 (n / 256)).getLsbD 7 } :: decodeDescs rest := fun _ _ => rfl
  unfold encodeDesc
  have small : d.length % 4096 + (if d.last = true then 32768 else 0) < 65536 := by split <;> omega
  rw [fields, word16_bytes (by omega), word16_bytes small, top_bit small]
  obtain ⟨_, words, last⟩ := d
  have few : words ≤ 4095 := length
  congr 2
  · cases last
    · simp only [Bool.false_eq_true, if_false]
      omega
    · simp only [if_true]
      omega
  · cases last
    · simp only [Bool.false_eq_true, if_false, decide_eq_false_iff_not]
      omega
    · simp only [if_true, decide_eq_true_eq]
      omega

theorem chain_readBack {c : List ChainDesc} (inRange : ChainInRange c) : decodeChain (encodeChain c) = c := by
  obtain ⟨-, -, each⟩ := inRange
  have bytes : decodeChain (encodeChain c) = decodeDescs (c.flatMap encodeDesc) := rfl
  rw [bytes]
  clear bytes
  induction c with
  | nil => rfl
  | cons d rest ih =>
    obtain ⟨⟨start, length⟩, others⟩ := List.forall_mem_cons.1 each
    rw [List.flatMap_cons, desc_readBack start length, ih others]

end Sys2Proof.Machine
end

-- ==== Settings writes ====
section
/-!
The writes of the settings objects that move no section: STATION, the stream map, the banks, REGULATOR, CURVE,
RECORDER and CHAIN.
-/

namespace Sys2Proof.Machine
open Sys2Proof

/-- A write by its check: refused without effect, or stored and reported. -/
theorem written_of {c : Instr} {s y : State} {r : Request} {op obj : Nat} {objs : List Nat}
    {act : State → Request → Service} {refusal : Option Status} {tables : Tables} {leaves : State → Prop}
    (granted : Granted s r op obj) (of : obj ∈ objs) (row : exec c s = whenRunning s (s.serve op objs act))
    (is : act (popped s) r = (popped s).written r refusal y) (stored : y.tables = tables)
    (left : refusal = none → leaves y) : Written c s r refusal tables leaves := by
  refine ⟨fun st refused => row.trans (serve_checked_refused granted of is refused), fun passes =>
    ⟨y, y.settingsChanged (writerOf s r) r.obj r.index, left passes, stored, row.trans ?_,
      reports_post (reports_refl y) _ _ _ _⟩⟩
  rw [← roleCause_granted granted]
  exact serve_checked_accepted granted of is passes

/-- A write whose data is not a record. -/
theorem serves_range {c : Instr} {s : State} {r : Request} {op obj : Nat} {objs : List Nat}
    {act : State → Request → Service} (granted : Granted s r op obj) (of : obj ∈ objs)
    (row : exec c s = whenRunning s (s.serve op objs act)) (is : act (popped s) r = .refused (popped s) .range) :
    Serves c s r .range [] (popped s) :=
  row.trans (serve_done granted of is)

/-! ### STATION, R138, R178 and R223 -/

theorem gatewayChanged_dropped {s : State} (deaf : s.canNotify = false) : s.gatewayChanged =
    { s with evr := { s.evr with notice := none }
             rif := { s.rif with reportQ := s.rif.reportQ.filter (fun z => !z.isNotice) } } := by
  unfold State.gatewayChanged
  exact if_neg (Bool.eq_false_iff.1 deaf)

theorem gatewayChanged_notified {s : State} {m : Nat} (gateway : s.tables.station.gateway = some m)
    (straps : s.rif.strapFault = false) : s.gatewayChanged =
    { s with evr := { s.evr with notice := some s.summary }
             rif := s.rif.putNotice (makeFrame s.rif.node m 11
               (summaryBytes s.summary ++ be32 s.evr.ms ++ be16 s.evr.nextSeq)) } := by
  have can : s.canNotify = true := by
    unfold State.canNotify
    rw [gateway, straps]
    rfl
  have frame : s.noticeFrame = makeFrame s.rif.node m 11
      (summaryBytes s.summary ++ be32 s.evr.ms ++ be16 s.evr.nextSeq) := by
    unfold State.noticeFrame
    rw [gateway]
    rfl
  unfold State.gatewayChanged
  rw [← frame]
  exact if_pos can

theorem storeStation_same {s : State} {x : StationRec} (same : s.tables.station.gateway = x.gateway) :
    s.storeStation x = { s with tables := (s.storeStation x).tables } := by
  unfold State.storeStation
  dsimp only
  rw [if_pos same]

theorem storeStation_moved {s : State} {x : StationRec} (moved : s.tables.station.gateway ≠ x.gateway) :
    s.storeStation x = ({ s with tables := { s.tables with
      station := x
      regulator := { s.tables.regulator with vSet := clampSet x s.tables.regulator.vSet } } } : State).gatewayChanged :=
  if_neg moved

theorem gatewayChanged_tables (s : State) : s.gatewayChanged.tables = s.tables := by
  unfold State.gatewayChanged
  dsimp only
  split <;> rfl

theorem storeStation_tables (s : State) (x : StationRec) : (s.storeStation x).tables = { s.tables with
    station := x
    regulator := { s.tables.regulator with vSet := clampSet x s.tables.regulator.vSet } } := by
  by_cases same : s.tables.station.gateway = x.gateway
  · exact congrArg State.tables (if_pos same)
  · rw [storeStation_moved same, gatewayChanged_tables]

theorem storeStation_deaf {s : State} {x : StationRec} (moved : s.tables.station.gateway ≠ x.gateway)
    (deaf : x.gateway = none ∨ s.rif.strapFault = true) : s.storeStation x =
    { s with tables := (s.storeStation x).tables
             evr := { s.evr with notice := none }
             rif := { s.rif with reportQ := s.rif.reportQ.filter (fun z => !z.isNotice) } } := by
  rw [storeStation_tables, storeStation_moved moved]
  refine gatewayChanged_dropped (?_ : (x.gateway.isSome && !s.rif.strapFault) = false)
  rcases deaf with gateway | straps
  · rw [gateway]
    rfl
  · rw [straps]
    exact Bool.and_false _

theorem storeStation_notified {s : State} {x : StationRec} (moved : s.tables.station.gateway ≠ x.gateway) {m : Nat}
    (gateway : x.gateway = some m) (straps : s.rif.strapFault = false) : s.storeStation x =
    { s with tables := (s.storeStation x).tables
             evr := { s.evr with notice := some s.summary }
             rif := s.rif.putNotice (makeFrame s.rif.node m 11
               (summaryBytes s.summary ++ be32 s.evr.ms ++ be16 s.evr.nextSeq)) } := by
  rw [storeStation_tables, storeStation_moved moved]
  exact gatewayChanged_notified gateway straps

/-! ### The stream map, R9 -/

/-- A map write: the points whose feed changes lose their reference sequence. -/
theorem writeMap_point (s : State) (t : Tables) (q : Point) : (s.writeMap t).smp.points[q] =
    if feedOf s.tables q.val = feedOf t q.val then s.smp.points[q] else { s.smp.points[q] with ref := none } := by
  simp [State.writeMap]

/-! ### CURVE, R145 -/

theorem curveWith_getElem (entries : List Nat) (tab : Vector Nat 65) (start : Nat) (j : Nat) (inside : j < 65) :
    (curveWith tab start entries)[j] =
      if start ≤ j ∧ j < start + entries.length then entries.getD (j - start) 0 else tab[j] := by
  induction entries generalizing tab start with
  | nil => exact (if_neg (by simp only [List.length_nil]; omega)).symm
  | cons a rest ih =>
    rw [curveWith, ih, List.length_cons]
    by_cases here : j = start
    · subst here
      rw [if_neg (by omega), if_pos (by omega), Vector.getElem_setIfInBounds_self, Nat.sub_self]
      rfl
    · have keeps : (tab.setIfInBounds start a)[j] = tab[j] := Vector.getElem_setIfInBounds_ne _ (Ne.symm here)
      rw [keeps]
      by_cases behind : start + 1 ≤ j ∧ j < start + 1 + rest.length
      · rw [if_pos behind, if_pos (by omega), show j - start = j - (start + 1) + 1 by omega]
        rfl
      · rw [if_neg behind, if_neg (by omega)]

theorem curveWith_eq (tab : Vector Nat 65) (start : Nat) (entries : List Nat) : curveWith tab start entries =
    Vector.ofFn fun j : Fin 65 =>
      if start ≤ j.val ∧ j.val < start + entries.length then entries.getD (j.val - start) 0 else tab[j] := by
  refine Vector.ext fun j inside => ?_
  rw [curveWith_getElem _ _ _ j inside, Vector.getElem_ofFn]
  rfl

/-! ### CHAIN, R185 -/

theorem writable_iff (st : RecorderState) :
    st.writable = true ↔ st = .idle ∨ ∃ length reason, st = .held length reason := by
  cases st <;> simp [RecorderState.writable]

theorem reports_storeChain {s : State} (c : List ChainDesc) (free : s.drc.state.writable = true) :
    Reports { s with tables := { s.tables with chain := c }, drc := { s.drc with state := .idle } }
      (s.storeChain c) [] := by
  have stored : Reports { s with tables := { s.tables with chain := c }, drc := { s.drc with state :=
      match s.drc.state with
      | .held _ _ => .idle
      | st => st } } (s.storeChain c) [] :=
    reports_changing (fun u => ⟨fun _ _ => rfl, rfl, rfl, rfl, rfl, rfl, rfl⟩) (reports_refl s)
  obtain idle | ⟨length, reason, held⟩ := (writable_iff _).1 free
  · rw [idle] at stored
    exact stored
  · rw [held] at stored
    exact stored

theorem storeChain_tables (s : State) (c : List ChainDesc) :
    (s.storeChain c).tables = { s.tables with chain := c } := noteChange_tables ..

/-! ### Each write served -/

/-- The recorder may be written, by its state. -/
theorem writable_eq (st : RecorderState) : st.writable = match st with
    | .idle => true
    | .held _ _ => true
    | _ => false := by
  cases st <;> rfl

theorem recorder_refusal (x : RecorderRec) (st : RecorderState) : checkRecorder x st.writable =
    if ¬ (1 ≤ x.points.length ∧ x.points.length ≤ 8 ∧ (∀ q ∈ x.points, q ≤ 23) ∧ 1 ≤ x.postCount ∧
        x.postCount ≤ 4096 ∧ 256 ≤ x.cap ∧ x.cap ≤ 16384) then some .range
      else if ¬ x.points.Nodup then some .duplicate
      else match st with
        | .idle => none
        | .held _ _ => none
        | _ => some .busy := by
  rw [recorder_checked]
  cases st <;> rfl

theorem stationWrite_written {s : State} {r : Request} (granted : Granted s r 2 1) {x : StationRec}
    (data : x = decodeStation r.data) {v : Nat} (clamped : v = if s.tables.regulator.vSet < x.vSetMin then x.vSetMin
      else if x.vSetMax < s.tables.regulator.vSet then x.vSetMax else s.tables.regulator.vSet) :
    Written .stationWrite s r (checkStation s.tables x)
      { s.tables with station := x, regulator := { s.tables.regulator with vSet := v } } fun y =>
        (s.tables.station.gateway = x.gateway → y = { popped s with tables := y.tables }) ∧
        (s.tables.station.gateway ≠ x.gateway → (x.gateway = none ∨ s.rif.strapFault = true →
          y = { popped s with
            tables := y.tables, evr := { s.evr with notice := none }
            rif := { s.rif with reportQ := s.rif.reportQ.filter (fun z => !z.isNotice) } }) ∧
          (∀ m, x.gateway = some m → s.rif.strapFault = false →
            y = { popped s with
              tables := y.tables, evr := { s.evr with notice := some s.summary }
              rif := s.rif.putNotice (makeFrame s.rif.node m 11
                (summaryBytes s.summary ++ be32 s.evr.ms ++ be16 s.evr.nextSeq)) })) := by
  subst data clamped
  exact written_of granted (by decide) rfl rfl (storeStation_tables (popped s) _) fun _ =>
    ⟨storeStation_same (s := popped s), fun moved => ⟨storeStation_deaf (s := popped s) moved, fun _ => storeStation_notified (s := popped s) moved⟩⟩

/-- What a map write leaves, R9. -/
def MapMoved (s y : State) : Prop :=
  y = { popped s with tables := y.tables, smp := { s.smp with points := y.smp.points } } ∧
    ∀ q : Point, y.smp.points[q] = if feedOf s.tables q.val = feedOf y.tables q.val then s.smp.points[q]
      else { s.smp.points[q] with ref := none }

theorem mapPointWrite_written {s : State} {r : Request} (granted : Granted s r 2 2) {e : Option MapPoint}
    (data : decodeMapPoint r.data = some e) : Written .mapPointWrite s r (checkMapPoint s.tables r.index e)
      { s.tables with mapPoint := s.tables.mapPoint.setIfInBounds r.index e } (MapMoved s) := by
  refine written_of granted (by decide) rfl ?_ rfl fun _ => ⟨rfl, writeMap_point (popped s) _⟩
  unfold State.serveMapPoint
  rw [data]
  rfl

theorem mapRangeWrite_written {s : State} {r : Request} (granted : Granted s r 2 3) {e : Option MapRange}
    (data : decodeMapRange r.data = some e) : Written .mapRangeWrite s r (checkMapRange s.tables r.index e)
      { s.tables with mapRange := s.tables.mapRange.setIfInBounds r.index e } (MapMoved s) := by
  refine written_of granted (by decide) rfl ?_ rfl fun _ => ⟨rfl, writeMap_point (popped s) _⟩
  unfold State.serveMapRange
  rw [data]
  rfl

theorem bankWrite_malformed {s : State} {r : Request} {obj : Nat} (object : obj = 5 ∨ obj = 6)
    (granted : Granted s r 2 obj) {f : Feeder} (index : r.index = f.val) (data : decodeBank r.data = none) :
    Serves .bankWrite s r .range [] (popped s) := by
  refine serves_range granted (by simpa using object) rfl ?_
  unfold State.serveBank
  rw [index, feederAt_val, data]

theorem bankWrite_written {s : State} {r : Request} {obj : Nat} (object : obj = 5 ∨ obj = 6)
    (granted : Granted s r 2 obj) {f : Feeder} (index : r.index = f.val) {x : BankRec}
    (data : decodeBank r.data = some x) : Written .bankWrite s r (if BankInRange x then none else some .range)
      (if obj = 5 then { s.tables with bankA := s.tables.bankA.set f x }
        else { s.tables with bankB := s.tables.bankB.set f x }) fun y => y = { popped s with tables := y.tables } := by
  rw [← bank_checked, ← granted.obj]
  refine written_of (y := (popped s).storeBank r.obj f x) granted (by simpa using object) rfl ?_ rfl fun _ => rfl
  unfold State.serveBank
  rw [index, feederAt_val, data]

theorem gateFree_eq (c : Rcu) :
    c.gateFree = decide ((c.state = .off ∨ c.state = .tripped) ∧ c.adoption = false) := by
  rw [Bool.eq_iff_iff]
  simp [Rcu.gateFree]

theorem regulatorWrite_written {s : State} {r : Request} (granted : Granted s r 2 8) {x : RegulatorRec}
    (data : x = decodeRegulator r.data) : Written .regulatorWrite s r
      (checkRegulator s.tables x
        (decide ((s.rcu.state = .off ∨ s.rcu.state = .tripped) ∧ s.rcu.adoption = false)))
      { s.tables with regulator := x } fun y =>
        (x.gateNode = s.tables.regulator.gateNode → y = { popped s with tables := y.tables }) ∧
        (x.gateNode ≠ s.tables.regulator.gateNode → y = { popped s with
          tables := y.tables
          rcu := { s.rcu with status := none, supervised := false, supTimer := some 2000 } }) := by
  subst data
  rw [← gateFree_eq]
  refine written_of granted (by decide) rfl rfl rfl fun _ => ⟨fun same => ?_, fun moved => ?_⟩
  · exact congrArg (fun c => ({ popped s with
      tables := { s.tables with regulator := decodeRegulator r.data }, rcu := c } : State)) (if_pos same.symm)
  · exact congrArg (fun c => ({ popped s with
      tables := { s.tables with regulator := decodeRegulator r.data }, rcu := c } : State)) (if_neg (Ne.symm moved))

theorem offAdopted_iff (c : Rcu) : c.offAdopted = true ↔ c.state = .off ∧ c.adoption = false := by
  simp [Rcu.offAdopted]

theorem curveWrite_written {s : State} {r : Request} (granted : Granted s r 2 9) {entries : List Nat}
    (data : entries = decodeCurve r.data) : Written .curveWrite s r
      (if ¬ (s.rcu.state = .off ∧ s.rcu.adoption = false) then some .state
        else if 65 < r.index + entries.length ∨ ∃ a ∈ entries, 9000 < a then some .range else none)
      { s.tables with curve := Vector.ofFn fun j : Fin 65 =>
          if r.index ≤ j.val ∧ j.val < r.index + entries.length then entries.getD (j.val - r.index) 0
          else s.tables.curve[j] } fun y => y = { popped s with tables := y.tables } := by
  subst data
  have refusal : checkCurve r.index (decodeCurve r.data) s.rcu.offAdopted = _ :=
    (curve_checked ..).trans (if_congr (not_congr (offAdopted_iff s.rcu)) rfl rfl)
  rw [← refusal, ← curveWith_eq]
  exact written_of granted (by decide) rfl rfl rfl fun _ => rfl

theorem recorderWrite_written {s : State} {r : Request} (granted : Granted s r 2 10) {x : RecorderRec}
    (data : x = decodeRecorder r.data) : Written .recorderWrite s r
      (if ¬ (1 ≤ x.points.length ∧ x.points.length ≤ 8 ∧ (∀ q ∈ x.points, q ≤ 23) ∧ 1 ≤ x.postCount ∧
          x.postCount ≤ 4096 ∧ 256 ≤ x.cap ∧ x.cap ≤ 16384) then some .range
        else if ¬ x.points.Nodup then some .duplicate
        else match s.drc.state with
          | .idle => none
          | .held _ _ => none
          | _ => some .busy)
      { s.tables with recorder := x } fun y => y = { popped s with tables := y.tables } := by
  subst data
  rw [← recorder_refusal]
  exact written_of granted (by decide) rfl rfl rfl fun _ => rfl

theorem chainWrite_written {s : State} {r : Request} (granted : Granted s r 2 11) {c : List ChainDesc}
    (data : c = decodeChain r.data) : Written .chainWrite s r
      (checkChain c (match s.drc.state with
        | .idle => true
        | .held _ _ => true
        | _ => false))
      { s.tables with chain := c } fun y => Reports { popped s with
        tables := { s.tables with chain := c }, drc := { s.drc with state := .idle } } y [] := by
  subst data
  rw [← writable_eq]
  refine written_of granted (by decide) rfl rfl (storeChain_tables (popped s) _) fun passes => ?_
  have free : s.drc.state.writable = true := (firstFailing_none_iff _).1 passes (_, .busy) List.mem_cons_self
  exact reports_storeChain (s := popped s) _ free

end Sys2Proof.Machine
end

-- ==== Writes that move sections ====
section
/-!
The writes of NEIGHBOUR and FEEDER, which move the sections of a slot or of a feeder: O59.
-/

namespace Sys2Proof.Machine
open Sys2Proof

/-! ### NEIGHBOUR, R99 -/

/-- The record of slot n stored. -/
def State.neighbourStored (s : State) (n : Slot) (x : NeighbourRec) : State :=
  { s with tables := { s.tables with neighbour := s.tables.neighbour.set n x } }

theorem writeNeighbour_same {s : State} {n : Slot} {x : NeighbourRec}
    (same : x.stationId = s.tables.neighbour[n].stationId ∧ x.linkNode = s.tables.neighbour[n].linkNode ∧
      x.channel = s.tables.neighbour[n].channel) : s.writeNeighbour n x = s.neighbourStored n x := by
  obtain ⟨station, node, channel⟩ := same
  exact congrArg (State.neighbourStored · n x) (if_pos ⟨station.symm, node.symm, channel.symm⟩)

theorem writeNeighbour_up {s : State} {n : Slot} {x : NeighbourRec}
    (moved : ¬ (x.stationId = s.tables.neighbour[n].stationId ∧ x.linkNode = s.tables.neighbour[n].linkNode ∧
      x.channel = s.tables.neighbour[n].channel)) (up : s.sco.link[n].up = true) :
    s.writeNeighbour n x = (s.linkDown n .settings).neighbourStored n x :=
  congrArg (State.neighbourStored · n x)
    ((if_neg fun same => moved ⟨same.1.symm, same.2.1.symm, same.2.2.symm⟩).trans (if_pos up))

theorem writeNeighbour_down {s : State} {n : Slot} {x : NeighbourRec}
    (moved : ¬ (x.stationId = s.tables.neighbour[n].stationId ∧ x.linkNode = s.tables.neighbour[n].linkNode ∧
      x.channel = s.tables.neighbour[n].channel)) (down : s.sco.link[n].up = false) :
    s.writeNeighbour n x = (((sectionsOf s n).foldl (fun z f => z.clearHandshake f .removed) s).modLink n fun l =>
      { l with last := none }).neighbourStored n x := by
  rw [← eachOnSlot_eq rfl]
  exact congrArg (State.neighbourStored · n x)
    ((if_neg fun same => moved ⟨same.1.symm, same.2.1.symm, same.2.2.symm⟩).trans
      (if_neg (Bool.eq_false_iff.1 down)))

/-- What the write of a neighbour moves: the record, its slot, the sections of the slot and their orders and events. -/
structure NeighbourMoved (s y : State) (n : Slot) (x : NeighbourRec) : Prop where
  untouched : Untouched s { y with tables := s.tables, sco := { y.sco with link := s.sco.link } }
  tables : y.tables = { s.tables with neighbour := s.tables.neighbour.set n x }
  others : ∀ m : Slot, m ≠ n → y.sco.link[m] = s.sco.link[m]
  blocks : BlocksKept s y

theorem NeighbourMoved.stored {s v : State} {n : Slot} (x : NeighbourRec)
    (untouched : Untouched s { v with sco := { v.sco with link := s.sco.link } })
    (others : ∀ m : Slot, m ≠ n → v.sco.link[m] = s.sco.link[m]) (blocks : BlocksKept s v) :
    NeighbourMoved s (v.neighbourStored n x) n x := by
  obtain ⟨phase, pending, clock, tables, smp, mga, link, ms, rif⟩ := untouched
  obtain ⟨fpu, rcu, stl, drc⟩ := blocks
  refine ⟨⟨phase, pending, clock, rfl, smp, mga, link, ms, rif⟩, ?_, others, ⟨fpu, rcu, stl, drc⟩⟩
  exact congrArg (fun t : Tables => { t with neighbour := t.neighbour.set n x }) tables

theorem clearSections_calm (s : State) (l : List Feeder) : Calm s (l.foldl (fun z f => z.clearHandshake f .removed) s) :=
  foldl_sections_calm (fun s f => clearHandshake_step s f .removed) l s

theorem writeNeighbour_moved (s : State) (n : Slot) (x : NeighbourRec) : NeighbourMoved s (s.writeNeighbour n x) n x := by
  by_cases same : x.stationId = s.tables.neighbour[n].stationId ∧ x.linkNode = s.tables.neighbour[n].linkNode ∧
      x.channel = s.tables.neighbour[n].channel
  · rw [writeNeighbour_same same]
    exact .stored x (Calm.refl s).untouched (fun _ _ => rfl) (.refl s)
  cases up : s.sco.link[n].up with
  | true =>
    obtain ⟨link, -, untouched, blocks⟩ := linkDown_shows s n .settings
    rw [writeNeighbour_up same up]
    refine .stored x untouched (fun m other => ?_) blocks
    rw [link]
    exact Vector.getElem_set_ne _ _ fun is => other (Fin.ext is.symm)
  | false =>
    have calm := clearSections_calm s (sectionsOf s n)
    obtain ⟨fpu, rcu, stl, drc⟩ := foldl_blocks (fun s f => clearHandshake_blocks s f .removed) (sectionsOf s n) s
    rw [writeNeighbour_down same up]
    refine .stored x ?_ (fun m other => ?_) ⟨fpu, rcu, stl, drc⟩
    · obtain ⟨phase, pending, clock, tables, smp, mga, -, ms, rif⟩ := calm.untouched
      exact ⟨phase, pending, clock, tables, smp, mga, rfl, ms, rif⟩
    · rw [modLink_ne _ _ _ _ other.symm, calm.link]

theorem writeNeighbour_links {s : State} {n : Slot} {x : NeighbourRec}
    (moved : ¬ (x.stationId = s.tables.neighbour[n].stationId ∧ x.linkNode = s.tables.neighbour[n].linkNode ∧
      x.channel = s.tables.neighbour[n].channel)) (down : s.sco.link[n].up = false) {v : State}
    (cleared : v = (sectionsOf s n).foldl (fun z f => z.clearHandshake f .removed) s) :
    s.writeNeighbour n x = { v with
      tables := (s.writeNeighbour n x).tables
      sco := { v.sco with link := s.sco.link.set n { s.sco.link[n] with last := none } } } := by
  have calm : Calm s v := cleared ▸ clearSections_calm s (sectionsOf s n)
  rw [writeNeighbour_down moved down, ← cleared, ← calm.link]
  rfl

/-- What the write of a neighbour leaves, R99 with R104: the record alone when the identity of the slot stays, the slot
DOWN when it was UP, and else the handshakes of its sections cleared and its last frame dropped. -/
def NeighbourLeft (s y : State) (n : Slot) (x : NeighbourRec) : Prop :=
  Untouched s { y with tables := s.tables, sco := { y.sco with link := s.sco.link } } ∧
    (∀ m : Slot, m ≠ n → y.sco.link[m] = s.sco.link[m]) ∧ y.rcu = s.rcu ∧ y.stl = s.stl ∧ y.drc = s.drc ∧
    (let same : Prop := x.stationId = s.tables.neighbour[n].stationId ∧
        x.linkNode = s.tables.neighbour[n].linkNode ∧ x.channel = s.tables.neighbour[n].channel
     (same → y = { s with tables := y.tables }) ∧
      (¬ same → s.sco.link[n].up = true → ∃ v : State, SlotDown s v n .settings none ∧
        y = { v with tables := y.tables }) ∧
      (¬ same → s.sco.link[n].up = false → ∃ v : State,
        v = (sectionsOf s n).foldl (fun z f => z.clearHandshake f .removed) s ∧
        y = { v with tables := y.tables
                     sco := { v.sco with link := s.sco.link.set n { s.sco.link[n] with last := none } } }))

theorem writeNeighbour_left (s : State) (n : Slot) (x : NeighbourRec) : NeighbourLeft s (s.writeNeighbour n x) n x := by
  obtain ⟨untouched, _, others, _, rcu, stl, drc⟩ := writeNeighbour_moved s n x
  refine ⟨untouched, others, rcu, stl, drc, fun same => ?_, fun moved up =>
    ⟨s.linkDown n .settings, linkDown_down s n .settings, ?_⟩, fun moved down =>
      ⟨_, rfl, writeNeighbour_links moved down rfl⟩⟩
  · rw [writeNeighbour_same same]
    rfl
  · rw [writeNeighbour_up moved up]
    rfl

theorem neighbourWrite_written {s : State} {r : Request} (granted : Granted s r 2 7) {n : Slot}
    (index : r.index = n.val) {x : NeighbourRec} (data : x = decodeNeighbour r.data) :
    Written .neighbourWrite s r (checkNeighbour s.tables n x)
      { s.tables with neighbour := s.tables.neighbour.set n x } fun y => NeighbourLeft (popped s) y n x := by
  subst data
  refine written_of granted (by decide) rfl ?_ (writeNeighbour_moved (popped s) n _).tables fun _ =>
    writeNeighbour_left (popped s) n _
  unfold State.serveNeighbour
  rw [index, slotAt_val]
  rfl

/-! ### FEEDER, R50, R51 and R106 -/

/-- The section number, the slot or in use changes. -/
def identityMoved (old x : FeederRec) : Prop :=
  x.secNo ≠ old.secNo ∨ x.slot ≠ old.slot ∨ x.inUse ≠ old.inUse

theorem identityMoved_iff {old x : FeederRec} :
    (old.secNo != x.secNo || old.slot != x.slot || old.inUse != x.inUse) = true ↔ identityMoved old x := by
  unfold identityMoved
  simp only [Bool.or_eq_true, bne_iff_ne, or_assoc, ne_comm]

/-- The record of a feeder stored, its controller and its protection unit in their state for it (R22, R50, R51). -/
theorem storeFeeder_same {s : State} {f : Feeder} {x : FeederRec} (same : x.inUse = s.tables.feeder[f].inUse) :
    Reports { s with
      tables := { s.tables with feeder := s.tables.feeder.set f x }
      fct := s.fct.set f { s.fct[f] with attempts := min s.fct[f].attempts x.attempts } } (s.storeFeeder f x) [] := by
  have stored := reports_changing (g := fun s : State =>
    ({ s with tables := { s.tables with feeder := s.tables.feeder.set f x } } : State).modFct f fun c =>
      { c with attempts := min c.attempts x.attempts })
    (fun _ => ⟨fun _ _ => rfl, rfl, rfl, rfl, rfl, rfl, rfl⟩) (reports_refl s)
  have store : s.storeFeeder f x = s.changing fun s : State =>
      ({ s with tables := { s.tables with feeder := s.tables.feeder.set f x } } : State).modFct f fun c =>
        { c with attempts := min c.attempts x.attempts } :=
    congrArg (State.noteChange · s.summary) (if_pos same.symm)
  rw [store]
  exact stored

theorem storeFeeder_moved {s : State} {f : Feeder} {x : FeederRec} (moved : x.inUse ≠ s.tables.feeder[f].inUse) :
    Reports { s with
      tables := { s.tables with feeder := s.tables.feeder.set f x }
      fct := (s.fct.set f (if x.inUse = true then { Fct.reset with state := .unknown, supTimer := some 2000 }
        else { Fct.reset with status := s.fct[f].status, supervised := s.fct[f].supervised }))
      fpu := s.fpu.set f { s.fpu[f] with imaxRun := 0, ddl := { iPrev := none, run := none }, sum := 0
                                         count := 0, theta := 0, alarmMark := false, tripMark := false } }
      (s.storeFeeder f x) [] := by
  have stored := reports_changing (g := fun s : State =>
    (({ s with tables := { s.tables with feeder := s.tables.feeder.set f x } } : State).modFct f fun c =>
      c.useChanged x.inUse).modFpu f Fpu.useChanged)
    (fun _ => ⟨fun _ _ => rfl, rfl, rfl, rfl, rfl, rfl, rfl⟩) (reports_refl s)
  have store : s.storeFeeder f x = s.changing fun s : State =>
      (({ s with tables := { s.tables with feeder := s.tables.feeder.set f x } } : State).modFct f fun c =>
        c.useChanged x.inUse).modFpu f Fpu.useChanged :=
    congrArg (State.noteChange · s.summary) (if_neg (Ne.symm moved))
  rw [store]
  exact stored

/-- What a write of a feeder leaves untouched. -/
structure FeederMoved (s y : State) : Prop where
  untouched : Untouched s { y with tables := s.tables }
  rcu : y.rcu = s.rcu
  stl : y.stl = s.stl
  drc : y.drc = s.drc

theorem FeederMoved.trans {s t u : State} (h : FeederMoved s t) (k : FeederMoved t u) : FeederMoved s u := by
  obtain ⟨phase, pending, clock, -, smp, mga, link, ms, rif⟩ := h.untouched.trans (t := { t with tables := s.tables })
    (u := { u with tables := s.tables }) ⟨k.untouched.phase, k.untouched.pending, k.untouched.clock, rfl, k.untouched.smp,
      k.untouched.mga, k.untouched.link, k.untouched.ms, k.untouched.rif⟩
  exact ⟨⟨phase, pending, clock, rfl, smp, mga, link, ms, rif⟩, k.rcu.trans h.rcu, k.stl.trans h.stl,
    k.drc.trans h.drc⟩

theorem FeederMoved.of_blocks {s t : State} (calm : Calm s t) (blocks : BlocksKept s t) : FeederMoved s t := by
  obtain ⟨phase, pending, clock, -, smp, mga, link, ms, rif⟩ := calm.untouched
  exact ⟨⟨phase, pending, clock, rfl, smp, mga, link, ms, rif⟩, blocks.rcu, blocks.stl, blocks.drc⟩

/-- Storing a record moves the tables, the controllers and the protection units alone. -/
theorem storeFeeder_keeps (s : State) (f : Feeder) (x : FeederRec) : FeederMoved s (s.storeFeeder f x) ∧
    (s.storeFeeder f x).tables = { s.tables with feeder := s.tables.feeder.set f x } ∧
    (s.storeFeeder f x).sco = s.sco := by
  by_cases same : x.inUse = s.tables.feeder[f].inUse
  · have stored := storeFeeder_same same
    obtain ⟨phase, pending, clock, tables, smp, mga, link, ms, rif⟩ := stored.untouched
    exact ⟨⟨⟨phase, pending, clock, rfl, smp, mga, link, ms, rif⟩, stored.rcu, stored.stl, stored.drc⟩, tables,
      stored.sco⟩
  · have stored := storeFeeder_moved same
    obtain ⟨phase, pending, clock, tables, smp, mga, link, ms, rif⟩ := stored.untouched
    exact ⟨⟨⟨phase, pending, clock, rfl, smp, mga, link, ms, rif⟩, stored.rcu, stored.stl, stored.drc⟩, tables,
      stored.sco⟩

theorem takeStanding_blocks (s : State) (f : Feeder) (e : SectionEntry) : BlocksKept s (s.takeStanding f e) := by
  unfold State.takeStanding
  dsimp only
  split
  · obtain ⟨fpu, rcu, stl, drc⟩ := (quiet_post (s.modHs f fun h =>
      { h with seenReq := e.ttReq, seenAck := e.ttAck, ttAck := h.ttAck || (e.ttReq && s.sco.sect[f].coupled) })
      .ttReceived _ (some .standing) _).blocks
    exact ⟨fpu, rcu, stl, drc⟩
  · exact ⟨rfl, rfl, rfl, rfl⟩

/-- The far-end report of a section whose record is x, from the last frame of its slot while the slot is UP. -/
def freshEntry (s : State) (x : FeederRec) : Option SectionEntry :=
  let link : LinkState := s.sco.link[slotOf x]
  if x.inUse = true ∧ x.secNo ≠ 0 ∧ link.up = true then
    link.last.bind fun fr => (fr.entries.take 10).find? fun e => decide (e.secNo = x.secNo)
  else none

theorem freshReport_eq {s t : State} {f : Feeder} {x : FeederRec} (record : t.tables.feeder[f] = x)
    (link : t.sco.link = s.sco.link) : t.freshReport f = freshEntry s x := by
  subst record
  unfold State.freshReport freshEntry
  rw [link]
  refine if_congr ?_ rfl rfl
  rw [Bool.and_eq_true, coordinated_iff, and_assoc]

/-- The states of the write of a feeder, R106: the handshake cleared, the record stored, the far-end report, coupling
and bank, and the flags of a report newly present. -/
def State.feederCleared (s : State) (f : Feeder) (moved : Bool) : State :=
  if moved then s.clearHandshake f .removed else s

def State.farRead (s : State) (f : Feeder) (moved : Bool) : State :=
  if moved then s.setFar f (s.freshReport f) else s

def State.evaluatedIf (s : State) (f : Feeder) (due : Bool) : State := if due then s.reevaluate f else s

def State.standingTaken (s : State) (f : Feeder) (moved : Bool) : State :=
  match moved, s.sco.sect[f].far with
  | true, some e => s.takeStanding f e
  | _, _ => s

theorem writeFeeder_eq {s s1 s2 s3 s4 : State} {f : Feeder} {x : FeederRec} {moved due : Bool}
    (moved_is : moved = (s.tables.feeder[f].secNo != x.secNo || s.tables.feeder[f].slot != x.slot ||
      s.tables.feeder[f].inUse != x.inUse))
    (due_is : due = (moved || s.tables.feeder[f].testEnd != x.testEnd ||
      s.tables.feeder[f].localCoupled != x.localCoupled))
    (cleared : s1 = s.feederCleared f moved) (stored : s2 = s1.storeFeeder f x) (read : s3 = s2.farRead f moved)
    (evaluated : s4 = s3.evaluatedIf f due) :
    s.writeFeeder f x = reportedFrom s (s4.standingTaken f moved) f := by
  subst evaluated read stored cleared due_is moved_is
  exact reportSection_eq ..

theorem feederCleared_moved (s : State) (f : Feeder) (moved : Bool) :
    Calm s (s.feederCleared f moved) ∧ FeederMoved s (s.feederCleared f moved) := by
  cases moved
  · exact ⟨Calm.refl s, .of_blocks (Calm.refl s) (.refl s)⟩
  · exact ⟨calm_clearHandshake s f .removed,
      .of_blocks (calm_clearHandshake s f .removed) (clearHandshake_blocks s f .removed)⟩

theorem farRead_moved (s : State) (f : Feeder) (moved : Bool) :
    Calm s (s.farRead f moved) ∧ FeederMoved s (s.farRead f moved) := by
  cases moved
  · exact ⟨Calm.refl s, .of_blocks (Calm.refl s) (.refl s)⟩
  · exact ⟨calm_setFar s f _, .of_blocks (calm_setFar s f _) ⟨rfl, rfl, rfl, rfl⟩⟩

theorem evaluatedIf_moved (s : State) (f : Feeder) (due : Bool) :
    Calm s (s.evaluatedIf f due) ∧ FeederMoved s (s.evaluatedIf f due) := by
  cases due
  · exact ⟨Calm.refl s, .of_blocks (Calm.refl s) (.refl s)⟩
  · exact ⟨calm_reevaluate s f, .of_blocks (calm_reevaluate s f) (reevaluate_blocks s f)⟩

theorem standingTaken_moved (s : State) (f : Feeder) (moved : Bool) :
    Calm s (s.standingTaken f moved) ∧ FeederMoved s (s.standingTaken f moved) := by
  unfold State.standingTaken
  split
  next e _ => exact ⟨calm_takeStanding s f e, .of_blocks (calm_takeStanding s f e) (takeStanding_blocks s f e)⟩
  next => exact ⟨Calm.refl s, .of_blocks (Calm.refl s) (.refl s)⟩

theorem reportedFrom_moved (old s : State) (f : Feeder) :
    Calm s (reportedFrom old s f) ∧ FeederMoved s (reportedFrom old s f) :=
  ⟨(reportedFrom_step old s f).calm, .of_blocks (reportedFrom_step old s f).calm (reportedFrom_quiet old s f).blocks⟩

/-- The flags of a report newly present are taken as standing. -/
theorem standingTaken_present {s : State} {f : Feeder} {e : SectionEntry} (present : s.sco.sect[f].far = some e) :
    s.standingTaken f true = s.takeStanding f e := by
  unfold State.standingTaken
  rw [present]

theorem standingTaken_absent {s : State} {f : Feeder} (absent : s.sco.sect[f].far = none) :
    s.standingTaken f true = s := by
  unfold State.standingTaken
  rw [absent]

theorem standingTaken_same (s : State) (f : Feeder) : s.standingTaken f false = s := by
  unfold State.standingTaken
  cases s.sco.sect[f].far <;> rfl

/-- Coupling and bank leave the far-end report. -/
theorem evaluatedIf_far (s : State) (f : Feeder) (due : Bool) :
    (s.evaluatedIf f due).sco.sect[f].far = s.sco.sect[f].far := by
  cases due
  · rfl
  · exact (congrArg Section.far (reevaluate_shows s f) :)

theorem writeFeeder_written (s : State) (f : Feeder) (x : FeederRec) :
    FeederWritten s (s.writeFeeder f x) f x ∧ FeederMoved s (s.writeFeeder f x) ∧
      (s.writeFeeder f x).tables = { s.tables with feeder := s.tables.feeder.set f x } := by
  obtain ⟨moved, moved_is⟩ : ∃ moved : Bool, moved = (s.tables.feeder[f].secNo != x.secNo ||
    s.tables.feeder[f].slot != x.slot || s.tables.feeder[f].inUse != x.inUse) := ⟨_, rfl⟩
  obtain ⟨due, due_is⟩ : ∃ due : Bool, due = (moved || s.tables.feeder[f].testEnd != x.testEnd ||
    s.tables.feeder[f].localCoupled != x.localCoupled) := ⟨_, rfl⟩
  obtain ⟨s1, cleared⟩ : ∃ s1, s1 = s.feederCleared f moved := ⟨_, rfl⟩
  obtain ⟨s2, stored⟩ : ∃ s2, s2 = s1.storeFeeder f x := ⟨_, rfl⟩
  obtain ⟨s3, read⟩ : ∃ s3, s3 = s2.farRead f moved := ⟨_, rfl⟩
  obtain ⟨s4, evaluated⟩ : ∃ s4, s4 = s3.evaluatedIf f due := ⟨_, rfl⟩
  have moved_iff : moved = true ↔ identityMoved s.tables.feeder[f] x := by rw [moved_is, identityMoved_iff]
  have due_iff : due = true ↔ (identityMoved s.tables.feeder[f] x ∨ x.testEnd ≠ s.tables.feeder[f].testEnd ∨
      x.localCoupled ≠ s.tables.feeder[f].localCoupled) := by
    rw [due_is, Bool.or_eq_true, Bool.or_eq_true, moved_iff, bne_iff_ne, bne_iff_ne, or_assoc, ne_comm,
      ne_comm (a := x.localCoupled)]
  rw [writeFeeder_eq moved_is due_is cleared stored read evaluated]
  obtain ⟨calm1, kept1⟩ := cleared ▸ feederCleared_moved s f moved
  obtain ⟨kept2, tables2, sco2⟩ := stored ▸ storeFeeder_keeps s1 f x
  obtain ⟨calm3, kept3⟩ := read ▸ farRead_moved s2 f moved
  obtain ⟨calm4, kept4⟩ := evaluated ▸ evaluatedIf_moved s3 f due
  obtain ⟨calm5, kept5⟩ := standingTaken_moved s4 f moved
  obtain ⟨calm6, kept6⟩ := reportedFrom_moved s (s4.standingTaken f moved) f
  rw [calm1.tables] at tables2
  have record : s2.tables.feeder[f] = x := by
    rw [tables2]
    exact Vector.getElem_set_self ..
  have fresh : s2.freshReport f = freshEntry s x := freshReport_eq record (by rw [sco2, calm1.link])
  have far : moved = true → s4.sco.sect[f].far = freshEntry s x := by
    intro is
    subst is
    rw [evaluated, evaluatedIf_far, read]
    exact (congrArg Section.far (setFar_shows s2 f _) :).trans fresh
  refine ⟨⟨s1, s2, s3, s4, s4.standingTaken f moved, fun is => ?_, fun is => ?_, fun same => ?_, fun changed => ?_,
    fun is => ?_, fun is => ?_, fun is => ?_, fun is => ?_, fun e is present => ?_, fun is => ?_, rfl⟩,
    ((((kept1.trans kept2).trans kept3).trans kept4).trans kept5).trans kept6, ?_⟩
  · rw [cleared, moved_iff.2 is]
    rfl
  · rw [cleared, Bool.eq_false_iff.2 fun yes => is (moved_iff.1 yes)]
    rfl
  · rw [stored, ← calm1.tables]
    exact storeFeeder_same (by rw [calm1.tables]; exact same)
  · rw [stored, ← calm1.tables]
    exact storeFeeder_moved (by rw [calm1.tables]; exact changed)
  · rw [read, moved_iff.2 is]
    exact (congrArg (s2.setFar f) fresh :)
  · rw [read, Bool.eq_false_iff.2 fun yes => is (moved_iff.1 yes)]
    rfl
  · rw [evaluated, due_iff.2 is]
    rfl
  · rw [evaluated, Bool.eq_false_iff.2 fun yes => is (due_iff.1 yes)]
    rfl
  · have yes := moved_iff.2 is
    rw [yes]
    exact standingTaken_present ((far yes).trans present)
  · by_cases yes : moved = true
    · have absent : freshEntry s x = none := is.resolve_left fun no => no (moved_iff.1 yes)
      rw [yes]
      exact standingTaken_absent ((far yes).trans absent)
    · rw [Bool.eq_false_iff.2 yes, standingTaken_same]
  · rw [calm6.tables, calm5.tables, calm4.tables, calm3.tables, tables2]

theorem identityFree_eq (st : FeederState) : identityFree st = decide (st = .out ∨ st = .lockout) := by
  cases st <;> rfl

theorem feederWrite_malformed {s : State} {r : Request} (granted : Granted s r 2 4) {f : Feeder}
    (index : r.index = f.val) (data : decodeFeeder r.data = none) :
    Serves .feederWrite s r .range [] (popped s) := by
  refine serves_range granted (by decide) rfl ?_
  unfold State.serveFeeder
  rw [index, feederAt_val, data]

theorem feederWrite_written {s : State} {r : Request} (granted : Granted s r 2 4) {f : Feeder}
    (index : r.index = f.val) {x : FeederRec} (data : decodeFeeder r.data = some x) :
    Written .feederWrite s r
      (checkFeeder s.tables f x (decide (s.fct[f].state = .out ∨ s.fct[f].state = .lockout)))
      { s.tables with feeder := s.tables.feeder.set f x } fun y =>
        Untouched (popped s) { y with tables := s.tables } ∧ y.rcu = s.rcu ∧ y.stl = s.stl ∧ y.drc = s.drc ∧
          FeederWritten (popped s) y f x := by
  obtain ⟨written, ⟨untouched, rcu, stl, drc⟩, tables⟩ := writeFeeder_written (popped s) f x
  rw [← identityFree_eq]
  refine written_of granted (by decide) rfl ?_ tables fun _ => ⟨untouched, rcu, stl, drc, written⟩
  unfold State.serveFeeder
  rw [index, feederAt_val, data]
  rfl

/-- Settles O59: each write by its check and what the owning block does at the change, the checks fault by fault,
and the records read back field by field. -/
theorem settingsWritesServed : Obligations.SettingsWritesServed := by
  refine ⟨fun s r => ⟨fun granted _ data _ clamped => stationWrite_written granted data clamped,
      fun granted _ data => mapPointWrite_written granted data, fun granted _ data => mapRangeWrite_written granted data,
      fun granted f index => ⟨feederWrite_malformed granted index, fun _ data => feederWrite_written granted index data⟩,
      fun obj object granted f index => ⟨bankWrite_malformed object granted index,
        fun _ data => bankWrite_written object granted index data⟩,
      fun granted _ index _ data => neighbourWrite_written granted index data,
      fun granted _ data => regulatorWrite_written granted data,
      fun granted _ data => curveWrite_written granted data, fun granted _ data => recorderWrite_written granted data,
      fun granted _ data => chainWrite_written granted data⟩,
    fun t => ⟨station_checked t, fun _ => ⟨rfl, rfl⟩, mapPoint_checked t, mapRange_checked t, feeder_checked t,
      neighbour_checked t, regulator_checked t, chain_checked⟩,
    fun _ => station_readBack, fun _ => mapPoint_readBack, fun _ => mapRange_readBack, ⟨rfl, rfl⟩,
    fun _ => feeder_readBack, fun _ => bank_readBack, fun _ => neighbour_readBack, fun _ _ => regulator_readBack,
    fun _ => curve_readBack, fun _ => recorder_readBack, fun _ => chain_readBack⟩

end Sys2Proof.Machine
end
